-- ==== Sys2Proof/Word.lean ====
section
/-! DEFINITION. The plain number and bit types that every other file of the model uses.
No operation stands here: the bit-field helpers are in Sys2Proof/Machine/Operands.lean. -/

namespace Sys2Proof

/-- One byte of the configuration block or one character of the scan port. -/
abbrev Byte := BitVec 8

/-- The bits of a lane line frame in the order they stand on the line, first bit first (chapter
The Lane Line, section Frames). -/
abbrev Bits := List Bool

/-- A count of ticks of 100 µs (00_scope.md, Conventions, Units). -/
abbrev Ticks := Nat

/-- A tray number or a difference of tray numbers (00_scope.md, Conventions, Tray numbers). -/
abbrev Tray := Nat

/-- A station ordinal, 0 to 14, or 15 for the bank panel (00_scope.md, Conventions, Ordinals). -/
abbrev LaneOrdinal := Nat

/-- A record's sequence number, 0 to 255, which wraps (R10). -/
abbrev SeqNo := BitVec 8

end Sys2Proof
end

