-- ==== Sys2Proof/Syntax.lean ====
section
/-! DEFINITION. The commands of the part: one constructor of `Instr` for each row of
spec/opcode_table.json, and the operand types. The table gives no operands; each operand is what the
rule named by the row says the part sees at that event (log entry 2). -/

namespace Sys2Proof

/-- The four belt zones in belt order (The Induction Lane, Zones, Belts and Eyes). -/
inductive Zone where
  | place
  | measure
  | stage
  | launch
  deriving DecidableEq, Repr

/-- The five lane eyes read as levels at one instant: true is blocked (R1, R155, R163). -/
structure LaneEyes where
  place    : Bool
  measure  : Bool
  transfer : Bool
  stage    : Bool
  exit     : Bool
  deriving DecidableEq, Repr

/-- One character received at the scan port, with its framing error if it had one (R22). -/
structure ScanChar where
  code    : Byte
  framing : Bool
  deriving DecidableEq, Repr

/-- What ends an attempt at the read (R171): the memory refuses at step 2, 3 or 5 of R170, or the
clock line is found held low during the transfer (R169), after this many of the loader's conditions and
bytes. -/
inductive RefusalCause where
  | addressForWriting
  | wordAddress
  | addressForReading
  | clockHeldLow (passed : Nat)
  deriving DecidableEq, Repr

/-- One look at the memory port in line recovery (R169): the clock line is found low when it should
be high, or the data line reads low or high. -/
inductive RecoverySample where
  | clockLow
  | dataLow
  | dataHigh
  deriving DecidableEq, Repr

/-- How long a button's input was negated before it changed to asserted (R151): without a break since
Loading ended with the input negated, or for a number of ticks. -/
inductive Quiet where
  | sinceLoading
  | ticks (n : Nat)
  deriving DecidableEq, Repr

/-- Edges of the lane line that a node times inside a frame, in parts of Tb (`Config.tb` parts to one
Tb) (R55, R56). -/
inductive Sighting where
  /-- A bit: the end of its dominant part, `none` when the line is still dominant at 1⅛ Tb, and the
  falling edge of the next bit, `none` when none comes by 1⅛ Tb; both from the bit's falling edge. -/
  | bit (dominantEnd nextFall : Option Nat)
  /-- The first bit's falling edge, from the start's rising edge; `none` when none comes by ⅝ Tb. -/
  | firstBit (fall : Option Nat)
  /-- A falling edge after the last bit, from that bit's falling edge. -/
  | afterLast (fall : Nat)
  deriving DecidableEq, Repr

/-- The bit errors of R59. Bits are numbered from 0 at the first bit of the kind field. -/
inductive BitErrorCause where
  /-- The sender sent 1 at this bit, after the sender field, and read 0. -/
  | readZero (bit : Nat)
  /-- The sender sent 0 at this bit and read 1. -/
  | readOne (bit : Nat)
  /-- A bit timing error on a bit of the own frame, or a broken end. -/
  | timing (seen : Sighting)
  /-- During the own start, a dominant run of this many parts of Tb before the line goes recessive. -/
  | startHeld (run : Nat)
  deriving DecidableEq, Repr

/-- How a frame on the lane line comes to the receive frame assembler (R56, R58, R61). -/
inductive Arrival where
  /-- From its start, a dominant run of this many parts of Tb. -/
  | fromStart (run : Nat)
  /-- It is the frame that the assembler is assembling already: the one that won the line from the own
  frame, what follows a bit error of the own frame, or one whose start came as the own frame would have
  begun. -/
  | goesOn
  deriving DecidableEq, Repr

/-- Something of another node's frame, with how that frame comes to the receive frame assembler. -/
structure Heard (α : Type) where
  arrival : Arrival
  what    : α
  deriving DecidableEq, Repr

/-- What the sender sees on the lane line at the instant at which it would begin a frame (R57), both after
`recessive` parts of Tb of recessive line. -/
inductive LineAtBegin where
  /-- The line is recessive. -/
  | idle (recessive : Nat)
  /-- Another node drives the line, with a dominant run of `run` parts of Tb. -/
  | driven (recessive run : Nat)
  deriving DecidableEq, Repr

/-- A completed frame of no known kind (R62, R64): too short for a whole kind field, or kind 6 or 7
with the bits that follow the kind field. -/
inductive UnknownFrame where
  | empty
  | oneBit (a : Bool)
  | twoBits (a b : Bool)
  | kindSix (rest : Bits)
  | kindSeven (rest : Bits)
  deriving DecidableEq, Repr

/-- A command: an event the part takes. One constructor for each row of spec/opcode_table.json, in
the table's order. The frame rows carry how the frame comes to the assembler, and the bits that follow the
kind field, in the order of their arrival, whatever their number and whatever the check field says (R62 to
R65). -/
inductive Instr where
  /-- POWER_ON_RESET (R168). -/
  | powerOnReset
  /-- LINE_RECOVERY (R169): the samples taken, in order. -/
  | lineRecovery (samples : List RecoverySample)
  /-- REFUSAL (R171). -/
  | refusal (cause : RefusalCause)
  /-- TRANSFER (R172): the 64 bytes read, and the lane eyes as they stand when Loading ends (R155). -/
  | transfer (block : Vector Byte 64) (eyes : LaneEyes)
  /-- PLACE_EYE_FRONT_EDGE (R11). -/
  | placeEyeFrontEdge
  /-- MEASURE_EYE_FRONT_EDGE (R8). -/
  | measureEyeFrontEdge
  /-- MEASURE_EYE_CLEARING (R9). -/
  | measureEyeClearing
  /-- TRANSFER_EYE_FRONT_EDGE (R16). -/
  | transferEyeFrontEdge
  /-- TRANSFER_EYE_CLEARING (R16). -/
  | transferEyeClearing
  /-- STAGE_EYE_FRONT_EDGE (R17). -/
  | stageEyeFrontEdge
  /-- STAGE_EYE_CLEARING (R17). -/
  | stageEyeClearing
  /-- EXIT_EYE_FRONT_EDGE (R137). -/
  | exitEyeFrontEdge
  /-- EXIT_EYE_CLEARING (R137). -/
  | exitEyeClearing
  /-- STALL_TIMER_RUNS_OUT (R20): the zone whose timer runs out. -/
  | stallTimerRunsOut (zone : Zone)
  /-- SCAN_RECORD (R24): the characters that arrive at the scan port, in order. -/
  | scanRecord (chars : List ScanChar)
  /-- SCAN_WINDOW_RUNS_OUT (R28): the sequence number of the Measured record. -/
  | scanWindowRunsOut (seq : SeqNo)
  /-- TRAY_EDGE_EVENT (R36): the home, load and confirm eye levels at the event (true is blocked),
  and whether the last bit of the frame in passage, if there is one, has begun (R72). -/
  | trayEdgeEvent (home load confirm lastBitBegun : Bool)
  /-- CONFIRM_EYE_BLOCKED (R39). -/
  | confirmEyeBlocked
  /-- TIMEOUT (R41). -/
  | timeout
  /-- LAUNCH_MOMENT (R134). -/
  | launchMoment
  /-- EXIT_WINDOW_CLOSING (R140). -/
  | exitWindowClosing
  /-- JOINING_ENDS (R54): how long the line has been recessive, in parts of Tb. -/
  | joiningEnds (recessive : Nat)
  /-- FRAME_BEGIN (R57): what the sender sees on the line. -/
  | frameBegin (line : LineAtBegin)
  /-- LOST_ARBITRATION (R58): the bit at which the sender sent 1 and read 0. -/
  | lostArbitration (bit : Nat)
  /-- BIT_ERROR (R59). -/
  | bitError (cause : BitErrorCause)
  /-- BIT_TIMING_ERROR (R61): how the frame came to the assembler, and the edges that it saw. -/
  | bitTimingError (seen : Heard Sighting)
  /-- LINE_FAULT (R67): the length of the dominant run, in parts of Tb. -/
  | lineFault (dominant : Nat)
  /-- LINE_CONDITION_NORMAL (R67): how long the line has been recessive, in parts of Tb. -/
  | lineConditionNormal (recessive : Nat)
  /-- CLAIM_COMPLETION (R130). -/
  | claimCompletion
  /-- HOLD_COMPLETION (R116). -/
  | holdCompletion
  /-- FRAME_COMPLETION (R60). -/
  | frameCompletion
  /-- CLAIM_NOTICE (R83). -/
  | claimNotice (frame : Heard Bits)
  /-- HOLD_NOTICE (R89). -/
  | holdNotice (frame : Heard Bits)
  /-- VACATE_NOTICE (R91). -/
  | vacateNotice (frame : Heard Bits)
  /-- DEMAND_NOTICE (R99). -/
  | demandNotice (frame : Heard Bits)
  /-- STAT_NOTICE (R66). -/
  | statNotice (frame : Heard Bits)
  /-- BANK_HOLD (R74). -/
  | bankHold (frame : Heard Bits)
  /-- BANK_RESUME (R74). -/
  | bankResume (frame : Heard Bits)
  /-- BANK_PACE (R74). -/
  | bankPace (frame : Heard Bits)
  /-- START (R158): how long the button's input had been negated. -/
  | start (quiet : Quiet)
  /-- STOP (R159). -/
  | stop (quiet : Quiet)
  /-- CLEAR (R163), with the lane eyes as levels at the press. -/
  | clear (quiet : Quiet) (eyes : LaneEyes)
  /-- PACE_TIMER_RUNS_OUT (R147). -/
  | paceTimerRunsOut
  /-- FAULT_BLINK_PHASE (R150). -/
  | faultBlinkPhase
  /-- FAULT_BLINK_END (R150). -/
  | faultBlinkEnd
  /-- UNKNOWN_KIND_FRAME (R64). -/
  | unknownKindFrame (frame : Heard UnknownFrame)
  deriving DecidableEq, Repr

end Sys2Proof
end

