-- ==== Sys2Proof/Decode.lean ====
section
/-! DEFINITION. The commands that a word of spec/opcode_table.json's bits spells. The table gives no row
any bits (every row's "fields" is empty and none has "fixed"), because the part takes events and frames
and decodes no instruction word; so no word spells a command. The frames of the lane line, whose bits
the spec does give (R183, R184), are built and read in Sys2Proof/Machine/Operands.lean. -/

/-- The command that the word `w` of `nbits` bits spells: none, for no row of the table has bits. -/
def Sys2Proof.decodeTableWord (_nbits _w : Nat) : Option Sys2Proof.Instr := none
end

