-- ==== Sys2Proof/Config.lean ====
section
/-! DEFINITION. The fixed figures of the part: capacities, bounds and conversions that the spec states
as numbers. Values that an installation chooses are not here: they are the loaded configuration, held
in State (R173). The spec leaves no instruction's result undefined, so there is no free value here. -/

namespace Sys2Proof.Config

/-- Records the parcel queue holds at most (R14). -/
def queueRoom : Nat := 4

/-- The place count saturates here (R11). -/
def placeCountMax : Nat := 15

/-- A measured length above this is taken as this, mm (R9). -/
def lengthMax : Nat := 4095

/-- Ticks in one millisecond (00_scope.md, Units). -/
def ticksPerMs : Nat := 10

/-- Ticks in one second (00_scope.md, Units). -/
def ticksPerSecond : Nat := 10000

/-- The interval timer saturates here (R40). -/
def intervalMax : Nat := 65535

/-- Intervals the history holds, and trays in an epoch (R42, R102). -/
def historyRoom : Nat := 8

/-- Tray edge events in an epoch (R102). -/
def epochLength : Nat := 8

/-- Notices the pending list holds at most (R94). -/
def pendingRoom : Nat := 64

/-- How far beyond Δ a notice may name a tray (R85). -/
def pendingReach : Nat := 48

/-- HOLD and VACATE frames that the transmit queue holds together at most (R68). -/
def holdVacateRoom : Nat := 5

/-- The tray edge event after admission at which a VACATE reaches its deadline (R72). -/
def vacateEvents : Nat := 8

/-- The credit accumulator's cap (R109). -/
def creditMax : Nat := 32

/-- The cost of a tray that is not held for this station (R110). -/
def trayCost : Nat := 16

/-- The own starve count saturates here (R111). -/
def starveMax : Nat := 255

/-- Entries the placed-hold list holds at most (R113). -/
def heldRoom : Nat := 8

/-- The age at which a peer becomes Absent (R101). -/
def peerAgeMax : Nat := 4

/-- The lapse count at which an Active peer becomes Lax (R118). -/
def lapseMax : Nat := 2

/-- Station ordinals in a bank, and entries of the peer table (R98). -/
def stations : Nat := 15

/-- The ordinal of the bank panel, and the BANK target that names every station (R64, R74). -/
def panel : Nat := 15

/-- A counter of the report unit saturates here (R178). -/
def counterMax : Nat := 65535

/-- Epoch boundaries between regular STAT offers (R179). -/
def statBoundaries : Nat := 16

/-- Counter groups of the STAT notice (R180). -/
def counterGroups : Nat := 5

/-- The largest pace limit, parcels per minute (R74). -/
def paceLimitMax : Nat := 60

/-- Length of the FAULT lamp's blink, ticks: 2000 ms (R150). -/
def blinkTicks : Nat := 20000

/-- Length of one phase of the blink, ticks: 250 ms (R150). -/
def blinkPhaseTicks : Nat := 2500

/-- How long a button's input must have been negated before a press, ticks: 20 ms (R151). -/
def debounceTicks : Nat := 200

/-- Read attempts of the loader in all (R171). -/
def loadAttempts : Nat := 4

/-- Clock pulses that line recovery gives at most (R169). -/
def recoveryPulses : Nat := 9

/-- Characters of the longest scan record (R185). -/
def scanRecordMax : Nat := 13

/-- Bytes of the configuration block (R170). -/
def blockBytes : Nat := 64

/-- Times on the lane line are written in parts of Tb; one Tb is this many parts.
DESIGN CHOICE (log entry 6), safe: the spec states the windows as eighths of Tb, and 64 parts divide
each eighth into eight. -/
def tb : Nat := 64

/-- Whether the confirm eye, seen blocked since the last tray edge event, is blocked still at a timeout that is
a resync: FREE VALUE (log entry 36), one for each such timeout in turn. The table has no row for the clearing of
the confirm eye, so no command says it. -/
opaque confirmEyeStaysBlocked : Nat → Bool

end Sys2Proof.Config
end

