-- ==== Sys2Proof/Machine/State.lean ====
section
/-! DEFINITION. The state of the part as plain data, block by block as 00_scope.md's table of functional
blocks gives it, the reasons a step can stop, and the state right after power-on reset. -/

namespace Sys2Proof.Machine

/-! ## The loaded configuration (R173, R186) -/

/-- The no-read action (R30). -/
inductive NoReadAction where
  | reject
  | induct
  deriving DecidableEq, Repr

/-- The line bit rates, kbit/s (R54). -/
inductive BitRate where
  | kbit62
  | kbit125
  | kbit250
  deriving DecidableEq, Repr

/-- The scan baud rates (R22). -/
inductive ScanBaud where
  | baud19200
  | baud38400
  | baud115200
  deriving DecidableEq, Repr

/-- A destination filter (R31). -/
structure Filter where
  enabled : Bool
  base    : BitVec 16
  mask    : BitVec 16
  deriving DecidableEq, Repr

/-- The class of a station (R105). -/
inductive LaneClass where
  | standard
  | express
  deriving DecidableEq, Repr

/-- The loaded configuration, one field for each row of the table of R173. -/
structure Settings where
  /-- Ordinal, 0 to 14. -/
  ordinal        : LaneOrdinal
  laneClass      : LaneClass
  /-- Merge offset, 0 to N−1. -/
  offset         : Nat
  /-- N, 64 to 4095. -/
  trays          : Nat
  /-- Pitch, 400 to 1600 mm. -/
  pitch          : Nat
  /-- W, 9 to 63 trays. -/
  window         : Nat
  /-- c, 1 to 4 trays. -/
  margin         : Nat
  /-- d_path, mm. -/
  path           : Nat
  /-- a, mm/s². -/
  accel          : Nat
  /-- v_conv, mm/s. -/
  conveying      : Nat
  /-- Noise floor, mm. -/
  noiseFloor     : Nat
  /-- Minimum length, mm. -/
  minLength      : Nat
  /-- Stall time, s. -/
  stallTime      : Nat
  /-- Scan window, ms. -/
  scanWindow     : Nat
  noRead         : NoReadAction
  /-- Filters 0 to 3. -/
  filters        : List Filter
  floorShare     : Nat
  starveThreshold : Nat
  /-- I_min, ms. -/
  intervalMin    : Nat
  /-- I_max, ms. -/
  intervalMax    : Nat
  bitRate        : BitRate
  scanBaud       : ScanBaud
  /-- The alert mapping: for each event flag, in the order of R176, its output or none. -/
  alerts         : List (Option (Fin 4))
  deriving DecidableEq, Repr

/-- What a block reads where no configuration is loaded. No block that reads a configured value runs
then (R36, R54, R154), so no meaning rests on it. -/
def Settings.blank : Settings where
  ordinal := 0
  laneClass := .standard
  offset := 0
  trays := 0
  pitch := 0
  window := 0
  margin := 0
  path := 0
  accel := 0
  conveying := 0
  noiseFloor := 0
  minLength := 0
  stallTime := 0
  scanWindow := 0
  noRead := .reject
  filters := []
  floorShare := 0
  starveThreshold := 0
  intervalMin := 0
  intervalMax := 0
  bitRate := .kbit125
  scanBaud := .baud38400
  alerts := []

/-! ## Configuration loader (R168) -/

/-- Where the loader stands in its read (R168 to R171): in line recovery or in the transfer, with the
attempt count, or at rest with both port lines released. -/
inductive LoaderPhase where
  | recovering (attempts : Nat)
  | transferring (attempts : Nat)
  | released
  deriving DecidableEq, Repr

/-- What the loader does on the memory port (R169, R170). Every byte goes with its eight clock pulses, most
significant bit first, and a ninth for the acknowledgement. -/
inductive PortAct where
  /-- A clock pulse of line recovery, with the data line released. -/
  | pulse
  | startCondition
  | stopCondition
  /-- A byte sent; the memory acknowledges it or refuses it. -/
  | send (byte : Byte)
  /-- A byte of the memory taken, and acknowledged by holding the data line low, or refused. -/
  | take (acknowledged : Bool)
  deriving DecidableEq, Repr

/-- The configuration loader (R168, R175). -/
structure Loader where
  /-- The loaded configuration; `none` is empty. -/
  conf   : Option Settings
  /-- The configuration lock; true is closed. -/
  locked : Bool
  phase  : LoaderPhase
  /-- What the loader has done on the memory port in the last line recovery or the last transfer: the port's
  output (R169, R170). -/
  port   : List PortAct
  deriving DecidableEq, Repr

/-! ## Lane sequencer (R12 to R21) -/

/-- The number of trays a parcel occupies. -/
inductive Span where
  | one
  | two
  deriving DecidableEq, Repr

/-- The phases of a parcel record (R13). -/
inductive Phase where
  | measuring
  | measured
  | bound
  | staged
  | committed
  | announced
  | launching
  | rejected
  | conflict
  deriving DecidableEq, Repr

/-- The committed tray, the launch edge tray and the delay, which a record holds together (R12). -/
structure Placement where
  tray  : Tray
  edge  : Tray
  delay : Ticks
  deriving DecidableEq, Repr

/-- A parcel record (R12). -/
structure Parcel where
  /-- Sequence number, from Measured. -/
  seq          : Option SeqNo
  /-- Lp in mm, from Measured. -/
  length       : Option Nat
  /-- Span, from Bound. -/
  span         : Option Span
  phase        : Phase
  /-- The zone that holds the parcel (R13). -/
  zone         : Zone
  placement    : Option Placement
  /-- Blocked-time count, in Measuring only (R9). -/
  blockedTicks : Option Ticks
  /-- Scan window timer, in Measured only (R28). -/
  scanTimer    : Option Ticks
  /-- Whether the record lowered the place count at its creation (R8). -/
  loweredCount : Bool
  /-- Whether its front edge at the transfer eye has been taken (R16). -/
  atTransfer   : Bool
  /-- Whether its front edge at the stage eye has been taken (R17). -/
  atStage      : Bool
  deriving DecidableEq, Repr

/-- A record as it is created (R8). -/
def Parcel.fresh (lowered : Bool) : Parcel where
  seq := none
  length := none
  span := none
  phase := .measuring
  zone := .measure
  placement := none
  blockedTicks := some 0
  scanTimer := none
  loweredCount := lowered
  atTransfer := false
  atStage := false

/-- Who holds the stage or the launch belt (R2). -/
inductive Holder where
  | sequencer
  | launchUnit
  deriving DecidableEq, Repr

/-- The four stall timers: `none` is stopped, `some n` runs with n ticks remaining (R19). -/
structure StallTimers where
  place   : Option Ticks
  measure : Option Ticks
  stage   : Option Ticks
  launch  : Option Ticks
  deriving DecidableEq, Repr

/-- All four stall timers stopped (R19). -/
def StallTimers.stopped : StallTimers := ⟨none, none, none, none⟩

/-- The lane sequencer (R21). -/
structure Lane where
  /-- The parcel queue, launch end first (R14). -/
  queue        : List Parcel
  placeCount   : Nat
  nextSeq      : SeqNo
  /-- Levels of the four lane eyes whose front edges and clearings are both events; true is blocked.
  The place eye is read as a level only where `Instr` carries the reading (log entry 9). -/
  measureEye   : Bool
  transferEye  : Bool
  stageEye     : Bool
  exitEye      : Bool
  /-- Whether the parcel at the blocked transfer eye has no record: its record was deleted as noise after its
  front edge there (R1, R9). -/
  transferStray : Bool
  stall        : StallTimers
  stageHolder  : Holder
  launchHolder : Holder
  deriving DecidableEq, Repr

/-! ## Scan binder (R22 to R29) -/

/-- The three values of a well-formed scan record. -/
structure ScanData where
  seq         : Nat
  destination : Nat
  quality     : Nat
  deriving DecidableEq, Repr

/-- The record in the scan slot, with its age (R25). -/
structure ScanSlot where
  record : ScanData
  age    : Ticks
  deriving DecidableEq, Repr

/-- The scan port and the scan binder. -/
structure Scan where
  /-- The characters of the open record, start character first; `none` when no record is open (R22). -/
  openRecord   : Option (List ScanChar)
  /-- The last accepted scan sequence (R24). -/
  lastSequence : Option Nat
  slot         : Option ScanSlot
  deriving DecidableEq, Repr

/-! ## Tray tracker (R36 to R53) -/

/-- The tracking states (R43). -/
inductive Tracking where
  | unsynced
  | filling
  | locked
  deriving DecidableEq, Repr

/-- The tray tracker (R53). P̄ is computed from the history (R42). -/
structure Tracker where
  tracking   : Tracking
  /-- The tray count e. -/
  count      : Option Tray
  /-- Edges since home (R44). -/
  sinceHome  : Nat
  /-- Tray edge events taken since Filling was entered or rebuilt (R43, R45). -/
  fillEvents : Nat
  /-- The interval history, oldest first (R42). -/
  history    : List Ticks
  /-- The interval timer; `none` is stopped (R40). -/
  timer      : Option Ticks
  /-- The confirm latch (R39). -/
  latch      : Bool
  /-- Whether a latch period has begun (R39). -/
  latchBegun : Bool
  /-- Timeouts that were resyncs: which of the free values `Config.confirmEyeStaysBlocked` the next one takes.
  The model's own, no state of the spec (log entry 36). -/
  timeouts   : Nat
  deriving DecidableEq, Repr

/-! ## Tray window (R76 to R97) -/

/-- A load reading (R77). -/
inductive Reading where
  | unread
  | empty
  | loaded
  deriving DecidableEq, Repr

/-- Which tray of a span a part names (R84). -/
inductive PartFlag where
  | first
  | second
  deriving DecidableEq, Repr

/-- What a governing notice holds (R77). -/
inductive GoverningNotice where
  | claim (sender : LaneOrdinal) (span : Span) (part : PartFlag) (firstTray : Tray)
  | hold (sender target : LaneOrdinal)
  deriving DecidableEq, Repr

/-- The governing notice of an entry, with its standing (R89). -/
structure Governing where
  notice   : GoverningNotice
  standing : LaneOrdinal
  deriving DecidableEq, Repr

/-- The own mark of an entry (R81). -/
inductive OwnMark where
  | none
  | claimedByMe
  | heldByMe
  deriving DecidableEq, Repr

/-- A window entry (R77). -/
structure Entry where
  tray      : Tray
  reading   : Reading
  governing : Option Governing
  mark      : OwnMark
  decided   : Bool
  deriving DecidableEq, Repr

/-- A window entry as it is created (R78, R79). -/
def Entry.fresh (tray : Tray) (reading : Reading) : Entry := ⟨tray, reading, none, .none, false⟩

/-- What a notice or part says about its tray (R84, R94). -/
inductive NoticeBody where
  | claim (span : Span) (part : PartFlag) (firstTray : Tray)
  | hold (target : LaneOrdinal)
  | vacate (span : Span) (part : PartFlag) (firstTray : Tray)
  deriving DecidableEq, Repr

/-- A notice, or a part of one, about one tray (R84). -/
structure Part where
  tray   : Tray
  sender : LaneOrdinal
  body   : NoticeBody
  deriving DecidableEq, Repr

/-- A notice in the pending list (R94); its place in the list is its order of arrival. -/
structure PendingNotice where
  part       : Part
  superseded : Bool
  deriving DecidableEq, Repr

/-- The tray window and the pending list. -/
structure Window where
  /-- The entries, near end first (R76). -/
  entries : List Entry
  /-- The pending list, nearest first (R94). -/
  pending : List PendingNotice
  deriving DecidableEq, Repr

/-! ## Share unit (R98 to R120) -/

/-- The presence of a peer (R98). -/
inductive Presence where
  | absent
  | active
  | lax
  deriving DecidableEq, Repr

/-- An entry of the peer table (R98). -/
structure Peer where
  presence  : Presence
  laneClass : LaneClass
  offset    : Option Nat
  backlog   : Nat
  starve    : Nat
  running   : Bool
  age       : Nat
  lapses    : Nat
  deriving DecidableEq, Repr

/-- A peer entry after power-on reset (R98). -/
def Peer.unheard : Peer := ⟨.absent, .standard, none, 0, 0, false, 0, 0⟩

/-- An entry of the placed-hold list (R115). -/
structure PlacedHold where
  tray   : Tray
  target : LaneOrdinal
  /-- The frame state: false is queued, true is sent. -/
  sent   : Bool
  /-- The expiry count x. -/
  expiry : Tray
  deriving DecidableEq, Repr

/-- The share unit (R120). -/
structure Share where
  /-- The peer table, by ordinal. -/
  peers      : List Peer
  /-- The share s. -/
  share      : Nat
  /-- The credit accumulator A. -/
  credit     : Nat
  /-- The own starve count. -/
  starve     : Nat
  /-- The epoch count. -/
  epochCount : Nat
  /-- The free-tray count of the running epoch. -/
  freeCount  : Nat
  /-- F. -/
  lastFree   : Nat
  upper      : Nat
  lower      : Nat
  /-- The placed-hold list, in the order of placement. -/
  held       : List PlacedHold
  deriving DecidableEq, Repr

/-! ## Launch unit (R121 to R143) -/

/-- The time since the launch edge event: the delay timer, and its value at each later tray edge
event, so that the number of entries is the events since the launch edge (R121, R131, R139). -/
structure EdgeTiming where
  clock : Ticks
  edges : List Ticks
  deriving DecidableEq, Repr

/-- The commitment (R121). -/
structure Commitment where
  seq    : SeqNo
  tray   : Tray
  span   : Span
  cost   : Nat
  /-- Loop speed v. -/
  speed  : Nat
  /-- Ramp lag k. -/
  lag    : Nat
  /-- Launch lead Λ. -/
  lead   : Nat
  /-- Whole pitches n. -/
  whole  : Nat
  /-- Remainder r. -/
  rest   : Nat
  /-- The stored P̄. -/
  period : Ticks
  edge   : Tray
  delay  : Ticks
  /-- Absent until the launch edge event. -/
  timing : Option EdgeTiming
  deriving DecidableEq, Repr

/-- A moment of the exit window: ticks after the tray edge event with the given number since the
launch edge (R139). -/
structure ExitMoment where
  event : Nat
  ticks : Ticks
  deriving DecidableEq, Repr

/-- The launch in flight (R122). -/
structure Flight where
  seq     : SeqNo
  tray    : Tray
  span    : Span
  /-- Loop speed v, at which the ramp ends (R136). -/
  speed   : Nat
  /-- Whole pitches n. -/
  whole   : Nat
  /-- The stored P̄. -/
  period  : Ticks
  timing  : EdgeTiming
  /-- The clock of `timing` at the launch moment, from which the ramp runs (R136). -/
  startedAt : Ticks
  opening : ExitMoment
  closing : ExitMoment
  /-- Whether the exit check has been taken (R140). -/
  checked : Bool
  /-- The confirm readings taken so far: true is Loaded (R141). -/
  first   : Option Bool
  second  : Option Bool
  deriving DecidableEq, Repr

/-- The launch unit (R143); who holds the belts stands in `Lane`. -/
structure Launch where
  commitment : Option Commitment
  flight     : Option Flight
  /-- The horizon H. -/
  horizon    : Nat
  deriving DecidableEq, Repr

/-! ## Pace unit (R144 to R153) -/

/-- A running blink of the FAULT lamp (R150). -/
structure Blink where
  /-- Ticks left of the running 250 ms phase. -/
  phaseLeft : Ticks
  /-- Whether the lamp is asserted in this phase. -/
  lit       : Bool
  /-- Ticks left of the 2000 ms. -/
  left      : Ticks
  deriving DecidableEq, Repr

/-- The pace unit (R153); the selected lamp is computed (R148). -/
structure Pace where
  /-- The effective interval I, ms. -/
  interval : Nat
  /-- The pace limit L. -/
  limit    : Nat
  /-- The pace timer: `none` is run out, `some n` runs with n ticks remaining. -/
  timer    : Option Ticks
  blink    : Option Blink
  deriving DecidableEq, Repr

/-! ## Line interface (R54 to R73) -/

/-- The frames the transmit queue holds (R68); a DEMAND or STAT is a request for one (R70). -/
inductive TxBody where
  | claim (tray : Tray) (span : Span) (edge : Tray)
  | hold (tray : Tray) (target : LaneOrdinal)
  /-- `eventsLeft` tray edge events remain until the deadline (R72). -/
  | vacate (tray : Tray) (span : Span) (eventsLeft : Nat)
  | demand
  | stat
  deriving DecidableEq, Repr

/-- A frame of the transmit queue. -/
structure TxFrame where
  body         : TxBody
  inPassage    : Bool
  /-- Removal was asked while in passage (R71). -/
  removalAsked : Bool
  /-- A request offered again while in passage (R70). -/
  renewed      : Bool
  /-- The deadline was reached after the last bit had begun (R72). -/
  expired      : Bool
  /-- A resync acted while this CLAIM or HOLD was in passage: it runs to its end (R51). -/
  spared       : Bool
  deriving DecidableEq, Repr

/-- A frame as it is admitted. -/
def TxFrame.fresh (body : TxBody) : TxFrame := ⟨body, false, false, false, false, false⟩

/-- The receive frame assembler (R61). -/
inductive Assembler where
  | joining
  | waiting
  | assembling
  deriving DecidableEq, Repr

/-- The line interface (R73). -/
structure Line where
  /-- The transmit queue in order of admission. -/
  queue     : List TxFrame
  /-- The bits of the frame in passage, as the sender sends them (R183). -/
  passage   : Option Bits
  assembler : Assembler
  /-- The bits of another node's frame that the assembler holds, in the order of their arrival; their number
  is the count of R61. Of the own frame in passage none are held here (log entry 7). -/
  assembled : Bits
  /-- The line condition; true is faulted (R67). -/
  faulted   : Bool
  deriving DecidableEq, Repr

/-! ## Station control (R154 to R167) -/

/-- The station states (R154). -/
inductive Mode where
  | unconfigured
  | loading
  | idle
  | running
  | holding
  | faulted
  deriving DecidableEq, Repr

/-- The hold causes (R156). -/
inductive HoldCause where
  | bank
  | tracking
  | line
  | horizon
  deriving DecidableEq, Repr

/-- The hold set (R156). -/
structure HoldSet where
  bank     : Bool
  tracking : Bool
  line     : Bool
  horizon  : Bool
  deriving DecidableEq, Repr

/-- The fault cause (R161). -/
inductive FaultCause where
  | none
  | jam (zone : Zone)
  | lostParcel
  | lateConflict
  | ordinalClash
  | laneNotClear
  deriving DecidableEq, Repr

/-- Station control (R167). -/
structure Station where
  mode  : Mode
  holds : HoldSet
  cause : FaultCause
  /-- A fault reported in Faulted at this instant, for a Clear that comes together with it (R166, log entry
  38). -/
  again : Option FaultCause
  deriving DecidableEq, Repr

/-! ## Report unit (R176 to R182) -/

/-- The fourteen event flags, in the order of R176. -/
structure EventFlags where
  jam             : Bool
  lostParcel      : Bool
  lateConflict    : Bool
  ordinalClash    : Bool
  lineFault       : Bool
  trayTiming      : Bool
  configFault     : Bool
  configClamped   : Bool
  pendingOverflow : Bool
  scanOverrun     : Bool
  orderClash      : Bool
  launchTiming    : Bool
  laxPeer         : Bool
  remove          : Bool
  deriving DecidableEq, Repr

/-- Every event flag clear (R176). -/
def EventFlags.clear : EventFlags :=
  ⟨false, false, false, false, false, false, false, false, false, false, false, false, false, false⟩

/-- The eighteen counters, in the order of R178. -/
structure Counters where
  inductions       : Nat
  rejects          : Nat
  withdrawals      : Nat
  abandons         : Nat
  noiseBlocks      : Nat
  badScans         : Nat
  orphanScans      : Nat
  scanOverruns     : Nat
  noReads          : Nat
  frameErrors      : Nat
  lateNotices      : Nat
  pendingOverflows : Nat
  orderClashes     : Nat
  lapses           : Nat
  holdsPlaced      : Nat
  timingFaults     : Nat
  homeMismatches   : Nat
  launchWarnings   : Nat
  deriving DecidableEq, Repr

/-- Every counter 0 (R178). -/
def Counters.zero : Counters := ⟨0, 0, 0, 0, 0, 0, 0, 0, 0, 0, 0, 0, 0, 0, 0, 0, 0, 0⟩

/-- The report unit (R182); the alert outputs are computed (R181). -/
structure Report where
  flags     : EventFlags
  counters  : Counters
  /-- The STAT interval count. -/
  statCount : Nat
  /-- The counter group of the next STAT. -/
  group     : Nat
  /-- The alert mapping in force; empty through Loading. -/
  alerts    : List (Option (Fin 4))
  deriving DecidableEq, Repr

/-! ## The whole state -/

/-- The state of the part: one field for each block of 00_scope.md, and the commands that wait. -/
structure State where
  lane    : Lane
  scan    : Scan
  tracker : Tracker
  window  : Window
  share   : Share
  launch  : Launch
  pace    : Pace
  line    : Line
  station : Station
  report  : Report
  loader  : Loader
  /-- The commands that wait, first in, first out (the host's interface, log entry 1). -/
  pending : List Instr
  deriving DecidableEq, Repr

/-- The reasons a step can stop with a fault. There are none: every command has its effect by the
rules, and no rule of the spec stops the part. -/
inductive Fault where
  deriving DecidableEq, Repr

/-- The reasons a step can be refused. -/
inductive Refusal where
  /-- Raised by a command that has no meaning yet; none is left. Safe. -/
  | notModelled (mnemonic : String)
  /-- Raised by BANK_HOLD, BANK_RESUME and BANK_PACE given a frame that passes every check of R62 to
  R65 and carries another row's order: not that row's command, and `Instr.WellFormed` excludes it.
  Safe (log entry 8). -/
  | anotherBankOrder
  deriving DecidableEq, Repr

/-! ## Updates of one block -/

/-- The state with its lane sequencer replaced. -/
def State.withLane (s : State) (x : Lane) : State :=
  { s with lane := x }

/-- The state with its scan binder replaced. -/
def State.withScan (s : State) (x : Scan) : State :=
  { s with scan := x }

/-- The state with its tray tracker replaced. -/
def State.withTracker (s : State) (x : Tracker) : State :=
  { s with tracker := x }

/-- The state with its tray window replaced. -/
def State.withWindow (s : State) (x : Window) : State :=
  { s with window := x }

/-- The state with its share unit replaced. -/
def State.withShare (s : State) (x : Share) : State :=
  { s with share := x }

/-- The state with its launch unit replaced. -/
def State.withLaunch (s : State) (x : Launch) : State :=
  { s with launch := x }

/-- The state with its pace unit replaced. -/
def State.withPace (s : State) (x : Pace) : State :=
  { s with pace := x }

/-- The state with its line interface replaced. -/
def State.withLine (s : State) (x : Line) : State :=
  { s with line := x }

/-- The state with its station control replaced. -/
def State.withStation (s : State) (x : Station) : State :=
  { s with station := x }

/-- The state with its report unit replaced. -/
def State.withReport (s : State) (x : Report) : State :=
  { s with report := x }

/-- The state with its configuration loader replaced. -/
def State.withLoader (s : State) (x : Loader) : State :=
  { s with loader := x }

/-- The state with its queue of commands replaced. -/
def State.withPending (s : State) (x : List Instr) : State :=
  { s with pending := x }


/-! ## Power-on reset -/

/-- The machine right after power-on reset, Loading entered at once (R154, R168): R21 for the lane,
R22 to R25 for the scan binder, R53 for the tracker, R97 for the window, R120 for the share unit, R143
for the launch unit, R153 for the pace unit, R73 for the line interface, R167 for station control, R182
for the report unit and R168 for the loader. H and I are 0 until the end of Loading gives them their
values, and the eye levels are clear: DESIGN CHOICE (log entry 3), unsafe. -/
def State.reset : State where
  lane :=
    { queue := []
      placeCount := 0
      nextSeq := 0
      measureEye := false
      transferEye := false
      stageEye := false
      exitEye := false
      transferStray := false
      stall := .stopped
      stageHolder := .sequencer
      launchHolder := .sequencer }
  scan := { openRecord := none, lastSequence := none, slot := none }
  tracker :=
    { tracking := .unsynced
      count := none
      sinceHome := 0
      fillEvents := 0
      history := []
      timer := none
      latch := false
      latchBegun := false
      timeouts := 0 }
  window := { entries := [], pending := [] }
  share :=
    { peers := List.replicate Config.stations .unheard
      share := 0
      credit := 0
      starve := 0
      epochCount := 0
      freeCount := 0
      lastFree := 0
      upper := 15
      lower := 14
      held := [] }
  launch := { commitment := none, flight := none, horizon := 0 }
  pace := { interval := 0, limit := 0, timer := none, blink := none }
  line := { queue := [], passage := none, assembler := .joining, assembled := [], faulted := false }
  station := { mode := .loading, holds := ⟨false, false, false, false⟩, cause := .none, again := none }
  report :=
    { flags := .clear
      counters := .zero
      statCount := 0
      group := 0
      alerts := [] }
  loader := { conf := none, locked := false, phase := .recovering 0, port := [] }
  pending := []

end Sys2Proof.Machine
end

