-- ==== Sys2Proof/Machine/Flags.lean ====
section
/-! DEFINITION. The event flags, the counters and the alert outputs of the report unit (R176 to R181). -/

namespace Sys2Proof.Machine

/-- The names of the fourteen event flags (R176). -/
inductive Flag where
  | jam
  | lostParcel
  | lateConflict
  | ordinalClash
  | lineFault
  | trayTiming
  | configFault
  | configClamped
  | pendingOverflow
  | scanOverrun
  | orderClash
  | launchTiming
  | laxPeer
  | remove
  deriving DecidableEq, Repr

/-- The flags in the order of R176, JAM first. -/
def flagOrder : List Flag :=
  [.jam, .lostParcel, .lateConflict, .ordinalClash, .lineFault, .trayTiming, .configFault,
   .configClamped, .pendingOverflow, .scanOverrun, .orderClash, .launchTiming, .laxPeer, .remove]

/-- A flag's place in the order of R176. -/
def Flag.place : Flag → Nat
  | .jam => 0
  | .lostParcel => 1
  | .lateConflict => 2
  | .ordinalClash => 3
  | .lineFault => 4
  | .trayTiming => 5
  | .configFault => 6
  | .configClamped => 7
  | .pendingOverflow => 8
  | .scanOverrun => 9
  | .orderClash => 10
  | .launchTiming => 11
  | .laxPeer => 12
  | .remove => 13

/-- Whether a flag is set. -/
def EventFlags.get (e : EventFlags) : Flag → Bool
  | .jam => e.jam
  | .lostParcel => e.lostParcel
  | .lateConflict => e.lateConflict
  | .ordinalClash => e.ordinalClash
  | .lineFault => e.lineFault
  | .trayTiming => e.trayTiming
  | .configFault => e.configFault
  | .configClamped => e.configClamped
  | .pendingOverflow => e.pendingOverflow
  | .scanOverrun => e.scanOverrun
  | .orderClash => e.orderClash
  | .launchTiming => e.launchTiming
  | .laxPeer => e.laxPeer
  | .remove => e.remove

/-- The flags with one of them put to a value. -/
def EventFlags.put (e : EventFlags) (f : Flag) (b : Bool) : EventFlags :=
  match f with
  | .jam => { e with jam := b }
  | .lostParcel => { e with lostParcel := b }
  | .lateConflict => { e with lateConflict := b }
  | .ordinalClash => { e with ordinalClash := b }
  | .lineFault => { e with lineFault := b }
  | .trayTiming => { e with trayTiming := b }
  | .configFault => { e with configFault := b }
  | .configClamped => { e with configClamped := b }
  | .pendingOverflow => { e with pendingOverflow := b }
  | .scanOverrun => { e with scanOverrun := b }
  | .orderClash => { e with orderClash := b }
  | .launchTiming => { e with launchTiming := b }
  | .laxPeer => { e with laxPeer := b }
  | .remove => { e with remove := b }

/-- The flags that are set and satisfy `p`. -/
def EventFlags.keep (e : EventFlags) (p : Flag → Bool) : EventFlags where
  jam := e.jam && p .jam
  lostParcel := e.lostParcel && p .lostParcel
  lateConflict := e.lateConflict && p .lateConflict
  ordinalClash := e.ordinalClash && p .ordinalClash
  lineFault := e.lineFault && p .lineFault
  trayTiming := e.trayTiming && p .trayTiming
  configFault := e.configFault && p .configFault
  configClamped := e.configClamped && p .configClamped
  pendingOverflow := e.pendingOverflow && p .pendingOverflow
  scanOverrun := e.scanOverrun && p .scanOverrun
  orderClash := e.orderClash && p .orderClash
  launchTiming := e.launchTiming && p .launchTiming
  laxPeer := e.laxPeer && p .laxPeer
  remove := e.remove && p .remove

/-- The names of the eighteen counters (R178). -/
inductive Counter where
  | inductions
  | rejects
  | withdrawals
  | abandons
  | noiseBlocks
  | badScans
  | orphanScans
  | scanOverruns
  | noReads
  | frameErrors
  | lateNotices
  | pendingOverflows
  | orderClashes
  | lapses
  | holdsPlaced
  | timingFaults
  | homeMismatches
  | launchWarnings
  deriving DecidableEq, Repr

/-- The value of a counter. -/
def Counters.get (c : Counters) : Counter → Nat
  | .inductions => c.inductions
  | .rejects => c.rejects
  | .withdrawals => c.withdrawals
  | .abandons => c.abandons
  | .noiseBlocks => c.noiseBlocks
  | .badScans => c.badScans
  | .orphanScans => c.orphanScans
  | .scanOverruns => c.scanOverruns
  | .noReads => c.noReads
  | .frameErrors => c.frameErrors
  | .lateNotices => c.lateNotices
  | .pendingOverflows => c.pendingOverflows
  | .orderClashes => c.orderClashes
  | .lapses => c.lapses
  | .holdsPlaced => c.holdsPlaced
  | .timingFaults => c.timingFaults
  | .homeMismatches => c.homeMismatches
  | .launchWarnings => c.launchWarnings

/-- One more, staying at 65535 (R178). -/
def bump (n : Nat) : Nat := min (n + 1) Config.counterMax

/-- The counters with one of them raised by 1 (R178). -/
def Counters.raise (c : Counters) : Counter → Counters
  | .inductions => { c with inductions := bump c.inductions }
  | .rejects => { c with rejects := bump c.rejects }
  | .withdrawals => { c with withdrawals := bump c.withdrawals }
  | .abandons => { c with abandons := bump c.abandons }
  | .noiseBlocks => { c with noiseBlocks := bump c.noiseBlocks }
  | .badScans => { c with badScans := bump c.badScans }
  | .orphanScans => { c with orphanScans := bump c.orphanScans }
  | .scanOverruns => { c with scanOverruns := bump c.scanOverruns }
  | .noReads => { c with noReads := bump c.noReads }
  | .frameErrors => { c with frameErrors := bump c.frameErrors }
  | .lateNotices => { c with lateNotices := bump c.lateNotices }
  | .pendingOverflows => { c with pendingOverflows := bump c.pendingOverflows }
  | .orderClashes => { c with orderClashes := bump c.orderClashes }
  | .lapses => { c with lapses := bump c.lapses }
  | .holdsPlaced => { c with holdsPlaced := bump c.holdsPlaced }
  | .timingFaults => { c with timingFaults := bump c.timingFaults }
  | .homeMismatches => { c with homeMismatches := bump c.homeMismatches }
  | .launchWarnings => { c with launchWarnings := bump c.launchWarnings }

/-- The counters of a group, in the order of R178. -/
def counterGroup : Nat → List Counter
  | 0 => [.inductions, .rejects, .withdrawals, .abandons, .noiseBlocks]
  | 1 => [.badScans, .orphanScans, .scanOverruns, .noReads]
  | 2 => [.frameErrors, .lateNotices, .pendingOverflows]
  | 3 => [.orderClashes, .lapses, .holdsPlaced]
  | _ => [.timingFaults, .homeMismatches, .launchWarnings]

/-- A block reports an occurrence: its flag is set (R176). -/
def setFlag (f : Flag) (s : State) : State :=
  s.withReport { s.report with flags := s.report.flags.put f true }

/-- A flag is cleared (R177). -/
def clearFlag (f : Flag) (s : State) : State :=
  s.withReport { s.report with flags := s.report.flags.put f false }

/-- A counter is raised by 1 (R178). -/
def raise (c : Counter) (s : State) : State :=
  s.withReport { s.report with counters := s.report.counters.raise c }

/-- Whether a Rejected record rests at the stage eye, which the scan binder reports (R34). -/
def rejectedAtStage (s : State) : Bool :=
  s.lane.queue.any (fun r => r.phase == .rejected && r.zone == .stage && r.atStage)

/-- Whether a flag's cause stands (R176, last column). -/
def causeStands (s : State) : Flag → Bool
  | .lineFault => s.line.faulted
  | .configFault => true
  | .laxPeer => s.share.peers.any (fun p => p.presence == .lax)
  | .remove => rejectedAtStage s
  | _ => false

/-- Every flag whose cause no longer stands is cleared (R177). -/
def clearFlags (s : State) : State :=
  s.withReport { s.report with flags := s.report.flags.keep (causeStands s) }

/-- Whether an alert output is asserted (R181): a flag mapped to it is set. -/
def alertOutput (s : State) (output : Fin 4) : Bool :=
  flagOrder.any (fun f => s.report.flags.get f && s.report.alerts.getD f.place none == some output)

end Sys2Proof.Machine
end

