-- ==== Sys2Proof/Machine/Operands.lean ====
section
/-! DEFINITION. What the part reads from the operands of its commands: bits and check values, the frames
of the lane line (R62 to R65, R183), the edges of a bit (R55, R56, R59), scan records (R23, R185), the
samples of line recovery (R169) and the configuration block (R172, R173, R186). -/

namespace Sys2Proof.Machine

/-! ## Numbers -/

/-- `a / b` rounded to the nearest integer, half up (00_scope.md, Rounding). -/
def divHalfUp (a b : Nat) : Nat := (2 * a + b) / (2 * b)

/-- `a / b` rounded up. -/
def divUp (a b : Nat) : Nat := (a + b - 1) / b

/-- The value of bits read most significant bit first. -/
def bitsNat (bits : Bits) : Nat := bits.foldl (fun n b => 2 * n + b.toNat) 0

/-- The low `width` bits of `n`, most significant bit first. -/
def natBits : (width n : Nat) → Bits
  | 0, _ => []
  | w + 1, n => n.testBit w :: natBits w n

/-- The value of the `width` bits that start at bit `at_`. -/
def field (bits : Bits) (at_ width : Nat) : Nat := bitsNat ((bits.drop at_).take width)

/-! ## Check values (R63, R172) -/

/-- One step of division by a generator of degree `w`, whose lower terms are `poly`: the remainder of
`x · r + b`. -/
def divStep {w : Nat} (poly r : BitVec w) (b : Bool) : BitVec w :=
  let shifted := (r <<< 1) ||| BitVec.ofNat w b.toNat
  if r.msb then shifted ^^^ poly else shifted

/-- The remainder of the polynomial whose coefficients are `bits`, first bit the highest power. -/
def remainder {w : Nat} (poly : BitVec w) (bits : Bits) : BitVec w := bits.foldl (divStep poly) 0

/-- The generator x⁸+x²+x+1 of the frames' check field (R63). -/
def crc8Poly : BitVec 8 := 0x07

/-- The check field of a frame whose bits before it are `bits` (R63). -/
def checkField (bits : Bits) : Bits :=
  natBits 8 (remainder crc8Poly (bits ++ List.replicate 8 false)).toNat

/-- Whether a frame, check field included, passes the check of R63. -/
def checkPasses (bits : Bits) : Bool := remainder crc8Poly bits == 0

/-- The generator x¹⁶+x¹²+x⁵+1 of the configuration block's check value (R172). -/
def crc16Poly : BitVec 16 := 0x1021

/-- The check value over bytes in address order (R172): the first 16 bits are inverted, and the string
is multiplied by x¹⁶. -/
def blockCheck (bytes : List Byte) : BitVec 16 :=
  let bits := bytes.flatMap (fun b => natBits 8 b.toNat)
  remainder crc16Poly ((bits.take 16).map not ++ bits.drop 16 ++ List.replicate 16 false)

/-! ## Lane line frames (R183) -/

/-- The known kinds (R183). -/
inductive Kind where
  | claim
  | hold
  | vacate
  | bank
  | demand
  | stat
  deriving DecidableEq, Repr

/-- The kind's code (R183). -/
def Kind.code : Kind → Nat
  | .claim => 0
  | .hold => 1
  | .vacate => 2
  | .bank => 3
  | .demand => 4
  | .stat => 5

/-- The kind of a code; 6 and 7 have none. -/
def Kind.ofCode : Nat → Option Kind
  | 0 => some .claim
  | 1 => some .hold
  | 2 => some .vacate
  | 3 => some .bank
  | 4 => some .demand
  | 5 => some .stat
  | _ => none

/-- The frame's length in bits, kind field to check field (R183). -/
def Kind.length : Kind → Nat
  | .claim => 28
  | .hold => 31
  | .vacate => 28
  | .bank => 27
  | .demand => 40
  | .stat => 154

/-- A whole frame: kind, sender, the kind's fields, and the check field (R63, R183). -/
def frameBits (kind : Kind) (sender : LaneOrdinal) (fields : Bits) : Bits :=
  let body := natBits 3 kind.code ++ natBits 4 sender ++ fields
  body ++ checkField body

/-- The span field (R183). -/
def Span.bit : Span → Bool
  | .one => false
  | .two => true

/-- The span of a span field (R183). -/
def Span.ofBit : Bool → Span
  | false => .one
  | true => .two

/-- The number of trays of a span. -/
def Span.trays : Span → Nat
  | .one => 1
  | .two => 2

/-- The class field (R183). -/
def LaneClass.bit : LaneClass → Bool
  | .standard => false
  | .express => true

/-- The class weight (R105). -/
def LaneClass.weight : LaneClass → Nat
  | .standard => 1
  | .express => 2

/-- The fields of a CLAIM or VACATE frame after kind and sender (R183). -/
def spanFields (tray : Tray) (span : Span) : Bits := natBits 12 tray ++ [span.bit]

/-- The fields of a HOLD frame after kind and sender (R183). -/
def holdFields (tray : Tray) (target : LaneOrdinal) : Bits := natBits 12 tray ++ natBits 4 target

/-- The fields of a BANK frame after kind and sender (R183). -/
def bankFields (target : LaneOrdinal) (order limit : Nat) : Bits :=
  natBits 4 target ++ natBits 2 order ++ natBits 6 limit

/-- The fields of a DEMAND frame after kind and sender (R183). -/
def demandFields (laneClass : LaneClass) (offset backlog starve : Nat) (running : Bool) : Bits :=
  [laneClass.bit] ++ natBits 12 offset ++ natBits 3 backlog ++ natBits 8 starve ++ [running]

/-- The sender field of a frame. -/
def senderOf (bits : Bits) : LaneOrdinal := field bits 3 4

/-- The tray field of a CLAIM, HOLD or VACATE. -/
def trayOf (bits : Bits) : Nat := field bits 7 12

/-- The span field of a CLAIM or VACATE. -/
def spanOf (bits : Bits) : Span := Span.ofBit (bits.getD 19 false)

/-- The target field of a HOLD. -/
def holdTargetOf (bits : Bits) : LaneOrdinal := field bits 19 4

/-- The target field of a BANK frame. -/
def bankTargetOf (bits : Bits) : LaneOrdinal := field bits 7 4

/-- The order field of a BANK frame: 0 HOLD, 1 RESUME, 2 PACE, 3 names no order (R183). -/
def bankOrderOf (bits : Bits) : Nat := field bits 11 2

/-- The limit field of a BANK frame. -/
def bankLimitOf (bits : Bits) : Nat := field bits 13 6

/-- What a DEMAND frame reports (R104, R183). -/
structure DemandReport where
  laneClass : LaneClass
  offset    : Nat
  backlog   : Nat
  starve    : Nat
  running   : Bool
  deriving DecidableEq, Repr

/-- The fields of a DEMAND frame. -/
def demandOf (bits : Bits) : DemandReport where
  laneClass := if bits.getD 7 false then .express else .standard
  offset := field bits 8 12
  backlog := field bits 20 3
  starve := field bits 23 8
  running := bits.getD 31 false

/-- The known kind of a frame, where it holds a whole kind field that names one. -/
def kindOf (bits : Bits) : Option Kind :=
  if bits.length < 3 then none else Kind.ofCode (field bits 0 3)

/-- The length check of R62. -/
def lengthFits (bits : Bits) : Bool :=
  match kindOf bits with
  | some k => bits.length == k.length
  | none => 3 ≤ bits.length && 27 ≤ bits.length && bits.length ≤ 154

/-- The kind check of R64. -/
def kindFits (bits : Bits) : Bool :=
  match kindOf bits with
  | none => false
  | some .bank => senderOf bits == Config.panel && bankOrderOf bits != 3
  | some _ => senderOf bits != Config.panel

/-- What the checks of R62 to R65 make of a completed frame. -/
inductive Screened where
  /-- Discarded, and counted as a line frame error (R62 to R64). -/
  | discard
  /-- It carries the receiver's own ordinal (R65). -/
  | clash
  /-- A received notice (R66). -/
  | pass
  deriving DecidableEq, Repr

/-- The checks of R62 to R65, in their order, at the station with ordinal `own`. -/
def screen (own : LaneOrdinal) (bits : Bits) : Screened :=
  if !lengthFits bits then .discard
  else if !checkPasses bits then .discard
  else if !kindFits bits then .discard
  else if senderOf bits == own then .clash
  else .pass

/-- The bits of an unknown frame, kind field included (R62). -/
def unknownBits : UnknownFrame → Bits
  | .empty => []
  | .oneBit a => [a]
  | .twoBits a b => [a, b]
  | .kindSix rest => [true, true, false] ++ rest
  | .kindSeven rest => [true, true, true] ++ rest

/-! ## Edges of a frame (R55, R56, R59) -/

/-- Whether a dominant run is a start: it ends between 1½ Tb and 4 Tb after its falling edge. A shorter run is
noise, and one that reaches 4 Tb is a line fault (R56, R67). -/
def startRecognised (run : Nat) : Bool := 3 * Config.tb ≤ 2 * run && run < 4 * Config.tb

/-- Whether the bits `held` are how the bits of a whole frame begin. -/
def beginsWith (held bits : Bits) : Bool := held.isPrefixOf bits

/-- The bits that the assembler holds when bit `bit` of the own frame `sent` is read as `value`: those before
it, read as they were sent, and this one (R58, R59). -/
def bitsRead (sent : Bits) (bit : Nat) (value : Bool) : Bits := sent.take bit ++ [value]

/-- Whether the edges seen break a window of R55 or R56: a bit timing error. The windows are in
eighths of Tb. -/
def breaksWindow : Sighting → Bool
  | .bit dominantEnd nextFall =>
    (match dominantEnd with
      | none => true
      | some t => (3 * Config.tb ≤ 8 * t && 8 * t ≤ 5 * Config.tb) || 9 * Config.tb ≤ 8 * t) ||
    (match nextFall with
      | none => false
      | some t => decide (8 * t < 7 * Config.tb))
  | .firstBit fall =>
    match fall with
    | none => true
    | some t => 8 * t < 3 * Config.tb || 5 * Config.tb < 8 * t
  | .afterLast fall => 9 * Config.tb < 8 * fall && fall ≤ 4 * Config.tb

/-- Whether the cause is a bit error for a sender that sends `sent` (R59). Bits 0 to 6 are the kind and
sender fields. -/
def bitErrorOccurs (sent : Bits) : BitErrorCause → Bool
  | .readZero bit => 7 ≤ bit && sent.getD bit false
  | .readOne bit => bit < sent.length && !sent.getD bit true
  | .timing seen => breaksWindow seen
  | .startHeld run => 4 * Config.tb ≤ run

/-! ## Scan records (R23, R185) -/

/-- The start character. -/
def scanStart : Byte := 0x02

/-- The end character. -/
def scanEnd : Byte := 0x03

/-- The separator. -/
def scanSeparator : Byte := 0x2C

/-- The fields between the separators. -/
def scanFields : List Byte → List (List Byte)
  | [] => [[]]
  | c :: cs =>
    if c == scanSeparator then [] :: scanFields cs
    else
      match scanFields cs with
      | [] => [[c]]
      | f :: fs => (c :: f) :: fs

/-- Whether a character is a decimal digit. -/
def isDigit (c : Byte) : Bool := 0x30 ≤ c.toNat && c.toNat ≤ 0x39

/-- The value of a field of 1 to `digits` decimal digits and at most `bound`, if it is one (R23). -/
def decimalField (digits bound : Nat) (cs : List Byte) : Option Nat :=
  if cs.isEmpty || digits < cs.length || !cs.all isDigit then none
  else
    let v := cs.foldl (fun n c => 10 * n + (c.toNat - 0x30)) 0
    if v ≤ bound then some v else none

/-- The values of a scan record, start and end characters included, where it is well formed (R23). -/
def scanRecordData (chars : List ScanChar) : Option ScanData :=
  if chars.any (·.framing) then none
  else
    match scanFields ((chars.map (·.code)).tail.dropLast) with
    | [a, b, c] =>
      match decimalField 3 255 a, decimalField 5 65535 b, decimalField 1 9 c with
      | some seq, some destination, some quality => some ⟨seq, destination, quality⟩
      | _, _, _ => none
    | _ => none

/-! ## Line recovery on the memory port (R169) -/

/-- How line recovery ends, or that the samples do not end it. -/
inductive Recovery where
  | complete
  | failed
  | unfinished
  deriving DecidableEq, Repr

/-- The pulses of line recovery, `left` of them still to give (R169). After the one whose sample reads high
comes the stop condition, at which the clock line may be found low as well. -/
def recoverPulses : (left : Nat) → List RecoverySample → Recovery
  | 0, _ => .failed
  | _ + 1, [] => .unfinished
  | _ + 1, .clockLow :: _ => .failed
  | _ + 1, .dataHigh :: .clockLow :: _ => .failed
  | _ + 1, .dataHigh :: _ => .complete
  | left + 1, .dataLow :: rest => recoverPulses left rest

/-- How line recovery ends (R169): at once where the first sample reads high, and else by its pulses. -/
def recoverLine : List RecoverySample → Recovery
  | [] => .unfinished
  | .clockLow :: _ => .failed
  | .dataHigh :: _ => .complete
  | .dataLow :: rest => recoverPulses Config.recoveryPulses rest

/-- The loader's part in the pulses of line recovery. -/
def pulseActs : (left : Nat) → List RecoverySample → List PortAct
  | 0, _ => []
  | _ + 1, [] => []
  | _ + 1, .clockLow :: _ => [.pulse]
  | _ + 1, .dataHigh :: _ => [.pulse, .stopCondition]
  | left + 1, .dataLow :: rest => .pulse :: pulseActs left rest

/-- The loader's part in line recovery (R169): a pulse for each sample after the first, and a stop condition
after the pulse at which the data line reads high. -/
def recoveryActs : List RecoverySample → List PortAct
  | .dataLow :: rest => pulseActs Config.recoveryPulses rest
  | _ => []

/-! ## The transfer on the memory port (R170, R171) -/

/-- The memory's port address (R170). -/
def portAddress : BitVec 7 := 0b1010111

/-- The address byte: the port address, then 0 for writing and 1 for reading (R170). -/
def addressByte (reading : Bool) : Byte := portAddress ++ BitVec.ofBool reading

/-- The loader's part in a whole transfer: steps 1 to 7 of R170. -/
def transferActs : List PortAct :=
  [.startCondition, .send (addressByte false), .send 0, .startCondition, .send (addressByte true)] ++
    List.replicate (Config.blockBytes - 1) (.take true) ++ [.take false, .stopCondition]

/-- The loader's part in an attempt that ends early: steps 1 to 2, 3 or 5 of R170, or what had passed when
the clock line was found low, and the stop condition of R171. -/
def refusalActs (cause : RefusalCause) : List PortAct :=
  (match cause with
    | .addressForWriting => transferActs.take 2
    | .wordAddress => transferActs.take 3
    | .addressForReading => transferActs.take 5
    | .clockHeldLow passed => transferActs.take passed) ++ [.stopCondition]

/-! ## The configuration block (R172, R173, R186) -/

/-- The byte at an address of the block. -/
def byteAt (block : Vector Byte 64) (a : Nat) : Nat := (block.toList.getD a 0).toNat

/-- The two bytes at an address, most significant byte at the lower address (R186). -/
def wordAt (block : Vector Byte 64) (a : Nat) : Nat := 256 * byteAt block a + byteAt block (a + 1)

/-- The fatal faults of R172, in the order of their checks. -/
inductive BlockFault where
  | checkValue
  | format
  | ordinal
  | loopSize
  | pitch
  deriving DecidableEq, Repr

/-- The first fatal fault of the raw block, if it has one (R172). -/
def blockFault (block : Vector Byte 64) : Option BlockFault :=
  if (blockCheck (block.toList.take 62)).toNat != wordAt block 62 then some .checkValue
  else if byteAt block 0 != 1 then some .format
  else if 14 < byteAt block 1 then some .ordinal
  else if wordAt block 5 < 64 || 4095 < wordAt block 5 then some .loopSize
  else if wordAt block 7 < 400 || 1600 < wordAt block 7 then some .pitch
  else none

/-- A field's value, and whether it was clamped (R173). -/
abbrev Clamped (α : Type) := α × Bool

/-- A number with no default, clamped into its range (R173). -/
def clampField (lo hi v : Nat) : Clamped Nat :=
  if v < lo then (lo, true) else if hi < v then (hi, true) else (v, false)

/-- A number whose code 0 is its default (R173). -/
def defaultField (lo hi dflt v : Nat) : Clamped Nat :=
  if v == 0 then (dflt, false) else clampField lo hi v

/-- A choice whose code 0, and whose codes that name no value, are the default (R173). -/
def choiceField {α : Type} (named : Nat → Option α) (dflt : α) (code : Nat) : Clamped α :=
  if code == 0 then (dflt, false)
  else
    match named code with
    | some v => (v, false)
    | none => (dflt, true)

/-- The no-read action codes (R186). -/
def noReadOfCode : Nat → Option NoReadAction
  | 1 => some .reject
  | 2 => some .induct
  | _ => none

/-- The line bit rate codes (R186). -/
def bitRateOfCode : Nat → Option BitRate
  | 1 => some .kbit62
  | 2 => some .kbit125
  | 3 => some .kbit250
  | _ => none

/-- The scan baud codes (R186). -/
def scanBaudOfCode : Nat → Option ScanBaud
  | 1 => some .baud19200
  | 2 => some .baud38400
  | 3 => some .baud115200
  | _ => none

/-- An alert mapping nibble (R186): 0 is none, 1 to 4 are outputs 0 to 3, and any other code takes none
and counts as clamped. -/
def alertField : Nat → Clamped (Option (Fin 4))
  | 0 => (none, false)
  | 1 => (some 0, false)
  | 2 => (some 1, false)
  | 3 => (some 2, false)
  | 4 => (some 3, false)
  | _ => (none, true)

/-- The alert nibbles of bytes 49 to 55, high nibble first (R186). -/
def alertNibbles (block : Vector Byte 64) : List Nat :=
  [49, 50, 51, 52, 53, 54, 55].flatMap (fun a => [byteAt block a / 16, byteAt block a % 16])

/-- Filter n of the block (R186). -/
def filterAt (block : Vector Byte 64) (n : Nat) : Filter where
  enabled := (byteAt block 32).testBit n
  base := BitVec.ofNat 16 (wordAt block (33 + 4 * n))
  mask := BitVec.ofNat 16 (wordAt block (35 + 4 * n))

/-- d_path, clamped into 500 to 6000 mm and then raised to the pitch (R173). A raise counts as a clamp:
DEDUCED (log entry 14), unsafe. -/
def pathField (pitch v : Nat) : Clamped Nat :=
  let first := clampField 500 6000 v
  if first.1 < pitch then (pitch, true) else first

/-- The fields of a raw block that has passed R172, and whether any was clamped (R173). -/
def readSettings (block : Vector Byte 64) : Clamped Settings :=
  let trays := wordAt block 5
  let pitch := wordAt block 7
  let offset := clampField 0 (trays - 1) (wordAt block 3)
  let window := defaultField 9 63 16 (byteAt block 9)
  let margin := defaultField 1 4 2 (byteAt block 10)
  let path := pathField pitch (wordAt block 11)
  let accel := clampField 1000 20000 (wordAt block 13)
  let conveying := clampField 300 1500 (wordAt block 15)
  let noiseFloor := defaultField 10 100 30 (byteAt block 17)
  let minLength := defaultField 20 800 80 (wordAt block 18)
  let stallTime := defaultField 1 30 6 (byteAt block 20)
  let scanWindow := defaultField 50 2000 400 (wordAt block 21)
  let noRead := choiceField noReadOfCode .reject (byteAt block 23)
  let floorShare := defaultField 1 16 4 (byteAt block 24)
  let starveThreshold := defaultField 1 255 8 (byteAt block 25)
  let intervalMin := defaultField 500 10000 1200 (wordAt block 26)
  let intervalMax := defaultField 2000 30000 10000 (wordAt block 28)
  let bitRate := choiceField bitRateOfCode .kbit125 (byteAt block 30)
  let scanBaud := choiceField scanBaudOfCode .baud38400 (byteAt block 31)
  let alerts := (alertNibbles block).map alertField
  ({ ordinal := byteAt block 1
     laneClass := if (byteAt block 2).testBit 0 then .express else .standard
     offset := offset.1
     trays := trays
     pitch := pitch
     window := window.1
     margin := margin.1
     path := path.1
     accel := accel.1
     conveying := conveying.1
     noiseFloor := noiseFloor.1
     minLength := minLength.1
     stallTime := stallTime.1
     scanWindow := scanWindow.1
     noRead := noRead.1
     filters := [0, 1, 2, 3].map (filterAt block)
     floorShare := floorShare.1
     starveThreshold := starveThreshold.1
     intervalMin := intervalMin.1
     intervalMax := intervalMax.1
     bitRate := bitRate.1
     scanBaud := scanBaud.1
     alerts := alerts.map (·.1) },
   offset.2 || window.2 || margin.2 || path.2 || accel.2 || conveying.2 || noiseFloor.2 ||
     minLength.2 || stallTime.2 || scanWindow.2 || noRead.2 || floorShare.2 || starveThreshold.2 ||
     intervalMin.2 || intervalMax.2 || bitRate.2 || scanBaud.2 || alerts.any (·.2))

end Sys2Proof.Machine
end

