-- ==== Sys2Proof/Machine/Ops.lean ====
section
/-! DEFINITION. The operations that several commands share: what the station state gates, the parcel queue,
the belts and stall timers, the transmit queue, the marks of the window, station control's moves (hold
causes, leaving Running, entry into Faulted) and what a resync does. -/

namespace Sys2Proof.Machine

/-! ## Trays -/

/-- Tray `t + k` modulo N (00_scope.md, Tray numbers). -/
def trayAdd (trays t k : Nat) : Tray := (t + k) % trays

/-- The difference `a − b` of tray numbers, in 0 to N−1 (00_scope.md, Tray numbers). -/
def traySub (trays a b : Nat) : Nat := (a % trays + (trays - b % trays)) % trays

/-- The trays of a claim (R110). -/
def claimTrays (trays t : Nat) : Span → List Tray
  | .one => [t]
  | .two => [t, trayAdd trays t 1]

/-! ## What the station state gates -/

/-- The configured values (R174). -/
def State.cfg (s : State) : Settings := s.loader.conf.getD .blank

/-- Idle, Running, Holding or Faulted: the tracker, the window, the line interface, the epoch count,
the scan port and the pace unit run (R22, R36, R54, R102, R151). -/
def active (s : State) : Bool :=
  match s.station.mode with
  | .unconfigured | .loading => false
  | .idle | .running | .holding | .faulted => true

/-- Running or Holding: the lane draws parcels forward (R3, R4, R6). -/
def drawing (s : State) : Bool :=
  match s.station.mode with
  | .running | .holding => true
  | .unconfigured | .loading | .idle | .faulted => false

/-- Idle, Running or Holding: lane eye events are taken (R1). -/
def takesLaneEvents (s : State) : Bool :=
  match s.station.mode with
  | .idle | .running | .holding => true
  | .unconfigured | .loading | .faulted => false

/-! ## The parcel queue (R14, R15) -/

/-- The list with its first member that satisfies `p` changed by `f`. -/
def modifyFirst {α : Type} (p : α → Bool) (f : α → α) : List α → List α
  | [] => []
  | x :: xs => if p x then f x :: xs else x :: modifyFirst p f xs

/-- The queue replaced. -/
def withQueue (s : State) (q : List Parcel) : State := s.withLane { s.lane with queue := q }

/-- The phases of the record that a commitment names (R14, R121). -/
def Phase.isClaim : Phase → Bool
  | .staged | .committed | .announced => true
  | .measuring | .measured | .bound | .launching | .rejected | .conflict => false

/-- The phase of the record that a launch in flight names (R122). -/
def Phase.isLaunching : Phase → Bool
  | .launching => true
  | .measuring | .measured | .bound | .staged | .committed | .announced | .rejected | .conflict => false

/-- The phase of the record that the scan binder decides (R26). -/
def Phase.isMeasured : Phase → Bool
  | .measured => true
  | .measuring | .bound | .staged | .committed | .announced | .launching | .rejected | .conflict => false

/-- Whether a record is the one that a block names by its sequence number, among the phases that the block
works on (log entry 32). -/
def Parcel.isSeq (among : Phase → Bool) (n : SeqNo) (r : Parcel) : Bool := among r.phase && r.seq == some n

/-- The record that a block names. -/
def recordOf (among : Phase → Bool) (s : State) (n : SeqNo) : Option Parcel :=
  s.lane.queue.find? (Parcel.isSeq among n)

/-- The phase of the record that a commitment names. -/
def phaseOf (s : State) (n : SeqNo) : Option Phase := (recordOf Phase.isClaim s n).map (·.phase)

/-- The record that a block names, changed by `f`. -/
def updateRecord (among : Phase → Bool) (n : SeqNo) (f : Parcel → Parcel) (s : State) : State :=
  withQueue s (modifyFirst (Parcel.isSeq among n) f s.lane.queue)

/-- The record that a block names, deleted (R14). -/
def deleteRecord (among : Phase → Bool) (n : SeqNo) (s : State) : State :=
  withQueue s (s.lane.queue.eraseP (Parcel.isSeq among n))

/-- Whether a phase counts in the backlog (R15). -/
def Phase.inBacklog : Phase → Bool
  | .bound | .staged | .committed | .announced => true
  | .measuring | .measured | .launching | .rejected | .conflict => false

/-- The backlog (R15). -/
def backlog (s : State) : Nat := s.lane.queue.countP (·.phase.inBacklog)

/-- The ready parcel (R15). -/
def readyParcel (s : State) : Option Parcel := s.lane.queue.find? (·.phase == .staged)

/-- Queue room (R15). -/
def queueRoom (s : State) : Bool := s.lane.queue.length < Config.queueRoom

/-! ## Belts (R2 to R6, R136) -/

/-- Whether a record is in a zone. -/
def Parcel.inZone (z : Zone) (r : Parcel) : Bool := r.zone == z

/-- The front record of the measure zone (R16). -/
def measureFront (s : State) : Option Parcel := s.lane.queue.find? (Parcel.inZone .measure)

/-- Whether the stage zone holds a record. -/
def stageOccupied (s : State) : Bool := s.lane.queue.any (Parcel.inZone .stage)

/-- Whether the stage zone holds a record whose front edge at the stage eye has been taken (R6). -/
def stageResting (s : State) : Bool := s.lane.queue.any (fun r => r.zone == .stage && r.atStage)

/-- Whether the lane sequencer holds the stage belt and commands v_conv (R6). -/
def stageDraws (s : State) : Bool :=
  drawing s && s.lane.stageHolder == .sequencer && !stageResting s

/-- Whether the front record of the measure zone waits at the transfer eye: the eye is blocked and that
record's front edge there has been taken (R5). -/
def waitsAtTransfer (s : State) : Bool :=
  s.lane.transferEye && (measureFront s).any (·.atTransfer)

/-- Whether a parcel with no record blocks the transfer eye: its record was deleted as noise (R1, R9). -/
def strayAtTransfer (s : State) : Bool := s.lane.transferEye && s.lane.transferStray

/-- Whether the front record of the measure zone is Bound or Rejected (R5). -/
def frontIsDecided (s : State) : Bool :=
  (measureFront s).any (fun r => r.phase == .bound || r.phase == .rejected)

/-- Whether the stage zone accepts the parcel at the transfer eye: the conditions of R5. -/
def accepts (s : State) : Bool :=
  drawing s && waitsAtTransfer s && frontIsDecided s && !stageOccupied s && stageDraws s

/-- Whether the transfer eye is blocked by a parcel that the stage zone cannot accept (R4, R5). A parcel with no
record is such a one, for R5 accepts records alone: DEDUCED (log entry 35), unsafe. -/
def transferBlocked (s : State) : Bool := waitsAtTransfer s && !accepts s || strayAtTransfer s

/-- Whether the measure belt is commanded v_conv (R4). -/
def measureDraws (s : State) : Bool :=
  drawing s && (s.lane.measureEye || !transferBlocked s)

/-- Whether the place belt is commanded v_conv (R3). -/
def placeDraws (s : State) : Bool :=
  drawing s && (s.lane.measureEye || (measureDraws s && queueRoom s))

/-- Whether a launch is in progress: the launch unit holds the launch belt (R122). -/
def inProgress (s : State) : Bool := s.lane.launchHolder == .launchUnit

/-- The ramp command of the launch in flight (R136). -/
def rampCommand (s : State) : Nat :=
  match s.launch.flight with
  | none => 0
  | some f => min f.speed (s.cfg.accel * (f.timing.clock - f.startedAt) / Config.ticksPerSecond)

/-- The place belt's speed command output, mm/s (R3). -/
def placeBelt (s : State) : Nat := if placeDraws s then s.cfg.conveying else 0

/-- The measure belt's speed command output, mm/s (R4). -/
def measureBelt (s : State) : Nat := if measureDraws s then s.cfg.conveying else 0

/-- The stage belt's speed command output, mm/s (R6, R136). -/
def stageBelt (s : State) : Nat :=
  match s.lane.stageHolder with
  | .launchUnit => rampCommand s
  | .sequencer => if stageDraws s then s.cfg.conveying else 0

/-- The launch belt's speed command output, mm/s (R6, R136). -/
def launchBelt (s : State) : Nat :=
  match s.lane.launchHolder with
  | .launchUnit => rampCommand s
  | .sequencer => 0

/-! ## Acceptance and stall timers (R5, R19) -/

/-- The stage zone accepts the waiting parcel if the conditions of R5 hold. -/
def acceptWaiting (s : State) : State :=
  if accepts s then
    withQueue s (modifyFirst (Parcel.inZone .measure) (fun r => { r with zone := .stage }) s.lane.queue)
  else s

/-- The full stall time, in ticks (R19). -/
def stallTicks (s : State) : Ticks := s.cfg.stallTime * Config.ticksPerSecond

/-- A stall timer after its start condition has been looked at again: it starts with the full time
when the condition comes to hold, and stops when it ceases to hold (R19). -/
def stallTimer (full : Ticks) (condition : Bool) (timer : Option Ticks) : Option Ticks :=
  if condition then some (timer.getD full) else none

/-- The start condition of each zone's stall timer (R19). -/
def stallCondition (s : State) : Zone → Bool
  | .place => 0 < s.lane.placeCount && placeDraws s
  | .measure => s.lane.queue.any (fun r => r.zone == .measure && !r.atTransfer) && measureDraws s
  | .stage => s.lane.queue.any (fun r => r.zone == .stage && !r.atStage) && stageDraws s
  | .launch => inProgress s

/-- The four stall timers follow their start conditions (R19). -/
def updateStall (s : State) : State :=
  s.withLane { s.lane with
    stall :=
      { place := stallTimer (stallTicks s) (stallCondition s .place) s.lane.stall.place
        measure := stallTimer (stallTicks s) (stallCondition s .measure) s.lane.stall.measure
        stage := stallTimer (stallTicks s) (stallCondition s .stage) s.lane.stall.stage
        launch := stallTimer (stallTicks s) (stallCondition s .launch) s.lane.stall.launch } }

/-- What follows at once from the lane's conditions: acceptance, then the stall timers (R5, R19). -/
def settleLane (s : State) : State := updateStall (acceptWaiting s)

/-- A stall timer put to a value. -/
def StallTimers.put (t : StallTimers) : Zone → Option Ticks → StallTimers
  | .place, x => { t with place := x }
  | .measure, x => { t with measure := x }
  | .stage, x => { t with stage := x }
  | .launch, x => { t with launch := x }

/-- A stall timer's value. -/
def StallTimers.get (t : StallTimers) : Zone → Option Ticks
  | .place => t.place
  | .measure => t.measure
  | .stage => t.stage
  | .launch => t.launch

/-- A zone's stall timer is stopped, so that it starts from the full time where its condition holds:
the restart events of R19. -/
def restartStall (z : Zone) (s : State) : State :=
  s.withLane { s.lane with stall := s.lane.stall.put z none }

/-! ## The transmit queue (R68 to R71) -/

/-- A CLAIM frame. -/
def TxBody.isClaim : TxBody → Bool
  | .claim _ _ _ => true
  | .hold _ _ | .vacate _ _ _ | .demand | .stat => false

/-- A HOLD frame. -/
def TxBody.isHold : TxBody → Bool
  | .hold _ _ => true
  | .claim _ _ _ | .vacate _ _ _ | .demand | .stat => false

/-- A VACATE frame. -/
def TxBody.isVacate : TxBody → Bool
  | .vacate _ _ _ => true
  | .claim _ _ _ | .hold _ _ | .demand | .stat => false

/-- A DEMAND frame. -/
def TxBody.isDemand : TxBody → Bool
  | .demand => true
  | .claim _ _ _ | .hold _ _ | .vacate _ _ _ | .stat => false

/-- A STAT frame. -/
def TxBody.isStat : TxBody → Bool
  | .stat => true
  | .claim _ _ _ | .hold _ _ | .vacate _ _ _ | .demand => false

/-- A HOLD or a VACATE, which share one limit (R68). -/
def TxBody.isHoldOrVacate (b : TxBody) : Bool := b.isHold || b.isVacate

/-- The transmit queue replaced. -/
def withTxQueue (s : State) (q : List TxFrame) : State := s.withLine { s.line with queue := q }

/-- HOLD and VACATE frames in the queue (R68). -/
def holdVacateCount (s : State) : Nat := s.line.queue.countP (·.body.isHoldOrVacate)

/-- Whether an offered HOLD would be admitted (R68). -/
def holdAdmitted (s : State) : Bool := holdVacateCount s < Config.holdVacateRoom

/-- Whether an offered CLAIM would be admitted: the queue holds none (R68). -/
def claimAdmitted (s : State) : Bool := !s.line.queue.any (·.body.isClaim)

/-- A frame joins the queue as the newest (R68). -/
def enqueue (body : TxBody) (s : State) : State := withTxQueue s (s.line.queue ++ [.fresh body])

/-- A DEMAND or STAT is offered (R70): admitted when none is held, unchanged while one waits, and
marked renewed while one is in passage. -/
def request (body : TxBody) (s : State) : State :=
  if s.line.queue.any (·.body == body) then
    withTxQueue s
      (modifyFirst (·.body == body) (fun f => { f with renewed := f.renewed || f.inPassage }) s.line.queue)
  else enqueue body s

/-- The report unit offers a STAT (R179), where the line interface runs (R54). -/
def offerStat (s : State) : State := if active s then request .stat s else s

/-- The share unit removes a tray's placed-hold entry with no lapse (R116, R119). -/
def dropHeld (t : Tray) (s : State) : State :=
  s.withShare { s.share with held := s.share.held.filter (fun h => h.tray != t) }

/-- The tray of the oldest HOLD not in passage, which a VACATE displaces (R69). -/
def displacedHold (s : State) : Option Tray :=
  s.line.queue.findSome? (fun f =>
    match f.body with
    | .hold t _ => if f.inPassage then none else some t
    | .claim _ _ _ | .vacate _ _ _ | .demand | .stat => none)

/-- A VACATE is offered (R69): admitted below the limit of five, else it displaces the oldest waiting
HOLD, else it is dropped. -/
def offerVacate (t : Tray) (span : Span) (s : State) : State :=
  if holdAdmitted s then enqueue (.vacate t span Config.vacateEvents) s
  else
    match displacedHold s with
    | some h =>
      enqueue (.vacate t span Config.vacateEvents)
        (dropHeld h
          (withTxQueue s (s.line.queue.eraseP (fun f => f.body.isHold && !f.inPassage))))
    | none => s

/-- Removal of every frame that satisfies `p` is asked (R71): a waiting frame leaves at once, and a
frame in passage runs to its end. -/
def askRemoval (p : TxBody → Bool) (s : State) : State :=
  withTxQueue s
    ((s.line.queue.filter (fun f => f.inPassage || !p f.body)).map
      (fun f => if p f.body then { f with removalAsked := true } else f))

/-! ## Marks of the window (R81) -/

/-- The window's entries replaced. -/
def withEntries (s : State) (es : List Entry) : State := s.withWindow { s.window with entries := es }

/-- The entry for a tray (R76). -/
def entryOf (s : State) (t : Tray) : Option Entry := s.window.entries.find? (·.tray == t)

/-- The entry for a tray, changed by `f`. -/
def updateEntry (t : Tray) (f : Entry → Entry) (s : State) : State :=
  withEntries s (modifyFirst (·.tray == t) f s.window.entries)

/-- The own mark of a tray is written (R81). -/
def setMark (m : OwnMark) (t : Tray) (s : State) : State := updateEntry t (fun e => { e with mark := m }) s

/-- The decided flag of a tray is set (R81). -/
def setDecided (t : Tray) (s : State) : State := updateEntry t (fun e => { e with decided := true }) s

/-- The own mark of each of several trays is written. -/
def setMarks (m : OwnMark) (ts : List Tray) (s : State) : State := ts.foldl (fun s t => setMark m t s) s

/-! ## Credit (R109) -/

/-- A raised by an amount and capped at 32. -/
def addCredit (n : Nat) (s : State) : State :=
  s.withShare { s.share with credit := min (s.share.credit + n) Config.creditMax }

/-! ## The commitment (R121, R133) -/

/-- A record returned to Staged, its committed fields removed (R12). -/
def Parcel.returned (r : Parcel) : Parcel := { r with phase := .staged, placement := none }

/-- The commitment's record returns to Staged and the commitment is discarded. -/
def discardCommitment (c : Commitment) (s : State) : State :=
  let s := updateRecord Phase.isClaim c.seq Parcel.returned s
  s.withLaunch { s.launch with commitment := none }

/-- The station leaves Running for Holding or Idle: a Committed claim is dropped, an Announced one is
kept (R133, R160). -/
def leaveRunning (s : State) : State :=
  match s.launch.commitment with
  | none => s
  | some c =>
    if phaseOf s c.seq == some .committed then discardCommitment c (askRemoval TxBody.isClaim s) else s

/-- Entry into Faulted, or a resync, drops the commitment: a Committed record's CLAIM is removed, an
Announced record's trays are vacated (R133). -/
def dropCommitment (s : State) : State :=
  match s.launch.commitment with
  | none => s
  | some c =>
    if phaseOf s c.seq == some .announced then offerVacate c.tray c.span (discardCommitment c s)
    else discardCommitment c (askRemoval TxBody.isClaim s)

/-! ## Station control (R156, R157, R161, R162) -/

/-- Whether a cause is in the hold set. -/
def HoldSet.has (h : HoldSet) : HoldCause → Bool
  | .bank => h.bank
  | .tracking => h.tracking
  | .line => h.line
  | .horizon => h.horizon

/-- The hold set with a cause in it or out of it. -/
def HoldSet.put (h : HoldSet) (b : Bool) : HoldCause → HoldSet
  | .bank => { h with bank := b }
  | .tracking => { h with tracking := b }
  | .line => { h with line := b }
  | .horizon => { h with horizon := b }

/-- Whether the hold set is empty. -/
def HoldSet.isEmpty (h : HoldSet) : Bool := !(h.bank || h.tracking || h.line || h.horizon)

/-- The station state is changed, and a STAT is offered (R179). -/
def setMode (m : Mode) (s : State) : State := offerStat (s.withStation { s.station with mode := m })

/-- The hold set is changed, and a STAT is offered (R156, R179). -/
def setHolds (h : HoldSet) (s : State) : State := offerStat (s.withStation { s.station with holds := h })

/-- A cause is added to the hold set (R156); in Running, added to the empty set, it takes the station to
Holding (R157, R160). -/
def addHold (c : HoldCause) (s : State) : State :=
  if s.station.holds.has c then s
  else
    let after := setHolds (s.station.holds.put true c) s
    if s.station.mode == .running && s.station.holds.isEmpty then
      leaveRunning (setMode .holding after)
    else after

/-- A cause is removed from the hold set (R156); in Holding, the removal of the last takes the station
to Running (R157). -/
def removeHold (c : HoldCause) (s : State) : State :=
  if s.station.holds.has c then
    let holds := s.station.holds.put false c
    let after := setHolds holds s
    if s.station.mode == .holding && holds.isEmpty then setMode .running after else after
  else s

/-- The launch in flight is discarded and its record passes to Conflict (R138, R162). -/
def conflictFlight (s : State) : State :=
  match s.launch.flight with
  | none => s
  | some f =>
    let s := updateRecord Phase.isLaunching f.seq (fun r => { r with phase := .conflict }) s
    s.withLaunch { s.launch with flight := none }

/-- The stage and launch belts are taken from the launch unit (R2). -/
def takeBelts (s : State) : State :=
  s.withLane { s.lane with stageHolder := .sequencer, launchHolder := .sequencer }

/-- Every stall timer is stopped (R19). -/
def stopStall (s : State) : State := s.withLane { s.lane with stall := .stopped }

/-- Entry into Faulted (R162): the commitment is dropped, the launch in flight becomes Conflict, the
belts are taken and the stall timers stop with them. -/
def enterFaulted (cause : FaultCause) (s : State) : State :=
  let s := stopStall (takeBelts (conflictFlight (dropCommitment s)))
  offerStat (s.withStation { s.station with mode := .faulted, cause := cause })

/-- A fault report (R161): taken in Idle, Running and Holding, and without effect on the state and the
cause otherwise. One made in Faulted is kept for this instant, for a Clear that comes together with it: the
first of several (R161, R166; DESIGN CHOICE, log entry 38). -/
def reportFault (cause : FaultCause) (s : State) : State :=
  if takesLaneEvents s then enterFaulted cause s
  else if s.station.mode == .faulted then
    s.withStation { s.station with again := some (s.station.again.getD cause) }
  else s

/-- A JAM report naming a zone: the flag, then the fault (R18, R20, R176). -/
def reportJam (z : Zone) (s : State) : State := reportFault (.jam z) (setFlag .jam s)

/-! ## Resync (R50) -/

/-- A CLAIM or HOLD in passage runs to its end, whatever its deadline was numbered (R51). -/
def sparePassage (s : State) : State :=
  withTxQueue s (s.line.queue.map (fun f =>
    if f.inPassage && (f.body.isClaim || f.body.isHold) then { f with spared := true } else f))

/-- What a resync does to the blocks other than the tracker (R50): the window and the pending list are
emptied, A is 0, the placed-hold list is emptied, CLAIM and HOLD frames are removed, those in passage at their
ends (R51), and the commitment is dropped. -/
def resync (s : State) : State :=
  let s := s.withWindow { entries := [], pending := [] }
  let s := s.withShare { s.share with credit := 0, held := [] }
  let s := askRemoval (fun b => b.isClaim || b.isHold) (sparePassage s)
  dropCommitment s

end Sys2Proof.Machine
end

