-- ==== Sys2Proof/Machine/Launch.lean ====
section
/-! DEFINITION. The launch unit (R121 to R143): reckoning a launch, committing a claim, withdrawal and late
conflict, the launch edge, the launch moment, the exit check and the merge confirmation; and the meanings of
LAUNCH_MOMENT and EXIT_WINDOW_CLOSING. -/

namespace Sys2Proof.Machine

/-! ## Reckoning (R42, R123 to R126, R139) -/

/-- P̄, present while the history holds eight intervals: their mean, half up (R42). -/
def meanPeriod (history : List Ticks) : Option Ticks :=
  if history.length == Config.historyRoom then some (divHalfUp history.sum Config.historyRoom) else none

/-- P̄ as it stands. -/
def period (s : State) : Option Ticks := meanPeriod s.tracker.history

/-- The loop speed v (R123). -/
def loopSpeed (c : Settings) (p : Ticks) : Nat := divHalfUp (c.pitch * Config.ticksPerSecond) p

/-- The ramp lag k (R123). -/
def rampLag (c : Settings) (p : Ticks) : Nat := divHalfUp (loopSpeed c p * loopSpeed c p) (2 * c.accel)

/-- The centring offset b (R124). -/
def centring (c : Settings) (span : Span) (length : Nat) : Nat :=
  divHalfUp (span.trays * c.pitch - length) 2

/-- The launch lead Λ (R124). -/
def launchLead (c : Settings) (p : Ticks) (span : Span) (length : Nat) : Nat :=
  c.path + rampLag c p - centring c span length

/-- The commitment that a claim would make: the reckoning of R123 to R125. -/
def reckon (c : Settings) (p : Ticks) (seq : SeqNo) (length : Nat) (tray : Tray) (span : Span)
    (cost : Nat) : Commitment :=
  let lead := launchLead c p span length
  let whole := lead / c.pitch
  let rest := lead - whole * c.pitch
  { seq := seq
    tray := tray
    span := span
    cost := cost
    speed := loopSpeed c p
    lag := rampLag c p
    lead := lead
    whole := whole
    rest := rest
    period := p
    edge := traySub c.trays tray (whole + 1)
    delay := divHalfUp ((c.pitch - rest) * p) c.pitch
    timing := none }

/-- The horizon with ramp lag k (R126). -/
def horizonWith (c : Settings) (k : Nat) : Nat := (c.path + k) / c.pitch + 1 + c.margin

/-- The horizon that a recomputation gives; with P̄ absent it keeps its value (R126). -/
def nextHorizon (s : State) : Nat :=
  match period s with
  | some p => horizonWith s.cfg (rampLag s.cfg p)
  | none => s.launch.horizon

/-- The launch unit reports to station control whether H exceeds W − 1 (R127). -/
def reportHorizon (s : State) : State :=
  if s.cfg.window - 1 < s.launch.horizon then addHold .horizon s else removeHold .horizon s

/-- The horizon is recomputed at an epoch boundary, and reported (R126, R127). -/
def recomputeHorizon (s : State) : State :=
  reportHorizon (s.withLaunch { s.launch with horizon := nextHorizon s })

/-- The mark X of a centred parcel's tail past the last tray of its span (R139). -/
def tailMark (c : Settings) (span : Span) (length : Nat) : Nat :=
  divHalfUp (span.trays * c.pitch + length - 2 * ((span.trays - 1) * c.pitch)) 2

/-- The tolerance g of the exit window (R139). -/
def exitTolerance (c : Settings) : Nat := divHalfUp c.pitch 8

/-- The moment of a loop travel past the merge line (R139). -/
def exitMoment (c : Settings) (p : Ticks) (whole : Nat) (span : Span) (travel : Nat) : ExitMoment where
  event := whole + span.trays + travel / c.pitch
  ticks := divHalfUp (travel % c.pitch * p) c.pitch

/-! ## Committing a claim (R128, R129) -/

/-- The tray edge events, counted from the event being handled, after which the launch in flight takes
its last confirm reading; 0 when that event brings it or it has been taken (R128, R141). -/
def lastReadingDue (s : State) : Nat :=
  match s.launch.flight with
  | none => 0
  | some f => f.whole + 2 + f.span.trays - (f.timing.edges.length + 1)

/-- Whether the launch unit accepts the commitment at count e (R128). -/
def acceptsClaim (s : State) (e : Tray) (k : Commitment) : Bool :=
  let distance := traySub s.cfg.trays k.edge e
  1 ≤ distance && distance ≤ s.launch.horizon && lastReadingDue s < distance

/-- The commitment is made: the record becomes Committed and the CLAIM is offered (R128). -/
def makeCommitment (k : Commitment) (s : State) : State :=
  let s := updateRecord Phase.isClaim k.seq
    (fun r => { r with phase := .committed, placement := some ⟨k.tray, k.edge, k.delay⟩ }) s
  let s := s.withLaunch { s.launch with commitment := some k }
  if claimAdmitted s then enqueue (.claim k.tray k.span k.edge) s else s

/-- The claim is refused: its cost is refunded and its marks are set back to none (R129). -/
def refuseClaim (k : Commitment) (s : State) : State :=
  setMarks .none (claimTrays s.cfg.trays k.tray k.span) (addCredit k.cost s)

/-- The share unit hands over a claim for the ready parcel `r` on tray t at count e (R128). -/
def commitClaim (r : Parcel) (e t : Tray) (span : Span) (cost : Nat) (s : State) : State :=
  let k := reckon s.cfg ((period s).getD 0) (r.seq.getD 0) (r.length.getD 0) t span cost
  if acceptsClaim s e k then makeCommitment k s else refuseClaim k s

/-! ## Withdrawal and late conflict (R132, R138) -/

/-- The claim is withdrawn (R132). -/
def withdraw (k : Commitment) (s : State) : State :=
  let s := askRemoval TxBody.isClaim (addCredit k.cost s)
  raise .withdrawals (setMarks .none (claimTrays s.cfg.trays k.tray k.span) (discardCommitment k s))

/-- A late conflict (R138). -/
def lateConflict (s : State) : State :=
  reportFault .lateConflict (setFlag .lateConflict (takeBelts (conflictFlight s)))

/-- The window reports a claimed tray as governed away (R92): a withdrawal before the launch moment, a
late conflict after it, and nothing where no commitment and no launch in flight has the tray. -/
def governedAway (t : Tray) (s : State) : State :=
  match s.launch.commitment with
  | some k =>
    if (claimTrays s.cfg.trays k.tray k.span).contains t then withdraw k s
    else
      match s.launch.flight with
      | some f => if (claimTrays s.cfg.trays f.tray f.span).contains t then lateConflict s else s
      | none => s
  | none =>
    match s.launch.flight with
    | some f => if (claimTrays s.cfg.trays f.tray f.span).contains t then lateConflict s else s
    | none => s

/-! ## The launch edge (R131) -/

/-- The claim is abandoned: no refund, the counter raised (R131). -/
def abandon (k : Commitment) (s : State) : State :=
  let s := askRemoval TxBody.isClaim s
  raise .abandons (setMarks .none (claimTrays s.cfg.trays k.tray k.span) (discardCommitment k s))

/-- One more tray edge event since the launch edge. -/
def EdgeTiming.event (t : EdgeTiming) : EdgeTiming := { t with edges := t.edges ++ [t.clock] }

/-- The commitment takes a tray edge event with the new count (R131). -/
def commitmentEvent (count : Option Tray) (s : State) : State :=
  match s.launch.commitment with
  | none => s
  | some k =>
    match k.timing with
    | some t => s.withLaunch { s.launch with commitment := some { k with timing := some t.event } }
    | none =>
      if count == some k.edge then
        if phaseOf s k.seq == some .announced then
          s.withLaunch { s.launch with commitment := some { k with timing := some ⟨0, []⟩ } }
        else abandon k s
      else s

/-! ## Merge confirmation (R141, R142) -/

/-- A verdict on a launch (R141). -/
inductive Verdict where
  | undecided
  | confirmed
  | lost
  deriving DecidableEq, Repr

/-- What the readings held decide (R141). -/
def verdictOf (f : Flight) : Verdict :=
  match f.span with
  | .one =>
    match f.first with
    | none => .undecided
    | some true => .confirmed
    | some false => .lost
  | .two =>
    if f.first == some false || f.second == some false then .lost
    else if f.first == some true && f.second == some true then .confirmed
    else .undecided

/-- The verdict is taken, if one is decided (R141, R142). -/
def takeVerdict (s : State) : State :=
  match s.launch.flight with
  | none => s
  | some f =>
    match verdictOf f with
    | .undecided => s
    | .confirmed =>
      let s := deleteRecord Phase.isLaunching f.seq s
      raise .inductions (s.withLaunch { s.launch with flight := none })
    | .lost => reportFault .lostParcel (setFlag .lostParcel (offerVacate f.tray f.span s))

/-- The flight with the confirm reading of a tray edge event, where that event brings one and no verdict
has been decided (R141). -/
def Flight.read (f : Flight) (reading : Option Bool) : Flight :=
  if verdictOf f != .undecided then f
  else if f.timing.edges.length == f.whole + 3 then { f with first := reading }
  else if f.span == .two && f.timing.edges.length == f.whole + 4 then { f with second := reading }
  else f

/-- The launch in flight takes a tray edge event with its confirm reading; a verdict is deferred while
the launch is in progress (R141). -/
def flightEvent (reading : Option Bool) (s : State) : State :=
  match s.launch.flight with
  | none => s
  | some f =>
    let s := s.withLaunch
      { s.launch with flight := some (Flight.read { f with timing := f.timing.event } reading) }
    if inProgress s then s else takeVerdict s

/-! ## The launch moment (R134, R135) -/

/-- Whether the commitment's launch moment has come (R134). -/
def launchDue (s : State) : Bool :=
  match s.launch.commitment with
  | none => false
  | some k =>
    match k.timing with
    | none => false
    | some t => k.delay ≤ t.clock

/-- Whether a governing notice is another station's and not in this station's favour (R134). -/
def Governing.bars (own : LaneOrdinal) (g : Governing) : Bool :=
  match g.notice with
  | .claim _ _ _ _ => true
  | .hold _ target => target != own

/-- Whether a claimed tray's entry carries a notice that bars the launch (R134). A tray whose entry has
departed carries none (log entry 23). -/
def trayBarred (s : State) (t : Tray) : Bool :=
  match entryOf s t with
  | none => false
  | some e => e.governing.any (Governing.bars s.cfg.ordinal)

/-- The launch in flight that the commitment becomes (R134, R139). -/
def flightOf (s : State) (k : Commitment) (t : EdgeTiming) : Flight :=
  let length := ((recordOf Phase.isClaim s k.seq).bind (·.length)).getD 0
  let mark := tailMark s.cfg k.span length
  let g := exitTolerance s.cfg
  { seq := k.seq
    tray := k.tray
    span := k.span
    speed := k.speed
    whole := k.whole
    period := k.period
    timing := t
    startedAt := t.clock
    opening := exitMoment s.cfg k.period k.whole k.span (mark - g)
    closing := exitMoment s.cfg k.period k.whole k.span (mark + g)
    checked := false
    first := none
    second := none }

/-- The launch starts (R134). -/
def startLaunch (k : Commitment) (t : EdgeTiming) (s : State) : State :=
  let f := flightOf s k t
  let s := updateRecord Phase.isClaim k.seq (fun r => { r with phase := .launching }) s
  let s := s.withLaunch { s.launch with commitment := none, flight := some f }
  settleLane (s.withLane { s.lane with stageHolder := .launchUnit, launchHolder := .launchUnit })

/-- LAUNCH_MOMENT (R134, R135): the delay timer has reached the delay. -/
def execLaunchMoment (s : State) : Host.Outcome State Fault Refusal :=
  match s.launch.commitment with
  | none => .next s
  | some k =>
    match k.timing with
    | none => .next s
    | some t =>
      if t.clock < k.delay then .next s
      else if phaseOf s k.seq != some .announced then .next s
      else if (claimTrays s.cfg.trays k.tray k.span).any (trayBarred s) then .next s
      else if s.lane.queue.any (·.phase == .launching) then .next (reportJam .launch s)
      else .next (startLaunch k t s)

/-! ## The exit check (R140) -/

/-- The ticks that have passed since a tray edge event numbered from the launch edge; `none` before that
event (R139). -/
def EdgeTiming.since (t : EdgeTiming) (event : Nat) : Option Ticks :=
  (t.edges[event - 1]?).map (fun at_ => t.clock - at_)

/-- Whether a moment of the exit window has come. -/
def ExitMoment.reached (m : ExitMoment) (t : EdgeTiming) : Bool :=
  (t.since m.event).any (fun n => m.ticks ≤ n)

/-- Whether a moment of the exit window has passed. -/
def ExitMoment.passed (m : ExitMoment) (t : EdgeTiming) : Bool :=
  (t.since m.event).any (fun n => m.ticks < n)

/-- An early or late launch is reported (R140). -/
def launchWarning (s : State) : State := setFlag .launchTiming (raise .launchWarnings s)

/-- The exit check has been taken. -/
def markChecked (s : State) : State :=
  s.withLaunch { s.launch with flight := s.launch.flight.map (fun f => { f with checked := true }) }

/-- The exit check at a clearing of the exit eye: early before the opening, late after the closing, else
passed; taken once per launch (R140). -/
def exitCheck (s : State) : State :=
  match s.launch.flight with
  | none => s
  | some f =>
    if f.checked then s
    else if f.opening.reached f.timing && !f.closing.passed f.timing then markChecked s
    else launchWarning (markChecked s)

/-- Whether the exit window has closed with the launch in progress and no check taken (R140). The closing
itself belongs to the window, so the window has closed when that tick is over (log entry 4). -/
def closingDue (s : State) : Bool :=
  inProgress s && s.launch.flight.any (fun f => !f.checked && f.closing.passed f.timing)

/-- EXIT_WINDOW_CLOSING (R140): the launch is judged late. -/
def execExitWindowClosing (s : State) : Host.Outcome State Fault Refusal :=
  if closingDue s then .next (launchWarning (markChecked s)) else .next s

end Sys2Proof.Machine
end

