-- ==== Sys2Proof/Machine/Window.lean ====
section
/-! DEFINITION. The tray window (R76 to R97): free trays, the build and the turnover, the placement of heard
notices, the governing-notice rule and the pending list. -/

namespace Sys2Proof.Machine

/-! ## Free trays (R82) -/

/-- Whether an entry's governing notice leaves the tray to this station: none, or a HOLD targeted at it. -/
def Entry.favours (own : LaneOrdinal) (e : Entry) : Bool := !e.governing.any (Governing.bars own)

/-- Whether an entry's tray is free to this station (R82). -/
def Entry.free (own : LaneOrdinal) (e : Entry) : Bool :=
  e.reading == .empty && e.favours own && e.mark == .none

/-- Whether a tray is free to this station (R82). -/
def freeTray (s : State) (t : Tray) : Bool := (entryOf s t).any (Entry.free s.cfg.ordinal)

/-! ## The governing notice (R89 to R91) -/

/-- The sender of a governing notice. -/
def GoverningNotice.sender : GoverningNotice → LaneOrdinal
  | .claim k _ _ _ => k
  | .hold k _ => k

/-- The governing notice that a CLAIM part or a HOLD would be; a VACATE governs nothing. -/
def Part.governs (p : Part) : Option GoverningNotice :=
  match p.body with
  | .claim span part first => some (.claim p.sender span part first)
  | .hold target => some (.hold p.sender target)
  | .vacate _ _ _ => none

/-- Whether a CLAIM's first part consumes a governing HOLD (R89, second row). -/
def consumes (g : Governing) (n : GoverningNotice) : Bool :=
  match g.notice, n with
  | .hold _ target, .claim k _ .first _ => target == k
  | _, _ => false

/-- Whether a HOLD is consumed on arrival by its target's governing CLAIM (R89, third row). -/
def consumedOnArrival (g : Governing) (n : GoverningNotice) : Bool :=
  match g.notice, n with
  | .claim j _ _ _, .hold k target => g.standing == j && k < j && target == j
  | _, _ => false

/-- What applying a notice to an entry does (R89). -/
inductive Ruling where
  /-- The notice governs, with this standing. -/
  | governs (standing : LaneOrdinal)
  /-- The governing CLAIM stays and takes this standing: a HOLD consumed on arrival. -/
  | standing (standing : LaneOrdinal)
  /-- The notice is discarded. -/
  | discarded
  deriving DecidableEq, Repr

/-- The first row of R89's table that matches. -/
def rule (governing : Option Governing) (n : GoverningNotice) : Ruling :=
  match governing with
  | none => .governs n.sender
  | some g =>
    if consumes g n then .governs g.standing
    else if consumedOnArrival g n then .standing n.sender
    else if n.sender < g.standing then .governs n.sender
    else if g.notice.sender == n.sender && g.standing == n.sender then .governs n.sender
    else .discarded

/-- An entry after a CLAIM part or a HOLD has been applied (R89, R90). -/
def Entry.apply (n : GoverningNotice) (e : Entry) : Entry :=
  match rule e.governing n with
  | .governs standing => { e with governing := some ⟨n, standing⟩ }
  | .standing standing => { e with governing := e.governing.map (fun g => { g with standing := standing }) }
  | .discarded => e

/-- An entry after a VACATE part has been applied (R91). -/
def Entry.vacate (sender : LaneOrdinal) (span : Span) (first : Tray) (e : Entry) : Entry :=
  match e.governing with
  | none => e
  | some g =>
    match g.notice with
    | .claim k sp _ ft => if k == sender && sp == span && ft == first then { e with governing := none } else e
    | .hold _ _ => e

/-- An entry after a notice or part has been applied (R89 to R91). -/
def Entry.take (p : Part) (e : Entry) : Entry :=
  match p.body with
  | .vacate span _ first => e.vacate p.sender span first
  | .claim span part first => e.apply (.claim p.sender span part first)
  | .hold target => e.apply (.hold p.sender target)

/-- Whether applying a notice to an entry makes that notice govern it (R92, R93). -/
def Entry.comesToGovern (p : Part) (e : Entry) : Bool :=
  match p.governs with
  | none => false
  | some n =>
    match rule e.governing n with
    | .governs _ => true
    | .standing _ | .discarded => false

/-- Whether a notice takes a tray away from this station (R92): a CLAIM, or a HOLD for another. -/
def Part.takesAway (own : LaneOrdinal) (p : Part) : Bool :=
  match p.body with
  | .claim _ _ _ => true
  | .hold target => target != own
  | .vacate _ _ _ => false

/-- A notice or part is applied to the entry for its tray, and the change is reported where the entry
carries an own mark (R92, R93). -/
def applyPart (p : Part) (s : State) : State :=
  match entryOf s p.tray with
  | none => s
  | some e =>
    let after := updateEntry p.tray (Entry.take p) s
    if e.comesToGovern p then
      match e.mark with
      | .none => after
      | .claimedByMe => if p.takesAway s.cfg.ordinal then governedAway p.tray after else after
      | .heldByMe => dropHeld p.tray after
    else after

/-! ## The pending list (R94 to R96) -/

/-- Whether two notices have the same kind. -/
def NoticeBody.sameKind : NoticeBody → NoticeBody → Bool
  | .claim _ _ _, .claim _ _ _ => true
  | .hold _, .hold _ => true
  | .vacate _ _ _, .vacate _ _ _ => true
  | _, _ => false

/-- Whether two notices have the same tray, sender and kind, so that the newer replaces the older (R94). -/
def Part.replaces (p q : Part) : Bool :=
  p.tray == q.tray && p.sender == q.sender && p.body.sameKind q.body

/-- The list with a newcomer at the place its distance and its arrival give it (R94). -/
def insertPending (distance : Tray → Nat) (n : PendingNotice) : List PendingNotice → List PendingNotice
  | [] => [n]
  | q :: qs =>
    if distance q.part.tray ≤ distance n.part.tray then q :: insertPending distance n qs
    else n :: q :: qs

/-- A notice about a tray beyond the window joins the pending list, or is dropped by a full one (R94,
R95). -/
def joinPending (p : Part) (superseded : Bool) (s : State) : State :=
  let kept := s.window.pending.filter (fun q => !p.replaces q.part)
  if kept.length < Config.pendingRoom then
    s.withWindow { s.window with
      pending := insertPending (fun t => traySub s.cfg.trays t (s.tracker.count.getD 0)) ⟨p, superseded⟩ kept }
  else setFlag .pendingOverflow (raise .pendingOverflows s)

/-! ## Placement (R83 to R88) -/

/-- Whether a notice is superseded by the reading: a CLAIM or VACATE with Δ at least W (R87, R88). -/
def supersededBy (window offset : Nat) (p : Part) : Bool :=
  match p.body with
  | .claim _ _ _ | .vacate _ _ _ => window ≤ offset
  | .hold _ => false

/-- A notice or part from an upstream sender with offset Δ is placed (R85, R86, R87). -/
def placePart (offset : Nat) (p : Part) (s : State) : State :=
  let distance := traySub s.cfg.trays p.tray (s.tracker.count.getD 0)
  if 1 ≤ distance && distance ≤ s.cfg.window then
    if supersededBy s.cfg.window offset p then s else applyPart p s
  else if s.cfg.window < distance && distance ≤ offset + Config.pendingReach then
    joinPending p (supersededBy s.cfg.window offset p) s
  else raise .lateNotices s

/-- The entry of the peer table for an ordinal (R98). -/
def peerOf (s : State) (k : LaneOrdinal) : Peer := s.share.peers.getD k .unheard

/-- The parts of a CLAIM or VACATE, each with its own tray (R84). The first part stands first, so that it is
placed first and takes the one free place of a pending list that has one: DESIGN CHOICE (log entry 37),
unsafe. -/
def partsOf (trays : Nat) (sender : LaneOrdinal) (body : Span → PartFlag → Tray → NoticeBody) (t : Tray) :
    Span → List Part
  | .one => [⟨t, sender, body .one .first t⟩]
  | .two => [⟨t, sender, body .two .first t⟩, ⟨trayAdd trays t 1, sender, body .two .second t⟩]

/-- What the window does with the parts of a CLAIM, HOLD or VACATE from sender k (R83): discarded in
Unsynced, not placed from downstream, late where the peer table holds no merge offset, and otherwise each
part placed. `valid` is false for a HOLD that names no station downstream of its holder; the offset is
looked at first (log entry 16). -/
def hearParts (k : LaneOrdinal) (valid : Bool) (parts : List Part) (s : State) : State :=
  if s.tracker.tracking == .unsynced || s.cfg.ordinal ≤ k then s
  else
    match (peerOf s k).offset with
    | none => raise .lateNotices s
    | some m =>
      if valid then
        parts.foldl (fun s p => placePart (traySub s.cfg.trays s.cfg.offset m) p s) s
      else s

/-- The window hears a CLAIM (R83, R84). -/
def hearClaim (k : LaneOrdinal) (tray : Nat) (span : Span) (s : State) : State :=
  hearParts k true (partsOf s.cfg.trays k .claim (tray % s.cfg.trays) span) s

/-- The window hears a VACATE (R83, R84). -/
def hearVacate (k : LaneOrdinal) (tray : Nat) (span : Span) (s : State) : State :=
  hearParts k true (partsOf s.cfg.trays k .vacate (tray % s.cfg.trays) span) s

/-- The window hears a HOLD (R83). -/
def hearHold (k : LaneOrdinal) (tray : Nat) (target : LaneOrdinal) (s : State) : State :=
  hearParts k (k < target && target != Config.panel) [⟨tray % s.cfg.trays, k, .hold target⟩] s

/-! ## Build and turnover (R78, R79, R96) -/

/-- The window builds its W entries for trays 1 to W, each Unread (R78). -/
def buildWindow (s : State) : State :=
  withEntries s ((List.range s.cfg.window).map (fun i => .fresh (trayAdd s.cfg.trays 0 (i + 1)) .unread))

/-- The new far entry after a pending notice has moved in: a superseded one is dropped (R96). -/
def moveIn (e : Entry) (n : PendingNotice) : Entry := if n.superseded then e else e.take n.part

/-- The turnover at the event with the new count e: the entry for tray e departs, and the entry for tray
e+W is created with the load reading and takes its pending notices (R79, R80, R96). -/
def turnover (e : Tray) (loaded : Bool) (s : State) : State :=
  let far := trayAdd s.cfg.trays e s.cfg.window
  let movers := s.window.pending.filter (fun n => n.part.tray == far)
  let entry := movers.foldl moveIn (.fresh far (if loaded then .loaded else .empty))
  s.withWindow
    { entries := s.window.entries.filter (fun x => x.tray != e) ++ [entry]
      pending := s.window.pending.filter (fun n => n.part.tray != far) }

end Sys2Proof.Machine
end

