-- ==== Sys2Proof/Machine/Share.lean ====
section
/-! DEFINITION. The share unit (R98 to R120) and the pace interval (R144 to R146): the peer table, the epoch
boundary, the decision tray, holds, lapses and downstream claims. -/

namespace Sys2Proof.Machine

/-! ## The peer table (R98 to R101) -/

/-- An ordinal's entry of the peer table, changed by `f`. -/
def updatePeer (k : LaneOrdinal) (f : Peer → Peer) (s : State) : State :=
  s.withShare { s.share with peers := s.share.peers.modify k f }

/-- Whether merge offset m is before this station's merge offset o (R100). -/
def offsetBefore (trays o m : Nat) : Bool :=
  let d := traySub trays o m
  1 ≤ d && d ≤ trays / 2

/-- Whether a DEMAND's sender and merge offset contradict the order of the bank (R100). -/
def orderClashes (c : Settings) (k : LaneOrdinal) (m : Nat) : Bool :=
  (k < c.ordinal && !offsetBefore c.trays c.offset m) ||
    (c.ordinal < k && offsetBefore c.trays c.offset m)

/-- A peer entry after an accepted DEMAND (R99). -/
def Peer.accept (trays : Nat) (d : DemandReport) (p : Peer) : Peer where
  presence := match p.presence with
    | .absent | .active => .active
    | .lax => .lax
  laneClass := d.laneClass
  offset := some (d.offset % trays)
  backlog := min d.backlog 4
  starve := d.starve
  running := d.running
  age := 0
  lapses := match p.presence with
    | .absent => 0
    | .active | .lax => p.lapses

/-- The share unit takes a DEMAND from ordinal k (R99, R100). -/
def takeDemand (k : LaneOrdinal) (d : DemandReport) (s : State) : State :=
  if orderClashes s.cfg k d.offset then
    setFlag .orderClash
      (raise .orderClashes (updatePeer k (fun p => { p with presence := .absent, offset := none }) s))
  else updatePeer k (Peer.accept s.cfg.trays d) s

/-- A peer entry after an epoch boundary (R101). -/
def Peer.grow (p : Peer) : Peer :=
  match p.presence with
  | .absent => p
  | .active | .lax =>
    if p.age + 1 < Config.peerAgeMax then { p with age := p.age + 1 }
    else { p with age := Config.peerAgeMax, presence := .absent }

/-- The peer table is aged (R101). -/
def agePeers (s : State) : State := s.withShare { s.share with peers := s.share.peers.map Peer.grow }

/-! ## The share (R105) -/

/-- What a peer adds to the downstream weight (R105). -/
def Peer.weight (p : Peer) : Nat :=
  if p.presence == .active && p.running then p.backlog * p.laneClass.weight else 0

/-- The downstream weight Dw: peers of a higher ordinal (R105). -/
def downstreamWeight (s : State) : Nat := ((s.share.peers.drop (s.cfg.ordinal + 1)).map Peer.weight).sum

/-- The share s for own weight w and downstream weight Dw (R105). -/
def shareOf (floor w dw : Nat) : Nat :=
  if w == 0 then 0 else min 16 (max floor (divUp (16 * w) (w + dw)))

/-- The share that a recomputation gives (R105). -/
def nextShare (s : State) : Nat :=
  shareOf s.cfg.floorShare (backlog s * s.cfg.laneClass.weight) (downstreamWeight s)

/-! ## The pace interval (R144, R145) -/

/-- The raw interval, ms, where there is one (R144). -/
def rawInterval (p : Option Ticks) (share free : Nat) : Option Nat :=
  match p with
  | none => none
  | some p => if share * free == 0 then none else some (divHalfUp (p * 128) (share * free * Config.ticksPerMs))

/-- The effective interval I, ms (R145). -/
def effectiveInterval (c : Settings) (raw : Option Nat) (limit : Nat) : Nat :=
  let clamped := min c.intervalMax (max c.intervalMin (raw.getD c.intervalMax))
  if limit == 0 then clamped else max clamped (divUp 60000 limit)

/-! ## The epoch boundary (R103, R146, R179) -/

/-- The share unit takes the new s and F (R103, R105, R106). -/
def recomputeShare (s : State) : State :=
  s.withShare { s.share with
    share := nextShare s
    lastFree := s.share.freeCount
    freeCount := 0 }

/-- The pace unit computes I (R146). -/
def recomputeInterval (s : State) : State :=
  s.withPace { s.pace with
    interval := effectiveInterval s.cfg (rawInterval (period s) s.share.share s.share.lastFree) s.pace.limit }

/-- The STAT interval count takes an epoch boundary (R179). -/
def statInterval (s : State) : State :=
  if s.report.statCount + 1 < Config.statBoundaries then
    s.withReport { s.report with statCount := s.report.statCount + 1 }
  else offerStat (s.withReport { s.report with statCount := 0 })

/-- The work of an epoch boundary (R103, R126, R146, R179). -/
def epochBoundary (s : State) : State :=
  statInterval (recomputeInterval (recomputeHorizon (recomputeShare (agePeers (request .demand s)))))

/-- Whether the next tray edge event is an epoch boundary (R102). -/
def boundaryNext (s : State) : Bool := s.share.epochCount + 1 == Config.epochLength

/-- The epoch count takes a tray edge event, with the boundary's work where it ends the epoch (R102). -/
def epochEvent (s : State) : State :=
  if boundaryNext s then epochBoundary (s.withShare { s.share with epochCount := 0 })
  else s.withShare { s.share with epochCount := s.share.epochCount + 1 }

/-- The trays that a growth of H from h0 jumps have their decided flags set (R108). -/
def passOver (e h0 : Nat) (s : State) : State :=
  (List.range (s.launch.horizon - h0)).foldl
    (fun s i => setDecided (trayAdd s.cfg.trays e (h0 + i)) s) s

/-! ## Holds (R112 to R115) -/

/-- Whether a peer is an eligible target, apart from its ordinal (R113). -/
def Peer.eligible (threshold : Nat) (p : Peer) : Bool :=
  p.presence == .active && p.running && threshold ≤ p.starve

/-- Whether ordinal k is an eligible target (R113). -/
def eligible (s : State) (k : LaneOrdinal) : Bool :=
  s.cfg.ordinal < k && k < Config.stations && (peerOf s k).eligible s.cfg.starveThreshold

/-- Whether ordinal k is an eligible peer of a class. -/
def eligibleClass (s : State) (c : LaneClass) (k : LaneOrdinal) : Bool :=
  eligible s k && (peerOf s k).laneClass == c

/-- The first of n cyclic positions after `pointer` that is taken (R114). -/
def firstAfter (n pointer : Nat) (taken : Nat → Bool) : Option Nat :=
  ((List.range n).map (fun i => (pointer + 1 + i) % n)).find? taken

/-- Whether a position of the upper rotation is taken (R114). -/
def upperTaken (s : State) (position : Nat) : Bool :=
  if position == 15 then (List.range Config.stations).any (eligibleClass s .standard)
  else eligibleClass s .express position

/-- A choice of the hold rotation: the upper position, and the target (R114). -/
structure Choice where
  position : Nat
  target   : LaneOrdinal
  deriving DecidableEq, Repr

/-- The target that the rotation picks, where one is eligible (R114). -/
def chooseTarget (s : State) : Option Choice :=
  match firstAfter 16 s.share.upper (upperTaken s) with
  | none => none
  | some p =>
    if p == 15 then
      (firstAfter 15 s.share.lower (eligibleClass s .standard)).map (fun k => ⟨15, k⟩)
    else some ⟨p, p⟩

/-- The expiry count of a hold on tray t for target j (R115). -/
def expiryOf (s : State) (t : Tray) (j : LaneOrdinal) : Tray :=
  trayAdd s.cfg.trays t (traySub s.cfg.trays ((peerOf s j).offset.getD 0) s.cfg.offset + 2)

/-- A HOLD is placed on tray t (R114, R115). -/
def placeHold (t : Tray) (c : Choice) (s : State) : State :=
  let x := expiryOf s t c.target
  let s := enqueue (.hold t c.target) s
  let s := s.withShare { s.share with
    held := s.share.held ++ [⟨t, c.target, false, x⟩]
    upper := c.position
    lower := if c.position == 15 then c.target else s.share.lower }
  raise .holdsPlaced (setMark .heldByMe t s)

/-- A free decision tray is yielded, with a HOLD where R112 allows one. -/
def yieldTray (t : Tray) (s : State) : State :=
  if (entryOf s t).any (·.governing.isNone) && s.share.held.length < Config.heldRoom && holdAdmitted s then
    match chooseTarget s with
    | some c => placeHold t c s
    | none => s
  else s

/-! ## The decision (R109 to R111) -/

/-- The cost of a tray: 0 when it is held for this station, 16 otherwise (R110). -/
def costOf (s : State) (t : Tray) : Nat :=
  match (entryOf s t).bind (·.governing) with
  | some ⟨.hold _ target, _⟩ => if target == s.cfg.ordinal then 0 else Config.trayCost
  | some ⟨.claim _ _ _ _, _⟩ => Config.trayCost
  | none => Config.trayCost

/-- The cost of a claim (R110). -/
def claimCost (s : State) (t : Tray) (span : Span) : Nat :=
  ((claimTrays s.cfg.trays t span).map (costOf s)).sum

/-- Whether the share unit claims tray t for the ready parcel `r`: the conditions of R110 after the tray
itself has been found free. -/
def claims (s : State) (t : Tray) (r : Parcel) : Bool :=
  let span := r.span.getD .one
  (claimTrays s.cfg.trays t span).all (freeTray s) &&
    claimCost s t span ≤ s.share.credit && claimAdmitted s

/-- The claim is made and handed to the launch unit at count e (R110). -/
def makeClaim (e t : Tray) (r : Parcel) (s : State) : State :=
  let span := r.span.getD .one
  let cost := claimCost s t span
  let trays := claimTrays s.cfg.trays t span
  let s := s.withShare { s.share with credit := s.share.credit - cost, starve := 0 }
  let s := trays.foldl (fun s x => setDecided x (setMark .claimedByMe x s)) s
  commitClaim r e t span cost s

/-- The own starve count is raised (R111). -/
def raiseStarve (s : State) : State :=
  s.withShare { s.share with starve := min (s.share.starve + 1) Config.starveMax }

/-- The starve count at a free decision tray that is not claimed for the ready parcel: raised where a
span-2 parcel finds its second tray not free (R111). -/
def starveSecond (t : Tray) (r : Parcel) (s : State) : State :=
  if r.span == some .two && !freeTray s (trayAdd s.cfg.trays t 1) then raiseStarve s else s

/-- The decision for decision tray t at count e (R107, R109 to R112). -/
def decideTray (e t : Tray) (s : State) : State :=
  let s := setDecided t s
  if freeTray s t then
    let s := addCredit s.share.share s
    match readyParcel s with
    | none => yieldTray t s
    | some r => if claims s t r then makeClaim e t r s else yieldTray t (starveSecond t r s)
  else
    match readyParcel s with
    | none => s
    | some _ => raiseStarve s

/-! ## Expiry, lapses and downstream claims (R116 to R118) -/

/-- A peer entry after a lapse (R118). -/
def Peer.lapse (p : Peer) : Peer :=
  let lapses := min (p.lapses + 1) Config.lapseMax
  { p with
    lapses := lapses
    presence := if p.presence == .active && lapses == Config.lapseMax then .lax else p.presence }

/-- A lapse is recorded against target j (R118). -/
def recordLapse (j : LaneOrdinal) (s : State) : State :=
  let before := (peerOf s j).presence
  let s := raise .lapses (updatePeer j Peer.lapse s)
  if before == .active && (peerOf s j).presence == .lax then setFlag .laxPeer s else s

/-- Every placed-hold entry whose expiry count is the new count leaves, with a lapse where its frame was
sent (R118). -/
def expireHolds (e : Tray) (s : State) : State :=
  let out := s.share.held.filter (fun h => h.expiry == e && h.sent)
  let s := s.withShare { s.share with held := s.share.held.filter (fun h => h.expiry != e) }
  out.foldl (fun s h => recordLapse h.target s) s

/-- The share unit takes a downstream CLAIM from j of the trays `ts` (R117). -/
def takeDownstreamClaim (j : LaneOrdinal) (ts : List Tray) (s : State) : State :=
  let matched := s.share.held.any (fun h => h.target == j && ts.contains h.tray)
  let s := s.withShare { s.share with
    held := s.share.held.filter (fun h => !(h.target == j && ts.contains h.tray)) }
  let s := if matched then updatePeer j (fun p => { p with lapses := 0 }) s else s
  if (peerOf s j).presence == .lax then
    updatePeer j (fun p => { p with presence := .active, lapses := 0 }) s
  else s

/-- The placed-hold entry of a HOLD frame that has completed is sent (R116). -/
def markHoldSent (t : Tray) (s : State) : State :=
  s.withShare { s.share with
    held := s.share.held.map (fun h => if h.tray == t then { h with sent := true } else h) }

/-! ## The share unit's tray edge event (R107) -/

/-- The free-tray question of R106. -/
def countFree (t : Tray) (s : State) : State :=
  if freeTray s t then
    s.withShare { s.share with freeCount := min (s.share.freeCount + 1) Config.epochLength }
  else s

/-- Whether a decision is taken on tray t: the station was Running when the share unit took the event,
Locked, H at most W − 1, and the tray's entry not yet decided (R107). -/
def decisionDue (wasRunning : Bool) (s : State) (t : Tray) : Bool :=
  wasRunning && s.tracker.tracking == .locked && s.launch.horizon ≤ s.cfg.window - 1 &&
    (entryOf s t).any (fun e => !e.decided)

/-- The share unit takes a tray edge event (R107): in Filling and Locked the expiries, the epoch, the
trays passed over, and in Locked the free-tray question and the decision; in Unsynced the epoch alone
(R48). -/
def shareEvent (s : State) : State :=
  match s.tracker.count with
  | none => epochEvent s
  | some e =>
    let h0 := s.launch.horizon
    let wasRunning := s.station.mode == .running
    let s := passOver e h0 (epochEvent (expireHolds e s))
    if s.tracker.tracking == .locked then
      let t := trayAdd s.cfg.trays e s.launch.horizon
      let s := countFree t s
      if decisionDue wasRunning s t then decideTray e t s else s
    else s

end Sys2Proof.Machine
end

