-- ==== Sys2Proof/Machine/Line.lean ====
section
/-! DEFINITION. The line interface (R54 to R73): the passage of an own frame, its deadline, the line condition
and the receive frame assembler; with the meanings of JOINING_ENDS, FRAME_BEGIN, LOST_ARBITRATION, BIT_ERROR,
BIT_TIMING_ERROR, LINE_FAULT, LINE_CONDITION_NORMAL, CLAIM_COMPLETION, HOLD_COMPLETION and
FRAME_COMPLETION. -/

namespace Sys2Proof.Machine

/-- The receive frame assembler waits for a start, holding no bits (R61). -/
def awaitStart (s : State) : State := s.withLine { s.line with assembler := .waiting, assembled := [] }

/-- The receive frame assembler assembles a frame of which it holds these bits (R58, R59, R61). -/
def assemble (bits : Bits) (s : State) : State :=
  s.withLine { s.line with assembler := .assembling, assembled := bits }

/-! ## What a frame carries (R104, R180, R183, R184) -/

/-- The STAT field for the station state (R184). -/
def Mode.code : Mode → Nat
  | .unconfigured | .loading | .idle => 0
  | .running => 1
  | .holding => 2
  | .faulted => 3

/-- The STAT field for the fault cause (R184). -/
def FaultCause.code : FaultCause → Nat
  | .none => 0
  | .jam .place => 1
  | .jam .measure => 2
  | .jam .stage => 3
  | .jam .launch => 4
  | .lostParcel => 5
  | .lateConflict => 6
  | .ordinalClash => 7
  | .laneNotClear => 8

/-- The STAT field for the hold set, in sending order (R184). -/
def HoldSet.bits (h : HoldSet) : Bits := [h.bank, h.tracking, h.line, h.horizon]

/-- The five counter slots of a STAT: the group's counters, then zeros (R180, R184). -/
def statCounters (r : Report) : List Nat :=
  ((counterGroup r.group).map r.counters.get ++ List.replicate 5 0).take 5

/-- The fields of a STAT frame after kind and sender, as they stand (R180, R184). -/
def statFields (s : State) : Bits :=
  natBits 2 s.station.mode.code ++ s.station.holds.bits ++ natBits 4 s.station.cause.code ++
    flagOrder.map s.report.flags.get ++ natBits 3 s.report.group ++
    (statCounters s.report).flatMap (natBits 16) ++
    natBits 16 s.cfg.intervalMin ++ natBits 16 s.pace.interval

/-- The fields of a DEMAND frame after kind and sender, as they stand (R104). -/
def ownDemandFields (s : State) : Bits :=
  let run := s.station.mode == .running
  demandFields s.cfg.laneClass s.cfg.offset (if run then backlog s else 0) s.share.starve run

/-- The kind of a queued frame (R183). -/
def TxBody.kind : TxBody → Kind
  | .claim _ _ _ => .claim
  | .hold _ _ => .hold
  | .vacate _ _ _ => .vacate
  | .demand => .demand
  | .stat => .stat

/-- The fields that a frame carries when its passage begins now (R70, R183). -/
def txFields (s : State) : TxBody → Bits
  | .claim t span _ => spanFields t span
  | .hold t target => holdFields t target
  | .vacate t span _ => spanFields t span
  | .demand => ownDemandFields s
  | .stat => statFields s

/-- The bits of a frame whose passage begins now (R183). -/
def txBits (s : State) (b : TxBody) : Bits := frameBits b.kind s.cfg.ordinal (txFields s b)

/-! ## Beginning a frame (R57) -/

/-- The frame that the sender chooses: the lowest kind, and within a kind the oldest (R57). -/
def chooseFrame (q : List TxFrame) : Option TxFrame :=
  [Kind.claim, .hold, .vacate, .bank, .demand, .stat].findSome? (fun k => q.find? (·.body.kind == k))

/-- Whether the sender may begin a frame after `recessive` parts of Tb of recessive line, where it finds the
line recessive at that instant (R54, R57). -/
def mayBegin (recessive : Nat) (s : State) : Bool :=
  active s && !s.line.faulted && s.line.passage.isNone && 4 * Config.tb ≤ recessive

/-- The frame `f` begins its passage, with the content of this instant (R57, R70). -/
def beginFrame (f : TxFrame) (s : State) : State :=
  s.withLine { s.line with
    queue := modifyFirst (·.body.kind == f.body.kind) (fun g => { g with inPassage := true }) s.line.queue
    passage := some (txBits s f.body)
    assembler := .assembling
    assembled := [] }

/-- FRAME_BEGIN (R57, R70): on an idle line the chosen frame is in passage; on a line that another node drives
the sender does not begin, and where that node's dominant run is a start, the assembler takes its frame (R56).
The 4 Tb of recessive line end joining too (R54). -/
def execFrameBegin (line : LineAtBegin) (s : State) : Host.Outcome State Fault Refusal :=
  match chooseFrame s.line.queue, line with
  | none, _ => .next s
  | some f, .idle recessive => if mayBegin recessive s then .next (beginFrame f s) else .next s
  | some _, .driven recessive run =>
    if mayBegin recessive s && startRecognised run then .next (assemble [] s) else .next s

/-! ## Ending a passage (R58 to R60, R70 to R72) -/

/-- The frame in passage. -/
def passageFrame (s : State) : Option TxFrame := s.line.queue.find? (·.inPassage)

/-- The passage ends with the frame kept for a later idle, unless its removal was asked or its deadline
was reached (R58, R59, R70, R71, R72). -/
def releasePassage (s : State) : State :=
  s.withLine { s.line with
    queue := (s.line.queue.filter (fun f => !(f.inPassage && (f.removalAsked || f.expired)))).map
      (fun f => { f with inPassage := false, renewed := false })
    passage := none }

/-- The passage ends with the frame completed: it leaves the queue, unless it was renewed (R60, R70). -/
def completePassage (s : State) : State :=
  s.withLine { s.line with
    queue := (s.line.queue.filter (fun f => !(f.inPassage && !f.renewed))).map
      (fun f => { f with inPassage := false, renewed := false })
    passage := none
    assembler := .waiting
    assembled := [] }

/-- Whether the sender sends a 1 in the kind or sender field at this bit (R58). -/
def arbitrationBit (bit : Nat) (sent : Bits) : Bool := bit < 7 && sent.getD bit false

/-- LOST_ARBITRATION (R58): the sender read 0 where it sent 1 in the kind or sender field, and the assembler
keeps the bits read so far. -/
def execLostArbitration (bit : Nat) (s : State) : Host.Outcome State Fault Refusal :=
  match s.line.passage with
  | none => .next s
  | some sent =>
    if arbitrationBit bit sent then .next (assemble (bitsRead sent bit false) (releasePassage s)) else .next s

/-- The assembler after a bit error of the own frame (R59, R61): after a wrong bit it goes on with the bits
read so far; a bit timing error discards the frame, and a start that holds the line is none, so it waits. -/
def afterBitError (sent : Bits) (cause : BitErrorCause) (s : State) : State :=
  match cause with
  | .readZero bit => assemble (bitsRead sent bit false) s
  | .readOne bit => assemble (bitsRead sent bit true) s
  | .timing _ | .startHeld _ => awaitStart s

/-- BIT_ERROR (R59). -/
def execBitError (cause : BitErrorCause) (s : State) : Host.Outcome State Fault Refusal :=
  match s.line.passage with
  | none => .next s
  | some sent =>
    if bitErrorOccurs sent cause then
      .next (raise .frameErrors (afterBitError sent cause (releasePassage s)))
    else .next s

/-- CLAIM_COMPLETION (R60, R72, R130): the record becomes Announced, or, where the frame's removal was
asked or its deadline had been reached, a VACATE for its tray and span is queued. -/
def execClaimCompletion (s : State) : Host.Outcome State Fault Refusal :=
  match passageFrame s with
  | some ⟨.claim t span _, _, asked, _, expired, _⟩ =>
    let s := completePassage s
    if asked || expired then .next (offerVacate t span s)
    else
      match s.launch.commitment with
      | none => .next s
      | some k =>
        if k.tray == t && phaseOf s k.seq == some .committed then
          .next (updateRecord Phase.isClaim k.seq (fun r => { r with phase := .announced }) s)
        else .next s
  | _ => .next s

/-- HOLD_COMPLETION (R60, R116): the placed-hold entry is sent, unless the frame's removal was asked. -/
def execHoldCompletion (s : State) : Host.Outcome State Fault Refusal :=
  match passageFrame s with
  | some ⟨.hold t _, _, asked, _, _, _⟩ =>
    let s := completePassage s
    if asked then .next s else .next (markHoldSent t s)
  | _ => .next s

/-- The counter group advances, from 4 to 0 (R180). -/
def advanceGroup (s : State) : State :=
  s.withReport { s.report with group := (s.report.group + 1) % Config.counterGroups }

/-- FRAME_COMPLETION (R60, R70, R180): a VACATE, DEMAND or STAT completes; a STAT advances the counter
group. -/
def execFrameCompletion (s : State) : Host.Outcome State Fault Refusal :=
  match passageFrame s with
  | some ⟨.vacate _ _ _, _, _, _, _, _⟩ => .next (completePassage s)
  | some ⟨.demand, _, _, _, _, _⟩ => .next (completePassage s)
  | some ⟨.stat, _, _, _, _, _⟩ => .next (advanceGroup (completePassage s))
  | _ => .next s

/-! ## Deadlines (R72) -/

/-- Each VACATE in the queue has one tray edge event fewer to its deadline (R72). -/
def ageVacates (s : State) : State :=
  withTxQueue s (s.line.queue.map (fun f =>
    match f.body with
    | .vacate t span n => { f with body := .vacate t span (n - 1) }
    | .claim _ _ _ | .hold _ _ | .demand | .stat => f))

/-- Whether a tray edge event with the count given reaches a frame's deadline (R72). A CLAIM or HOLD in
passage at a resync has none: it runs to its end (R51). -/
def deadlineReached (count : Option Tray) (f : TxFrame) : Bool :=
  match f.body with
  | .claim _ _ edge => count == some edge && !f.spared
  | .hold t _ => count == some t && !f.spared
  | .vacate _ _ n => n == 0
  | .demand | .stat => false

/-- The queue after a tray edge event: frames at their deadlines leave it, and a frame in passage whose
last bit has begun runs to its end (R72). -/
def queueAfterDeadlines (count : Option Tray) (lastBit : Bool) (q : List TxFrame) : List TxFrame :=
  (q.filter (fun f => !(deadlineReached count f && !(f.inPassage && lastBit)))).map
    (fun f => if deadlineReached count f then { f with expired := true } else f)

/-- Whether the frame in passage is cut (R72). -/
def passageCut (count : Option Tray) (lastBit : Bool) (s : State) : Bool :=
  (passageFrame s).any (fun f => deadlineReached count f && !lastBit)

/-- What a frame's deadline tells the launch unit or the share unit (R72, R116, R131). -/
def reportDeadline (s : State) (f : TxFrame) : State :=
  match f.body with
  | .claim t _ edge =>
    match s.launch.commitment with
    | none => s
    | some k =>
      if k.tray == t && k.edge == edge && phaseOf s k.seq == some .committed then abandon k s else s
  | .hold t _ => dropHeld t s
  | .vacate _ _ _ | .demand | .stat => s

/-- The line interface takes a tray edge event (R72). After a cut the own assembler waits, with no bits held:
DESIGN CHOICE (log entry 40), unsafe, for the spec does not say what it does with a frame that another node may
still be sending from the same arbitration. -/
def lineEvent (lastBit : Bool) (s : State) : State :=
  let count := s.tracker.count
  let reached := s.line.queue.filter (deadlineReached count)
  let cut := passageCut count lastBit s
  let s := withTxQueue s (queueAfterDeadlines count lastBit s.line.queue)
  let s := if cut then awaitStart (s.withLine { s.line with passage := none }) else s
  reached.foldl reportDeadline s

/-! ## The receive frame assembler and the line condition (R54, R61, R67) -/

/-- JOINING_ENDS (R54): after 4 Tb of recessive line the assembler waits. -/
def execJoiningEnds (recessive : Nat) (s : State) : Host.Outcome State Fault Refusal :=
  if active s && s.line.assembler == .joining && 4 * Config.tb ≤ recessive then
    .next (awaitStart s)
  else .next s

/-- Whether the assembler assembles a frame of another node that comes so (R54, R56, R61, R67): the line
interface runs, the line condition is normal, no own frame is in passage, and the frame's start is recognised
while the assembler waits, or the assembler is assembling it already. -/
def receives (arrival : Arrival) (s : State) : Bool :=
  active s && !s.line.faulted && s.line.passage.isNone &&
    match arrival with
    | .fromStart run => s.line.assembler == .waiting && startRecognised run
    | .goesOn => s.line.assembler == .assembling

/-- Whether the bits of a whole frame go on from those that the assembler holds (R58, R61). -/
def continues (arrival : Arrival) (bits : Bits) (s : State) : Bool :=
  match arrival with
  | .fromStart _ => true
  | .goesOn => beginsWith s.line.assembled bits

/-- Whether a frame with these bits completes at the assembler (R56, R61). -/
def completes (arrival : Arrival) (bits : Bits) (s : State) : Bool :=
  receives arrival s && continues arrival bits s

/-- A frame is discarded and the line frame errors counter raised; the assembler waits (R61 to R64). -/
def frameError (s : State) : State := raise .frameErrors (awaitStart s)

/-- BIT_TIMING_ERROR (R61): a receiver sees edges that break a window. A sender's own is a bit error
(R59). -/
def execBitTimingError (seen : Heard Sighting) (s : State) : Host.Outcome State Fault Refusal :=
  if receives seen.arrival s && breaksWindow seen.what then .next (frameError s) else .next s

/-- On a faulted line the assembler assembles nothing (R61, R67); one that joins goes on joining. -/
def stopAssembling (s : State) : State :=
  if s.line.assembler == .assembling then awaitStart s else s

/-- LINE_FAULT (R67): a dominant run reaches 4 Tb with the line condition normal. An own frame whose
start still holds the line ends in a bit error (R59). -/
def execLineFault (dominant : Nat) (s : State) : Host.Outcome State Fault Refusal :=
  if active s && !s.line.faulted && 4 * Config.tb ≤ dominant then
    let s := if s.line.passage.isSome then raise .frameErrors (releasePassage s) else s
    .next (addHold .line (setFlag .lineFault (stopAssembling (s.withLine { s.line with faulted := true }))))
  else .next s

/-- LINE_CONDITION_NORMAL (R67): 16 Tb of recessive line. -/
def execLineConditionNormal (recessive : Nat) (s : State) : Host.Outcome State Fault Refusal :=
  if active s && s.line.faulted && 16 * Config.tb ≤ recessive then
    .next (removeHold .line (awaitStart (s.withLine { s.line with faulted := false })))
  else .next s

end Sys2Proof.Machine
end

