-- ==== Sys2Proof/Machine/Tracker.lean ====
section
/-! DEFINITION. The tray tracker (R36 to R53): intervals, the tracking states and the tray edge event with all
that it carries to the other blocks; with the meanings of TRAY_EDGE_EVENT, CONFIRM_EYE_BLOCKED and TIMEOUT. -/

namespace Sys2Proof.Machine

/-! ## Intervals (R41, R42) -/

/-- The absolute lower bound, ticks (R41). -/
def lowerBound (pitch : Nat) : Ticks := divUp (pitch * 10) 3

/-- The absolute upper bound, ticks (R41). -/
def upperBound (pitch : Nat) : Ticks := pitch * 20

/-- Whether an interval is plausible against the bounds that apply (R41). -/
def plausible (pitch : Nat) (p : Option Ticks) (x : Ticks) : Bool :=
  lowerBound pitch ≤ x && x ≤ upperBound pitch &&
    (match p with
      | none => true
      | some m => m ≤ 2 * x && x ≤ 2 * m)

/-- Whether the running interval timer has passed the upper bound that applies (R41). -/
def timedOut (pitch : Nat) (p : Option Ticks) (x : Ticks) : Bool :=
  upperBound pitch < x ||
    (match p with
      | none => false
      | some m => 2 * m < x)

/-- The history with a plausible interval at its newest end (R42). -/
def joinHistory (x : Ticks) (h : List Ticks) : List Ticks :=
  if h.length < Config.historyRoom then h ++ [x] else h.drop 1 ++ [x]

/-! ## The tracking states (R43 to R47) -/

/-- What a tray edge event does to tracking. -/
inductive TrayTurn where
  /-- Taken in Unsynced, which stays. -/
  | unsynced
  /-- An implausible interval (R47). -/
  | implausible
  /-- A home edge event that enters Filling (R43). -/
  | entersFilling
  /-- A home mismatch (R45). -/
  | homeMismatch
  /-- A home missing (R46). -/
  | homeMissing
  /-- The count advances to this tray, with the edges since home that follow (R44). -/
  | advances (count sinceHome : Nat)
  deriving DecidableEq, Repr

/-- Whether the interval that a tray edge event ends, if it ends one, is plausible (R40, R41). -/
def intervalPlausible (c : Settings) (t : Tracker) : Bool :=
  match t.timer with
  | none => true
  | some x => plausible c.pitch (meanPeriod t.history) x

/-- The history once a tray edge event with a plausible interval, or none, has been taken (R42). -/
def historyAfter (t : Tracker) : List Ticks :=
  match t.timer with
  | none => t.history
  | some x => joinHistory x t.history

/-- What a tray edge event does to tracking, home or ordinary (R43 to R47). -/
def trayTurn (c : Settings) (home : Bool) (t : Tracker) : TrayTurn :=
  if !intervalPlausible c t then .implausible
  else
    match t.tracking with
    | .unsynced =>
      if home && (historyAfter t).length == Config.historyRoom then .entersFilling else .unsynced
    | .filling | .locked =>
      let e := t.count.getD 0
      if home then
        if e + 1 == c.trays then .advances 0 0 else .homeMismatch
      else if t.sinceHome + 1 == c.trays then .homeMissing
      else .advances (trayAdd c.trays e 1) (t.sinceHome + 1)

/-- Unsynced, with the count absent (R46, R47). -/
def loseTracking (s : State) : State :=
  s.withTracker { s.tracker with tracking := .unsynced, count := none, sinceHome := 0, fillEvents := 0 }

/-- Filling is entered, or rebuilt, at tray 0, and the window is built (R43, R45, R78). -/
def enterFilling (s : State) : State :=
  buildWindow (s.withTracker { s.tracker with
    tracking := .filling, count := some 0, sinceHome := 0, fillEvents := 0 })

/-- Whether tracking is Filling or Locked. -/
def tracked (s : State) : Bool := s.tracker.tracking != .unsynced

/-- Tracking departs from Locked with a resync: the hold cause TRACKING is in the set from then (R49,
R50). -/
def resyncHold (s : State) : State := addHold .tracking (resync s)

/-- An implausible interval, ended or timed out (R47). -/
def implausibleInterval (s : State) : State :=
  let was := tracked s
  let s := setFlag .trayTiming (raise .timingFaults s)
  let s := loseTracking (s.withTracker { s.tracker with history := [] })
  if was then resyncHold s else s

/-- The count advances with the window's turnover; the W-th event after Filling was entered takes tracking
to Locked (R43, R44, R79). -/
def advanceCount (count sinceHome : Nat) (loaded : Bool) (s : State) : State :=
  let fill := s.tracker.fillEvents + 1
  let locks := s.tracker.tracking == .filling && fill == s.cfg.window
  let s := s.withTracker { s.tracker with
    count := some count
    sinceHome := sinceHome
    fillEvents := if s.tracker.tracking == .filling then fill else s.tracker.fillEvents
    tracking := if locks then .locked else s.tracker.tracking }
  let s := turnover count loaded s
  if locks then removeHold .tracking s else s

/-- What a tray edge event does to tracking and to the window (R43 to R50). -/
def takeTurn (turn : TrayTurn) (loaded : Bool) (s : State) : State :=
  match turn with
  | .unsynced => s
  | .implausible => implausibleInterval s
  | .entersFilling => enterFilling s
  | .homeMismatch => raise .homeMismatches (enterFilling (resyncHold s))
  | .homeMissing => raise .homeMismatches (resyncHold (loseTracking s))
  | .advances count sinceHome => advanceCount count sinceHome loaded s

/-- The interval timer, the history and the confirm latch take a tray edge event (R39, R40, R42). The
latch is set again at once while the confirm eye stays blocked (R39). -/
def trackerTimes (confirm : Bool) (s : State) : State :=
  s.withTracker { s.tracker with
    history := if intervalPlausible s.cfg s.tracker then historyAfter s.tracker else s.tracker.history
    timer := some 0
    latch := confirm
    latchBegun := true }

/-- The confirm reading that a tray edge event hands on (R39). -/
def confirmReading (t : Tracker) : Option Bool := if t.latchBegun then some t.latch else none

/-- The launch unit takes a tray edge event: the launch in flight its reading, the commitment its launch
edge (R48, R131, R141). -/
def launchEvent (reading : Option Bool) (s : State) : State :=
  let s := flightEvent reading s
  commitmentEvent s.tracker.count s

/-- TRAY_EDGE_EVENT (R36 to R50, R72, R79, R107, R131, R141). The blocks take the event in the order
tracker with the window, share unit with the epoch, launch unit, line interface: DESIGN CHOICE (log entry
10), unsafe. -/
def execTrayEdgeEvent (home load confirm lastBitBegun : Bool) (s : State) :
    Host.Outcome State Fault Refusal :=
  if active s then
    let turn := trayTurn s.cfg home s.tracker
    let reading := confirmReading s.tracker
    let s := takeTurn turn load (trackerTimes confirm (ageVacates s))
    .next (settleLane (lineEvent lastBitBegun (launchEvent reading (shareEvent s))))
  else .next s

/-- CONFIRM_EYE_BLOCKED (R39): the confirm latch is set. -/
def execConfirmEyeBlocked (s : State) : Host.Outcome State Fault Refusal :=
  if active s then .next (s.withTracker { s.tracker with latch := true }) else .next s

/-- Whether the running interval has passed the upper bound that applies (R41). -/
def timeoutDue (s : State) : Bool :=
  s.tracker.timer.any (timedOut s.cfg.pitch (period s))

/-- The interval timer stops at a timeout (R41). Where the timeout is a resync, the confirm latch is cleared at
it (R53), and set again at once while the confirm eye stays blocked (R39), as it can be only where it has been
seen blocked since the last tray edge event (DEDUCED, log entry 36; the level itself is a free value). -/
def trackerTimesOut (s : State) : State :=
  if tracked s then
    s.withTracker { s.tracker with
      timer := none
      latch := s.tracker.latch && Config.confirmEyeStaysBlocked s.tracker.timeouts
      timeouts := s.tracker.timeouts + 1 }
  else s.withTracker { s.tracker with timer := none }

/-- TIMEOUT (R41, R47): the running interval is implausible. -/
def execTimeout (s : State) : Host.Outcome State Fault Refusal :=
  if active s && timeoutDue s then .next (implausibleInterval (trackerTimesOut s)) else .next s

end Sys2Proof.Machine
end

