-- ==== Sys2Proof/Machine/Scan.lean ====
section
/-! DEFINITION. The scan port and the scan binder (R22 to R35); with the meanings of SCAN_RECORD and
SCAN_WINDOW_RUNS_OUT. -/

namespace Sys2Proof.Machine

/-! ## Deciding a parcel (R30 to R32) -/

/-- Whether a destination matches an enabled filter (R31). -/
def Filter.matches (destination : Nat) (f : Filter) : Bool :=
  f.enabled && (BitVec.ofNat 16 destination &&& f.mask) == (f.base &&& f.mask)

/-- The size classes (R32): a span, or none for undersize and oversize. -/
def sizeClass (c : Settings) (length : Nat) : Option Span :=
  if length < c.minLength then none
  else if length ≤ c.pitch then some .one
  else if length ≤ 2 * c.pitch then some .two
  else none

/-- The outcome of the three checks of R30: a span for Bound, none for Rejected. -/
def decideParcel (c : Settings) (destination length : Nat) : Option Span :=
  if destination == 0 then
    match c.noRead with
    | .reject => none
    | .induct => sizeClass c length
  else if c.filters.any (Filter.matches destination) then none
  else sizeClass c length

/-- A Measured record after its destination has been decided (R30). -/
def Parcel.decided (c : Settings) (destination : Nat) (r : Parcel) : Parcel :=
  match decideParcel c destination (r.length.getD 0) with
  | some span => { r with phase := .bound, span := some span, scanTimer := none }
  | none => { r with phase := .rejected, scanTimer := none }

/-- The destination that a scan record gives: 0 for a no-read record (R24, R30). -/
def ScanData.effective (d : ScanData) : Nat := if d.quality == 0 then 0 else d.destination

/-- The record with sequence number n leaves Measured with a destination (R30): a destination of 0 raises
the no-reads counter. -/
def leaveMeasured (n : SeqNo) (destination : Nat) (s : State) : State :=
  let s := updateRecord Phase.isMeasured n (Parcel.decided s.cfg destination) s
  if destination == 0 then raise .noReads s else s

/-- The oldest record in phase Measured (R26). -/
def oldestMeasured (s : State) : Option Parcel := s.lane.queue.find? (·.phase == .measured)

/-! ## Binding (R24 to R27) -/

/-- An accepted record binds to the oldest Measured record, or enters the scan slot (R26). -/
def bindRecord (d : ScanData) (s : State) : State :=
  match oldestMeasured s with
  | some r => leaveMeasured (r.seq.getD 0) d.effective s
  | none =>
    let overrun := s.scan.slot.isSome
    let s := s.withScan { s.scan with slot := some ⟨d, 0⟩ }
    if overrun then setFlag .scanOverrun (raise .scanOverruns s) else s

/-- The binder takes a well-formed record (R24). -/
def takeScan (d : ScanData) (s : State) : State :=
  if s.station.mode == .faulted then raise .orphanScans s
  else if s.scan.lastSequence == some d.seq then raise .badScans s
  else bindRecord d (s.withScan { s.scan with lastSequence := some d.seq })

/-- The scan window, in ticks (R27). -/
def scanWindowTicks (s : State) : Ticks := s.cfg.scanWindow * Config.ticksPerMs

/-- A parcel record has become Measured and the binder looks at the slot (R27). -/
def measuredArrives (n : SeqNo) (s : State) : State :=
  match s.scan.slot with
  | none => s
  | some slot =>
    let s := s.withScan { s.scan with slot := none }
    if slot.age ≤ scanWindowTicks s then leaveMeasured n slot.record.effective s
    else raise .orphanScans s

/-! ## The scan port (R22, R23) -/

/-- A record is closed by its end character, or at its maximum length, and checked (R23). -/
def closeRecord (chars : List ScanChar) (s : State) : State :=
  let s := s.withScan { s.scan with openRecord := none }
  match scanRecordData chars with
  | some d => takeScan d s
  | none => raise .badScans s

/-- The port takes one character (R22, R23, R185). -/
def takeChar (s : State) (c : ScanChar) : State :=
  match s.scan.openRecord with
  | none => if c.code == scanStart then s.withScan { s.scan with openRecord := some [c] } else s
  | some chars =>
    if c.code == scanStart then raise .badScans (s.withScan { s.scan with openRecord := some [c] })
    else if c.code == scanEnd then closeRecord (chars ++ [c]) s
    else if chars.length + 1 == Config.scanRecordMax then
      raise .badScans (s.withScan { s.scan with openRecord := none })
    else s.withScan { s.scan with openRecord := some (chars ++ [c]) }

/-- SCAN_RECORD (R22 to R26): the characters that arrive are taken in turn. -/
def execScanRecord (chars : List ScanChar) (s : State) : Host.Outcome State Fault Refusal :=
  if active s then .next (settleLane (chars.foldl takeChar s)) else .next s

/-- Whether the Measured record with sequence number n has its scan window timer at the window (R28). -/
def scanWindowDue (n : SeqNo) (s : State) : Bool :=
  (recordOf Phase.isMeasured s n).any (fun r => r.scanTimer.any (fun t => scanWindowTicks s ≤ t))

/-- SCAN_WINDOW_RUNS_OUT (R28, R30): the record becomes a no-read. Its timer advances only in Running and
Holding, so it does not run out elsewhere (R29). -/
def execScanWindowRunsOut (n : SeqNo) (s : State) : Host.Outcome State Fault Refusal :=
  if drawing s && scanWindowDue n s then .next (settleLane (leaveMeasured n 0 s)) else .next s

end Sys2Proof.Machine
end

