-- ==== Sys2Proof/Machine/Lane.lean ====
section
/-! DEFINITION. The lane eyes and the stall timers (R1 to R21, R34, R137): the meanings of the eye events and of
STALL_TIMER_RUNS_OUT. An event at an eye is a change of that eye's level; where the level already stands
there is no change and so no event (log entry 9). -/

namespace Sys2Proof.Machine

/-! ## Place eye (R11, R147) -/

/-- The pace timer restarts with I × 10 ticks (R147). -/
def restartPace (s : State) : State :=
  s.withPace { s.pace with timer := some (s.pace.interval * Config.ticksPerMs) }

/-- The place count raised by 1, up to 15 (R11). -/
def raisePlace (s : State) : State :=
  s.withLane { s.lane with placeCount := min (s.lane.placeCount + 1) Config.placeCountMax }

/-- PLACE_EYE_FRONT_EDGE (R11, R147). -/
def execPlaceEyeFrontEdge (s : State) : Host.Outcome State Fault Refusal :=
  if takesLaneEvents s then .next (settleLane (restartPace (raisePlace s))) else .next s

/-! ## Measure eye (R8, R9, R10) -/

/-- A new Measuring record, which lowers the place count where it is above 0 (R8). -/
def createRecord (s : State) : State :=
  let lowers := 0 < s.lane.placeCount
  s.withLane { s.lane with
    queue := s.lane.queue ++ [.fresh lowers]
    placeCount := s.lane.placeCount - 1 }

/-- MEASURE_EYE_FRONT_EDGE (R8, R18): a new record, or an overfill. The place zone's stall timer restarts
where the place count is still above 0 (R19). -/
def execMeasureEyeFrontEdge (s : State) : Host.Outcome State Fault Refusal :=
  if s.lane.measureEye then .next s
  else
    let s := s.withLane { s.lane with measureEye := true }
    if takesLaneEvents s then
      if queueRoom s then .next (settleLane (restartStall .place (createRecord s)))
      else .next (reportJam .measure s)
    else .next s

/-- The length for a blocked-time count (R9). -/
def measuredLength (c : Settings) (ticks : Ticks) : Nat :=
  min (divHalfUp (ticks * c.conveying) Config.ticksPerSecond) Config.lengthMax

/-- The record being measured. -/
def measuringRecord (s : State) : Option Parcel := s.lane.queue.find? (·.phase == .measuring)

/-- The blocking is noise: the record is deleted as though it had not been made (R9). Where its front edge at
the transfer eye has been taken and the eye has not cleared, its parcel stands there with no record (R1). -/
def deleteNoise (r : Parcel) (s : State) : State :=
  raise .noiseBlocks (s.withLane { s.lane with
    queue := s.lane.queue.eraseP (·.phase == .measuring)
    transferStray := s.lane.transferStray || (s.lane.transferEye && r.atTransfer)
    placeCount :=
      if r.loweredCount then min (s.lane.placeCount + 1) Config.placeCountMax else s.lane.placeCount })

/-- The record becomes Measured with its length and the next sequence number (R9, R10, R27). -/
def becomeMeasured (length : Nat) (s : State) : State :=
  let n := s.lane.nextSeq
  let s := s.withLane { s.lane with
    queue := modifyFirst (·.phase == .measuring)
      (fun r => { r with
        phase := .measured
        seq := some n
        length := some length
        blockedTicks := none
        scanTimer := some 0 }) s.lane.queue
    nextSeq := n + 1 }
  measuredArrives n s

/-- MEASURE_EYE_CLEARING (R9, R10, R27). -/
def execMeasureEyeClearing (s : State) : Host.Outcome State Fault Refusal :=
  if s.lane.measureEye then
    let s := s.withLane { s.lane with measureEye := false }
    if takesLaneEvents s then
      match measuringRecord s with
      | none => .next (settleLane s)
      | some r =>
        let length := measuredLength s.cfg (r.blockedTicks.getD 0)
        if length < s.cfg.noiseFloor then .next (settleLane (deleteNoise r s))
        else .next (settleLane (becomeMeasured length s))
    else .next s
  else .next s

/-! ## Transfer eye (R16) -/

/-- The expected record at the transfer eye (R16). -/
def Parcel.awaitsTransfer (r : Parcel) : Bool := r.zone == .measure && !r.atTransfer

/-- TRANSFER_EYE_FRONT_EDGE (R16, R18, R19). -/
def execTransferEyeFrontEdge (s : State) : Host.Outcome State Fault Refusal :=
  if s.lane.transferEye then .next s
  else
    let s := s.withLane { s.lane with transferEye := true }
    if takesLaneEvents s then
      if s.lane.queue.any Parcel.awaitsTransfer then
        .next (settleLane (restartStall .measure
          (withQueue s (modifyFirst Parcel.awaitsTransfer (fun r => { r with atTransfer := true }) s.lane.queue))))
      else .next (reportJam .measure s)
    else .next s

/-- TRANSFER_EYE_CLEARING (R1, R4, R16, R18): nothing after acceptance, and a stray event in the stage zone
before it, for a parcel whose record was deleted as noise, too. -/
def execTransferEyeClearing (s : State) : Host.Outcome State Fault Refusal :=
  if s.lane.transferEye then
    let stray := waitsAtTransfer s || strayAtTransfer s
    let s := s.withLane { s.lane with transferEye := false, transferStray := false }
    if takesLaneEvents s then
      if stray then .next (reportJam .stage s) else .next (settleLane s)
    else .next s
  else .next s

/-! ## Stage eye (R17, R34) -/

/-- The record of the stage zone that has not yet reached the stage eye (R17). -/
def Parcel.awaitsStage (r : Parcel) : Bool := r.zone == .stage && !r.atStage

/-- A record that has reached the stage eye: a Bound one is Staged, a Rejected one rests (R17). -/
def Parcel.reachStage (r : Parcel) : Parcel :=
  { r with atStage := true, phase := if r.phase == .bound then .staged else r.phase }

/-- The REMOVE flag is set where a Rejected record rests at the stage eye (R34, R176). -/
def reportRejected (s : State) : State := if rejectedAtStage s then setFlag .remove s else s

/-- STAGE_EYE_FRONT_EDGE (R17, R18, R34). -/
def execStageEyeFrontEdge (s : State) : Host.Outcome State Fault Refusal :=
  if s.lane.stageEye then .next s
  else
    let s := s.withLane { s.lane with stageEye := true }
    if takesLaneEvents s then
      if s.lane.queue.any Parcel.awaitsStage then
        .next (settleLane (reportRejected
          (withQueue s (modifyFirst Parcel.awaitsStage Parcel.reachStage s.lane.queue))))
      else .next (reportJam .stage s)
    else .next s

/-- The launching record's tail leaves the stage zone (R17). -/
def leaveStage (s : State) : State :=
  withQueue s (s.lane.queue.map (fun r => if r.phase == .launching then { r with zone := .launch } else r))

/-- The stage belt is given back (R2, R137). -/
def giveBackStage (s : State) : State :=
  leaveStage (s.withLane { s.lane with stageHolder := .sequencer })

/-- A Rejected record resting at the stage eye. -/
def Parcel.restsRejected (r : Parcel) : Bool := r.phase == .rejected && r.zone == .stage && r.atStage

/-- Removal of a resting Rejected parcel (R34, R177). -/
def removeRejected (s : State) : State :=
  clearFlag .remove (raise .rejects (withQueue s (s.lane.queue.eraseP Parcel.restsRejected)))

/-- Whether a Staged, Committed or Announced record rests at the stage eye (R17). -/
def readyRests (s : State) : Bool :=
  s.lane.queue.any (fun r => r.phase == .staged || r.phase == .committed || r.phase == .announced)

/-- STAGE_EYE_CLEARING (R17, R18, R34, R137). -/
def execStageEyeClearing (s : State) : Host.Outcome State Fault Refusal :=
  if s.lane.stageEye then
    let s := s.withLane { s.lane with stageEye := false }
    if takesLaneEvents s then
      if s.lane.stageHolder == .launchUnit then .next (settleLane (giveBackStage s))
      else if s.lane.queue.any Parcel.restsRejected then .next (settleLane (removeRejected s))
      else if readyRests s then .next (reportJam .stage s)
      else .next s
    else .next s
  else .next s

/-! ## Exit eye (R18, R137, R140, R141) -/

/-- EXIT_EYE_FRONT_EDGE (R18, R137). -/
def execExitEyeFrontEdge (s : State) : Host.Outcome State Fault Refusal :=
  if s.lane.exitEye then .next s
  else
    let s := s.withLane { s.lane with exitEye := true }
    if takesLaneEvents s && !inProgress s then .next (reportJam .launch s) else .next s

/-- The launch belt is given back, and the stage belt with it where the launch unit still holds it (R137). -/
def giveBackLaunch (s : State) : State :=
  leaveStage (s.withLane { s.lane with stageHolder := .sequencer, launchHolder := .sequencer })

/-- EXIT_EYE_CLEARING (R137, R140, R141): the exit check, the belts, then a deferred verdict. -/
def execExitEyeClearing (s : State) : Host.Outcome State Fault Refusal :=
  if s.lane.exitEye then
    let s := s.withLane { s.lane with exitEye := false }
    if takesLaneEvents s && inProgress s then
      .next (settleLane (takeVerdict (giveBackLaunch (exitCheck s))))
    else .next s
  else .next s

/-! ## Stall timers (R20) -/

/-- Whether a zone's stall timer has run out (R20). -/
def stallDue (z : Zone) (s : State) : Bool := s.lane.stall.get z == some 0

/-- STALL_TIMER_RUNS_OUT (R20): JAM in the timer's zone. -/
def execStallTimerRunsOut (z : Zone) (s : State) : Host.Outcome State Fault Refusal :=
  if stallDue z s then .next (reportJam z s) else .next s

end Sys2Proof.Machine
end

