-- ==== Sys2Proof/Machine/Notices.lean ====
section
/-! DEFINITION. Frames of other nodes completed on the lane line (R62 to R66, R74): the checks, the ordinal clash,
and the meanings of CLAIM_NOTICE, HOLD_NOTICE, VACATE_NOTICE, DEMAND_NOTICE, STAT_NOTICE, BANK_HOLD,
BANK_RESUME, BANK_PACE and UNKNOWN_KIND_FRAME. -/

namespace Sys2Proof.Machine

/-- An ordinal clash (R65): the flag, and Faulted unless the station is already. -/
def ordinalClash (s : State) : State := reportFault .ordinalClash (setFlag .ordinalClash s)

/-- A frame completes at the assembler (R62 to R66): discarded, a clash, or handed over by `take`. -/
def receiveFrame (arrival : Arrival) (bits : Bits) (take : State → State) (s : State) : State :=
  if completes arrival bits s then
    match screen s.cfg.ordinal bits with
    | .discard => frameError s
    | .clash => ordinalClash (awaitStart s)
    | .pass => take (awaitStart s)
  else s

/-- The whole frame of a known kind whose bits after the kind field are `rest`. -/
def withKind (k : Kind) (rest : Bits) : Bits := natBits 3 k.code ++ rest

/-- CLAIM_NOTICE (R66, R83, R117): to the tray window, and from downstream to the share unit. -/
def execClaimNotice (frame : Heard Bits) (s : State) : Host.Outcome State Fault Refusal :=
  let bits := withKind .claim frame.what
  .next (receiveFrame frame.arrival bits
    (fun s =>
      let k := senderOf bits
      let t := trayOf bits
      let heard := hearClaim k t (spanOf bits) s
      if s.cfg.ordinal < k then
        takeDownstreamClaim k (claimTrays s.cfg.trays (t % s.cfg.trays) (spanOf bits)) heard
      else heard) s)

/-- HOLD_NOTICE (R66, R83, R89). -/
def execHoldNotice (frame : Heard Bits) (s : State) : Host.Outcome State Fault Refusal :=
  let bits := withKind .hold frame.what
  .next (receiveFrame frame.arrival bits (hearHold (senderOf bits) (trayOf bits) (holdTargetOf bits)) s)

/-- VACATE_NOTICE (R66, R83, R91). -/
def execVacateNotice (frame : Heard Bits) (s : State) : Host.Outcome State Fault Refusal :=
  let bits := withKind .vacate frame.what
  .next (receiveFrame frame.arrival bits (hearVacate (senderOf bits) (trayOf bits) (spanOf bits)) s)

/-- DEMAND_NOTICE (R66, R99, R100). -/
def execDemandNotice (frame : Heard Bits) (s : State) : Host.Outcome State Fault Refusal :=
  let bits := withKind .demand frame.what
  .next (receiveFrame frame.arrival bits (takeDemand (senderOf bits) (demandOf bits)) s)

/-- STAT_NOTICE (R66): heard, and taken by no block. -/
def execStatNotice (frame : Heard Bits) (s : State) : Host.Outcome State Fault Refusal :=
  .next (receiveFrame frame.arrival (withKind .stat frame.what) id s)

/-- Whether a BANK notice is for this station (R74). -/
def bankForUs (bits : Bits) (s : State) : Bool :=
  bankTargetOf bits == s.cfg.ordinal || bankTargetOf bits == Config.panel

/-- A BANK notice with the order `order` completes; `act` is its effect where it is for this station (R74).
A frame that passes the checks with another order is another row's command (log entry 8). -/
def receiveBank (order : Nat) (frame : Heard Bits) (act : Bits → State → State) (s : State) :
    Host.Outcome State Fault Refusal :=
  let bits := withKind .bank frame.what
  if completes frame.arrival bits s && screen s.cfg.ordinal bits == .pass && bankOrderOf bits != order then
    .refused .anotherBankOrder
  else .next (receiveFrame frame.arrival bits (fun s => if bankForUs bits s then act bits s else s) s)

/-- BANK_HOLD (R74). -/
def execBankHold (frame : Heard Bits) (s : State) : Host.Outcome State Fault Refusal :=
  receiveBank 0 frame (fun _ => addHold .bank) s

/-- BANK_RESUME (R74). -/
def execBankResume (frame : Heard Bits) (s : State) : Host.Outcome State Fault Refusal :=
  receiveBank 1 frame (fun _ => removeHold .bank) s

/-- The pace limit is set; 61 to 63 are taken as 60 (R74). -/
def setPaceLimit (limit : Nat) (s : State) : State :=
  s.withPace { s.pace with limit := min limit Config.paceLimitMax }

/-- BANK_PACE (R74). -/
def execBankPace (frame : Heard Bits) (s : State) : Host.Outcome State Fault Refusal :=
  receiveBank 2 frame (fun bits => setPaceLimit (bankLimitOf bits)) s

/-- UNKNOWN_KIND_FRAME (R62 to R64): the checks discard it, whichever of them it meets first. -/
def execUnknownKindFrame (frame : Heard UnknownFrame) (s : State) : Host.Outcome State Fault Refusal :=
  .next (receiveFrame frame.arrival (unknownBits frame.what) id s)

end Sys2Proof.Machine
end

