-- ==== Sys2Proof/Machine/Console.lean ====
section
/-! DEFINITION. The console (R147 to R151, R158 to R165): the buttons, the cue lamps, the pace timer's running
out and the blink of the FAULT lamp; with the meanings of START, STOP, CLEAR, PACE_TIMER_RUNS_OUT,
FAULT_BLINK_PHASE and FAULT_BLINK_END. -/

namespace Sys2Proof.Machine

/-! ## Cue lamps (R148, R150) -/

/-- The four cue lamps. -/
inductive Lamp where
  | place
  | wait
  | remove
  | fault
  deriving DecidableEq, Repr

/-- Whether the conditions of the PLACE lamp hold (R148). -/
def placeWanted (s : State) : Bool :=
  s.station.mode == .running && s.lane.placeCount == 0 && queueRoom s && s.pace.timer.isNone

/-- The selected lamp (R148). -/
def selectedLamp (s : State) : Lamp :=
  if s.station.mode == .faulted || s.station.mode == .unconfigured then .fault
  else if rejectedAtStage s then .remove
  else if placeWanted s then .place
  else .wait

/-- Whether a lamp's output is asserted (R148, R150). -/
def lampOutput (s : State) (l : Lamp) : Bool :=
  selectedLamp s == l && (l != .fault || s.pace.blink.all (·.lit))

/-! ## Buttons (R151) -/

/-- Whether a change of a button's input to asserted is taken as a press (R151). -/
def pressTaken (quiet : Quiet) (s : State) : Bool :=
  active s &&
    (match quiet with
      | .sinceLoading => true
      | .ticks n => decide (Config.debounceTicks ≤ n))

/-- START (R158): from Idle to Running, or to Holding where a hold cause stands. -/
def execStart (quiet : Quiet) (s : State) : Host.Outcome State Fault Refusal :=
  if pressTaken quiet s && s.station.mode == .idle then
    .next (settleLane (setMode (if s.station.holds.isEmpty then .running else .holding) s))
  else .next s

/-- STOP (R159, R160): from Running or Holding to Idle. -/
def execStop (quiet : Quiet) (s : State) : Host.Outcome State Fault Refusal :=
  if pressTaken quiet s && s.station.mode == .running then
    .next (settleLane (leaveRunning (setMode .idle s)))
  else if pressTaken quiet s && s.station.mode == .holding then .next (settleLane (setMode .idle s))
  else .next s

/-! ## Clear (R163 to R165) -/

/-- Whether every lane eye is clear (R163). -/
def laneClear (eyes : LaneEyes) : Bool :=
  !(eyes.place || eyes.measure || eyes.transfer || eyes.stage || eyes.exit)

/-- The levels of the lane eyes as they are read. No parcel at the transfer eye is one that lost its record:
Loading has made no record, and an accepted Clear reads every eye clear (R1, R163). -/
def readEyes (eyes : LaneEyes) (s : State) : State :=
  s.withLane { s.lane with
    measureEye := eyes.measure, transferEye := eyes.transfer, stageEye := eyes.stage, exitEye := eyes.exit,
    transferStray := false }

/-- The lane sequencer after an accepted Clear (R21). -/
def clearLane (s : State) : State :=
  s.withLane { s.lane with
    queue := []
    placeCount := 0
    stall := .stopped
    stageHolder := .sequencer
    launchHolder := .sequencer }

/-- Every own mark of the window is none (R81). -/
def clearMarks (s : State) : State :=
  withEntries s (s.window.entries.map (fun e => { e with mark := .none }))

/-- An accepted Clear (R164). -/
def acceptClear (s : State) : State :=
  let s := clearLane s
  let s := s.withScan { s.scan with slot := none }
  let s := s.withShare { s.share with credit := 0, held := [] }
  let s := s.withLaunch { s.launch with commitment := none, flight := none }
  let s := clearMarks (askRemoval TxBody.isHold s)
  let s := s.withPace { s.pace with timer := none, blink := none }
  let s := clearFlags s
  offerStat (s.withStation { s.station with mode := .idle, cause := .none, again := none })

/-- The blink of the FAULT lamp starts, or starts again (R150). -/
def startBlink (s : State) : State :=
  s.withPace { s.pace with blink := some ⟨Config.blinkPhaseTicks, true, Config.blinkTicks⟩ }

/-- An accepted Clear, after which a fault reported together with it takes the station to Faulted again,
whichever of the two came first (R166). The flag of a report that came first is cleared all the same (R177). -/
def clearTogether (s : State) : State :=
  match s.station.again with
  | none => acceptClear s
  | some cause => reportFault cause (acceptClear s)

/-- CLEAR (R163 to R166): accepted or refused in Faulted against the lane eyes, and in Idle the flags
whose cause has gone are cleared. -/
def execClear (quiet : Quiet) (eyes : LaneEyes) (s : State) : Host.Outcome State Fault Refusal :=
  if pressTaken quiet s && s.station.mode == .faulted then
    if laneClear eyes then .next (clearTogether (readEyes eyes s)) else .next (startBlink s)
  else if pressTaken quiet s && s.station.mode == .idle then .next (clearFlags s)
  else .next s

/-! ## Timers of the console (R147, R150) -/

/-- PACE_TIMER_RUNS_OUT (R147). It falls only in Running and Holding. -/
def execPaceTimerRunsOut (s : State) : Host.Outcome State Fault Refusal :=
  if drawing s && s.pace.timer == some 0 then .next (s.withPace { s.pace with timer := none }) else .next s

/-- FAULT_BLINK_PHASE (R150): a phase of 250 ms ends and the lamp toggles. -/
def execFaultBlinkPhase (s : State) : Host.Outcome State Fault Refusal :=
  match s.pace.blink with
  | none => .next s
  | some b =>
    if b.phaseLeft == 0 then
      .next (s.withPace { s.pace with blink := some { b with phaseLeft := Config.blinkPhaseTicks, lit := !b.lit } })
    else .next s

/-- FAULT_BLINK_END (R150): the 2000 ms end and the lamp is asserted steadily. -/
def execFaultBlinkEnd (s : State) : Host.Outcome State Fault Refusal :=
  match s.pace.blink with
  | none => .next s
  | some b => if b.left == 0 then .next (s.withPace { s.pace with blink := none }) else .next s

end Sys2Proof.Machine
end

