-- ==== Sys2Proof/Machine/Loading.lean ====
section
/-! DEFINITION. The configuration loader (R168 to R175) and the end of Loading (R155); with the meanings of
POWER_ON_RESET, LINE_RECOVERY, REFUSAL and TRANSFER. -/

namespace Sys2Proof.Machine

/-- POWER_ON_RESET (R168): every block as after power-on, and Loading from line recovery. The commands that
wait, and the levels at the lane eyes, are outside the part and stay. -/
def execPowerOnReset (s : State) : Host.Outcome State Fault Refusal :=
  .next (readEyes
    { place := false
      measure := s.lane.measureEye
      transfer := s.lane.transferEye
      stage := s.lane.stageEye
      exit := s.lane.exitEye }
    (State.reset.withPending s.pending))

/-- The fallback alert mapping: every flag to output 0 (R172). -/
def fallbackAlerts : List (Option (Fin 4)) := flagOrder.map (fun _ => some 0)

/-- What the loader does on the memory port (R169, R170). -/
def setPort (acts : List PortAct) (s : State) : State := s.withLoader { s.loader with port := acts }

/-- The load fails: CONFIG FAULT, the fallback mapping, and Unconfigured (R155, R168, R172). -/
def failLoad (s : State) : State :=
  let s := s.withLoader { s.loader with conf := none, locked := false, phase := .released }
  let s := setFlag .configFault (s.withReport { s.report with alerts := fallbackAlerts })
  s.withStation { s.station with mode := .unconfigured }

/-- LINE_RECOVERY (R169): the transfer begins, or the load fails. -/
def execLineRecovery (samples : List RecoverySample) (s : State) : Host.Outcome State Fault Refusal :=
  match s.station.mode, s.loader.phase with
  | .loading, .recovering n =>
    match recoverLine samples with
    | .complete =>
      .next (s.withLoader { s.loader with phase := .transferring n, port := recoveryActs samples })
    | .failed => .next (failLoad (setPort (recoveryActs samples) s))
    | .unfinished => .next s
  | _, _ => .next s

/-- REFUSAL (R171): a stop condition, and a new attempt from line recovery, or, at the fourth refusal, the
load fails. The causes differ in where the transfer ends (R170). -/
def execRefusal (cause : RefusalCause) (s : State) : Host.Outcome State Fault Refusal :=
  match s.station.mode, s.loader.phase with
  | .loading, .transferring n =>
    if n + 1 < Config.loadAttempts then
      .next (s.withLoader { s.loader with phase := .recovering (n + 1), port := refusalActs cause })
    else .next (failLoad (setPort (refusalActs cause) s))
  | _, _ => .next s

/-- The configuration is handed over and locked (R174, R175), and CONFIG CLAMPED reported where a field
was clamped (R173). -/
def handOver (conf : Clamped Settings) (s : State) : State :=
  let s := s.withLoader { s.loader with conf := some conf.1, locked := true, phase := .released }
  let s := s.withReport { s.report with alerts := conf.1.alerts }
  let s := s.withPace { s.pace with interval := conf.1.intervalMax }
  let s := s.withLaunch { s.launch with horizon := horizonWith conf.1 0 }
  if conf.2 then setFlag .configClamped s else s

/-- Loading ends after a good load (R155): in Idle, or in Faulted with LANE NOT CLEAR; TRACKING is in the
hold set, H is reported, and a STAT is offered. -/
def endLoading (eyes : LaneEyes) (s : State) : State :=
  let station : Station :=
    if laneClear eyes then { s.station with mode := .idle }
    else { s.station with mode := .faulted, cause := .laneNotClear }
  let s := offerStat ((readEyes eyes s).withStation station)
  reportHorizon (addHold .tracking s)

/-- TRANSFER (R170, R172 to R175, R155): the transfer has run to its stop condition, and the raw block is
checked, read, handed over and locked, or the load fails. -/
def execTransfer (block : Vector Byte 64) (eyes : LaneEyes) (s : State) :
    Host.Outcome State Fault Refusal :=
  match s.station.mode, s.loader.phase with
  | .loading, .transferring _ =>
    let s := setPort transferActs s
    match blockFault block with
    | some _ => .next (failLoad s)
    | none => .next (endLoading eyes (handOver (readSettings block) s))
  | _, _ => .next s

end Sys2Proof.Machine
end

