-- ==== Sys2Proof/Machine/Clock.lean ====
section
/-! DEFINITION. The passing of one tick of 100 µs, which is what the part does while no command waits: every
timer and count that runs advances by one, and the events of the timers that have then come due are put
in the queue (log entry 4). -/

namespace Sys2Proof.Machine

/-- A timer that counts down. -/
def countDown (t : Option Ticks) : Option Ticks := t.map (· - 1)

/-- A record after a tick: its blocked-time count while the measure eye is blocked and the measure belt
draws (R9), its scan window timer in Running and Holding (R29). -/
def Parcel.tick (measuring timing : Bool) (r : Parcel) : Parcel :=
  { r with
    blockedTicks := if measuring then r.blockedTicks.map (· + 1) else r.blockedTicks
    scanTimer := if timing then r.scanTimer.map (· + 1) else r.scanTimer }

/-- The lane sequencer after a tick (R9, R19, R29). -/
def tickLane (s : State) : Lane :=
  { s.lane with
    queue := s.lane.queue.map (Parcel.tick (s.lane.measureEye && measureDraws s) (drawing s))
    stall :=
      { place := countDown s.lane.stall.place
        measure := countDown s.lane.stall.measure
        stage := countDown s.lane.stall.stage
        launch := countDown s.lane.stall.launch } }

/-- The scan binder after a tick: the slot's age in Running and Holding (R29). -/
def tickScan (s : State) : Scan :=
  if drawing s then
    { s.scan with slot := s.scan.slot.map (fun x => { x with age := x.age + 1 }) }
  else s.scan

/-- The tray tracker after a tick: the interval timer, up to 65535 (R40). -/
def tickTracker (t : Tracker) : Tracker :=
  { t with timer := t.timer.map (fun n => min (n + 1) Config.intervalMax) }

/-- The time since a launch edge after a tick (R131). -/
def EdgeTiming.tick (t : EdgeTiming) : EdgeTiming := { t with clock := t.clock + 1 }

/-- The launch unit after a tick: the delay timer, the ramp and the exit window's time (R131, R136,
R139). -/
def tickLaunch (l : Launch) : Launch :=
  { l with
    commitment := l.commitment.map (fun k => { k with timing := k.timing.map EdgeTiming.tick })
    flight := l.flight.map (fun f => { f with timing := f.timing.tick }) }

/-- The pace unit after a tick: the pace timer in Running and Holding, and the blink (R147, R150). -/
def tickPace (s : State) : Pace :=
  { s.pace with
    timer := if drawing s then countDown s.pace.timer else s.pace.timer
    blink := s.pace.blink.map (fun b => { b with phaseLeft := b.phaseLeft - 1, left := b.left - 1 }) }

/-- Station control after a tick: a fault reported in Faulted before it no longer comes together with a Clear
(R166, log entry 38). -/
def tickStation (c : Station) : Station := { c with again := none }

/-- Every block after a tick. -/
def elapse (s : State) : State :=
  (((((s.withLane (tickLane s)).withScan (tickScan s)).withTracker (tickTracker s.tracker)).withLaunch
    (tickLaunch s.launch)).withPace (tickPace s)).withStation (tickStation s.station)

/-- The Measured records whose scan windows have run out, oldest first. -/
def dueScanWindows (s : State) : List Instr :=
  (s.lane.queue.filterMap (·.seq)).filter (fun n => drawing s && scanWindowDue n s)
    |>.map Instr.scanWindowRunsOut

/-- The zones whose stall timers have run out, in belt order. -/
def dueStalls (s : State) : List Instr :=
  ([Zone.place, .measure, .stage, .launch].filter (fun z => stallDue z s)).map Instr.stallTimerRunsOut

/-- A timer event where it is due. -/
def dueEvent (due : Bool) (c : Instr) : List Instr := if due then [c] else []

/-- The timer events that are due. Their order is a DESIGN CHOICE (log entry 4), unsafe: the spec lets
either of two that come together be taken first. -/
def dueEvents (s : State) : List Instr :=
  dueScanWindows s ++ dueStalls s ++ dueEvent (closingDue s) .exitWindowClosing ++
    dueEvent (launchDue s) .launchMoment ++ dueEvent (active s && timeoutDue s) .timeout ++
    dueEvent (drawing s && s.pace.timer == some 0) .paceTimerRunsOut ++
    dueEvent (s.pace.blink.any (·.phaseLeft == 0)) .faultBlinkPhase ++
    dueEvent (s.pace.blink.any (·.left == 0)) .faultBlinkEnd

/-- One tick: time passes, and the timer events that are due wait in the queue. -/
def tick (s : State) : State :=
  let after := elapse s
  after.withPending (s.pending ++ dueEvents after)

end Sys2Proof.Machine
end

