-- ==== Sys2Proof/Machine/Dispatch.lean ====
section
/-! DEFINITION. The meaning of every command: one arm for each constructor of `Instr`, in the order of
spec/opcode_table.json. -/

namespace Sys2Proof.Machine

def exec (i : Instr) (s : State) : Host.Outcome State Fault Refusal :=
  match i with
  | .powerOnReset => Sys2Proof.Machine.execPowerOnReset s
  | .lineRecovery samples => Sys2Proof.Machine.execLineRecovery samples s
  | .refusal cause => Sys2Proof.Machine.execRefusal cause s
  | .transfer block eyes => Sys2Proof.Machine.execTransfer block eyes s
  | .placeEyeFrontEdge => Sys2Proof.Machine.execPlaceEyeFrontEdge s
  | .measureEyeFrontEdge => Sys2Proof.Machine.execMeasureEyeFrontEdge s
  | .measureEyeClearing => Sys2Proof.Machine.execMeasureEyeClearing s
  | .transferEyeFrontEdge => Sys2Proof.Machine.execTransferEyeFrontEdge s
  | .transferEyeClearing => Sys2Proof.Machine.execTransferEyeClearing s
  | .stageEyeFrontEdge => Sys2Proof.Machine.execStageEyeFrontEdge s
  | .stageEyeClearing => Sys2Proof.Machine.execStageEyeClearing s
  | .exitEyeFrontEdge => Sys2Proof.Machine.execExitEyeFrontEdge s
  | .exitEyeClearing => Sys2Proof.Machine.execExitEyeClearing s
  | .stallTimerRunsOut zone => Sys2Proof.Machine.execStallTimerRunsOut zone s
  | .scanRecord chars => Sys2Proof.Machine.execScanRecord chars s
  | .scanWindowRunsOut seq => Sys2Proof.Machine.execScanWindowRunsOut seq s
  | .trayEdgeEvent home load confirm lastBitBegun => Sys2Proof.Machine.execTrayEdgeEvent home load confirm lastBitBegun s
  | .confirmEyeBlocked => Sys2Proof.Machine.execConfirmEyeBlocked s
  | .timeout => Sys2Proof.Machine.execTimeout s
  | .launchMoment => Sys2Proof.Machine.execLaunchMoment s
  | .exitWindowClosing => Sys2Proof.Machine.execExitWindowClosing s
  | .joiningEnds recessive => Sys2Proof.Machine.execJoiningEnds recessive s
  | .frameBegin line => Sys2Proof.Machine.execFrameBegin line s
  | .lostArbitration bit => Sys2Proof.Machine.execLostArbitration bit s
  | .bitError cause => Sys2Proof.Machine.execBitError cause s
  | .bitTimingError seen => Sys2Proof.Machine.execBitTimingError seen s
  | .lineFault dominant => Sys2Proof.Machine.execLineFault dominant s
  | .lineConditionNormal recessive => Sys2Proof.Machine.execLineConditionNormal recessive s
  | .claimCompletion => Sys2Proof.Machine.execClaimCompletion s
  | .holdCompletion => Sys2Proof.Machine.execHoldCompletion s
  | .frameCompletion => Sys2Proof.Machine.execFrameCompletion s
  | .claimNotice frame => Sys2Proof.Machine.execClaimNotice frame s
  | .holdNotice frame => Sys2Proof.Machine.execHoldNotice frame s
  | .vacateNotice frame => Sys2Proof.Machine.execVacateNotice frame s
  | .demandNotice frame => Sys2Proof.Machine.execDemandNotice frame s
  | .statNotice frame => Sys2Proof.Machine.execStatNotice frame s
  | .bankHold frame => Sys2Proof.Machine.execBankHold frame s
  | .bankResume frame => Sys2Proof.Machine.execBankResume frame s
  | .bankPace frame => Sys2Proof.Machine.execBankPace frame s
  | .start quiet => Sys2Proof.Machine.execStart quiet s
  | .stop quiet => Sys2Proof.Machine.execStop quiet s
  | .clear quiet eyes => Sys2Proof.Machine.execClear quiet eyes s
  | .paceTimerRunsOut => Sys2Proof.Machine.execPaceTimerRunsOut s
  | .faultBlinkPhase => Sys2Proof.Machine.execFaultBlinkPhase s
  | .faultBlinkEnd => Sys2Proof.Machine.execFaultBlinkEnd s
  | .unknownKindFrame frame => Sys2Proof.Machine.execUnknownKindFrame frame s

end Sys2Proof.Machine
end

