-- ==== Sys2Proof/Safety.lean ====
section
/-! DEFINITION. What a sound state of the part is: the bounds and the agreements between blocks that the rules
state of every state; and the words that claims use of what the part is sent. -/

namespace Sys2Proof.Machine

/-- The parcel queue and the place count (R11, R14), and a parcel with no record at a blocked transfer eye
alone (R1). -/
structure LaneBounds (l : Lane) : Prop where
  queue : l.queue.length ≤ Config.queueRoom
  place : l.placeCount ≤ Config.placeCountMax
  stray : l.transferStray = true → l.transferEye = true

/-- A peer entry (R98). -/
structure PeerBounds (p : Peer) : Prop where
  backlog : p.backlog ≤ 4
  starve  : p.starve ≤ 255
  age     : p.age ≤ Config.peerAgeMax
  lapses  : p.lapses ≤ Config.lapseMax

/-- The share unit's figures (R98, R102, R105, R106, R109, R111, R113, R114). -/
structure ShareBounds (h : Share) : Prop where
  peers  : h.peers.length = Config.stations
  peer   : ∀ p ∈ h.peers, PeerBounds p
  share  : h.share ≤ 16
  credit : h.credit ≤ Config.creditMax
  starve : h.starve ≤ Config.starveMax
  epoch  : h.epochCount < Config.epochLength
  free   : h.freeCount ≤ Config.epochLength
  last   : h.lastFree ≤ Config.epochLength
  upper  : h.upper ≤ 15
  lower  : h.lower ≤ 14
  held   : h.held.length ≤ Config.heldRoom

/-- The transmit queue's limits (R68). -/
structure QueueLimits (q : List TxFrame) : Prop where
  claim  : q.countP (·.body.isClaim) ≤ 1
  demand : q.countP (·.body.isDemand) ≤ 1
  stat   : q.countP (·.body.isStat) ≤ 1
  shared : q.countP (·.body.isHoldOrVacate) ≤ Config.holdVacateRoom

/-- The pending list's limit (R94). -/
structure WindowBounds (w : Window) : Prop where
  pending : w.pending.length ≤ Config.pendingRoom

/-- The tracker: the count is present in Filling and Locked, and there the history holds eight intervals
(R40, R42, R43). -/
structure TrackerSound (t : Tracker) : Prop where
  history : t.history.length ≤ Config.historyRoom
  timer   : ∀ n, t.timer = some n → n ≤ Config.intervalMax
  count   : t.count.isSome = (t.tracking != .unsynced)
  full    : t.tracking ≠ .unsynced → t.history.length = Config.historyRoom

/-- The report unit's figures (R178, R179, R180). -/
structure ReportBounds (r : Report) : Prop where
  counters : ∀ c, r.counters.get c ≤ Config.counterMax
  interval : r.statCount < Config.statBoundaries
  group    : r.group < Config.counterGroups

/-- The state that a failed load leaves (R155, R168, R172): no configuration, an open lock and released port
lines after what the loader did on them, CONFIG FAULT set, every flag mapped to alert output 0, and
Unconfigured; all else as it was. -/
def State.withFailedLoad (s : State) (port : List PortAct) : State :=
  { s with
    loader := { conf := none, locked := false, phase := .released, port := port }
    report := { s.report with
      flags := { s.report.flags with configFault := true }
      alerts := List.replicate 14 (some 0) }
    station := { s.station with mode := .unconfigured } }

/-- A decimal digit as the scanner sends it (R185). -/
def digitChar (d : Fin 10) : ScanChar := ⟨BitVec.ofNat 8 (48 + d.val), false⟩

/-- The value of decimal digits, most significant first (R185). -/
def digitsValue (ds : List (Fin 10)) : Nat := ds.foldl (fun n d => 10 * n + d.val) 0

/-- A scan record as the scanner sends it (R185). -/
def scanText (seq destination : List (Fin 10)) (quality : Fin 10) : List ScanChar :=
  ⟨0x02, false⟩ :: (seq.map digitChar ++ ⟨0x2C, false⟩ :: (destination.map digitChar ++
    [⟨0x2C, false⟩, digitChar quality, ⟨0x03, false⟩]))

/-- The bits that follow the kind field of a frame of a kind from a sender, as that sender builds it (R63,
R183). -/
def frameRest (kind : Kind) (sender : LaneOrdinal) (fields : Bits) : Bits := (frameBits kind sender fields).drop 3

/-- Whether the line interface takes a frame of another node that comes so (R54, R56, R61, R67): it runs, on a
normal line, with no own frame in passage, and either the frame's start is recognised while the assembler
waits, a dominant run of 1½ to 4 Tb, or the assembler is assembling that frame already. -/
def LineTakes (s : State) (a : Arrival) : Prop :=
  active s = true ∧ s.line.faulted = false ∧ s.line.passage = none ∧
    ((∃ run, a = .fromStart run ∧ s.line.assembler = .waiting ∧ 96 ≤ run ∧ run < 256) ∨
      (a = .goesOn ∧ s.line.assembler = .assembling))

/-- Whether a frame with these bits completes at the line interface: it takes the frame, and where it is
assembling it already, the bits go on from those that it holds (R58, R61). -/
def FrameArrives (s : State) (a : Arrival) (bits : Bits) : Prop :=
  LineTakes s a ∧ (a = .goesOn → s.line.assembled <+: bits)

/-- The state with its assembler waiting for a start, no bits held (R61). -/
def State.waiting (s : State) : State := { s with line := { s.line with assembler := .waiting, assembled := [] } }

/-- The state once a frame has been discarded and counted (R61 to R64). -/
def State.errored (s : State) : State :=
  { s.waiting with report := { s.report with counters := s.report.counters.raise .frameErrors } }

/-- The bits with bit `i` turned over. -/
def flipBit (i : Nat) (bits : Bits) : Bits := bits.modify i not

/-- The ranges of the loaded configuration (R173). -/
structure SettingsInRange (c : Settings) : Prop where
  ordinal         : c.ordinal ≤ 14
  trays           : 64 ≤ c.trays ∧ c.trays ≤ 4095
  offset          : c.offset < c.trays
  pitch           : 400 ≤ c.pitch ∧ c.pitch ≤ 1600
  window          : 9 ≤ c.window ∧ c.window ≤ 63
  margin          : 1 ≤ c.margin ∧ c.margin ≤ 4
  path            : 500 ≤ c.path ∧ c.path ≤ 6000 ∧ c.pitch ≤ c.path
  accel           : 1000 ≤ c.accel ∧ c.accel ≤ 20000
  conveying       : 300 ≤ c.conveying ∧ c.conveying ≤ 1500
  noiseFloor      : 10 ≤ c.noiseFloor ∧ c.noiseFloor ≤ 100
  minLength       : 20 ≤ c.minLength ∧ c.minLength ≤ 800
  stallTime       : 1 ≤ c.stallTime ∧ c.stallTime ≤ 30
  scanWindow      : 50 ≤ c.scanWindow ∧ c.scanWindow ≤ 2000
  floorShare      : 1 ≤ c.floorShare ∧ c.floorShare ≤ 16
  starveThreshold : 1 ≤ c.starveThreshold ∧ c.starveThreshold ≤ 255
  intervalMin     : 500 ≤ c.intervalMin ∧ c.intervalMin ≤ 10000
  intervalMax     : 2000 ≤ c.intervalMax ∧ c.intervalMax ≤ 30000
  filters         : c.filters.length = 4
  alerts          : c.alerts.length = 14

/-- The configuration loader (R168, R172, R175): the lock is closed exactly while a configuration is loaded,
one is loaded whenever the blocks run, and what is loaded lies in range. -/
structure LoaderSound (s : State) : Prop where
  lock   : s.loader.locked = s.loader.conf.isSome
  loaded : active s = true → s.loader.conf.isSome = true
  range  : ∀ c, s.loader.conf = some c → SettingsInRange c

/-- Among the queue's records, `r` is the first of those in the phases `among` that bears the sequence number
`n`; the records before it and after it. -/
structure FirstRecord (s : State) (among : Phase → Bool) (n : SeqNo) (before : List Parcel) (r : Parcel)
    (after : List Parcel) : Prop where
  queue : s.lane.queue = before ++ r :: after
  phase : among r.phase = true
  seq   : r.seq = some n
  first : ∀ q ∈ before, among q.phase = true → q.seq ≠ some n

/-- The parcel records (R5, R10, R13, R14, R25): at most one is Measuring, which has the measure eye blocked
where lane events are taken; every later one has a number; at most one stands in the stage zone, where every
Staged, Committed and Announced one rests, so that there is at most one of these; at most one is Launching; the
commitment and the launch in flight name the Committed or Announced record and the Launching one; and with a
Measured record the scan slot is empty. -/
structure ParcelsSound (s : State) : Prop where
  before     : active s = false → s.lane.queue = []
  measuring  : s.lane.queue.countP (·.phase == .measuring) ≤ 1
  blocked    : takesLaneEvents s = true → ∀ r ∈ s.lane.queue, r.phase = .measuring → s.lane.measureEye = true
  numbered   : ∀ r ∈ s.lane.queue, r.phase ≠ .measuring → r.seq.isSome = true
  stage      : s.lane.queue.countP (·.zone == .stage) ≤ 1
  resting    : ∀ r ∈ s.lane.queue, r.phase.isClaim = true → r.zone = .stage
  launching  : s.lane.queue.countP (·.phase == .launching) ≤ 1
  committed  : ∀ r ∈ s.lane.queue, r.phase = .committed ∨ r.phase = .announced →
    ∃ k, s.launch.commitment = some k ∧ r.seq = some k.seq
  commitment : ∀ k, s.launch.commitment = some k →
    ∃ r ∈ s.lane.queue, (r.phase = .committed ∨ r.phase = .announced) ∧ r.seq = some k.seq
  launched   : ∀ r ∈ s.lane.queue, r.phase = .launching → ∃ f, s.launch.flight = some f ∧ r.seq = some f.seq
  flight     : ∀ f, s.launch.flight = some f →
    ∃ r ∈ s.lane.queue, r.phase = .launching ∧ r.seq = some f.seq
  slot       : ∀ r ∈ s.lane.queue, r.phase = .measured → s.scan.slot = none

/-- The pending list (R94): empty in Unsynced, and else in order of distance, of trays beyond the window, no two
notices of one tray, sender and kind. -/
structure PendingSound (s : State) : Prop where
  empty  : s.tracker.tracking = .unsynced → s.window.pending = []
  beyond : ∀ e, s.tracker.count = some e → ∀ n ∈ s.window.pending,
    n.part.tray < s.cfg.trays ∧ s.cfg.window < traySub s.cfg.trays n.part.tray e
  order  : ∀ e, s.tracker.count = some e → s.window.pending.Pairwise (fun a b =>
    traySub s.cfg.trays a.part.tray e ≤ traySub s.cfg.trays b.part.tray e)
  single : s.window.pending.Pairwise (fun a b => ¬ (a.part.tray = b.part.tray ∧ a.part.sender = b.part.sender ∧
    a.part.body.sameKind b.part.body = true))

/-- The window's entries (R76): none in Unsynced, and with a count e exactly those of the trays e+1 to e+W in
order; outside the states in which the tracker runs, tracking is Unsynced (R36). -/
structure WindowAligned (s : State) : Prop where
  before  : active s = false → s.tracker.tracking = .unsynced
  count   : s.tracker.count.isSome = (s.tracker.tracking != .unsynced)
  empty   : s.tracker.tracking = .unsynced → s.window.entries = []
  aligned : ∀ e, s.tracker.count = some e → e < s.cfg.trays ∧
    s.window.entries.map (·.tray) = (List.range s.cfg.window).map (fun i => (e + 1 + i) % s.cfg.trays)

/-- The passage of an own frame (R57): one frame of the queue is in passage while its bits are on the line,
and none otherwise. -/
def PassageSound (l : Line) : Prop :=
  l.queue.countP (·.inPassage) = if l.passage.isSome then 1 else 0

/-- The receive frame assembler (R57, R58, R61, R67): bits of another node's frame are held only while it
assembles; it assembles through the passage of an own frame, holding none; and on a faulted line there is no
passage and it assembles nothing. -/
structure AssemblerSound (l : Line) : Prop where
  bits    : l.assembler ≠ .assembling → l.assembled = []
  passage : l.passage.isSome = true → l.assembler = .assembling ∧ l.assembled = []
  faulted : l.faulted = true → l.passage = none ∧ l.assembler ≠ .assembling

/-- The stage zone and the stall timers (R2, R5, R19): no acceptance is outstanding, each stall timer runs
exactly while its start condition holds, and outside Idle, Running and Holding the launch unit has no
commitment, no launch in flight and no belt. -/
structure BeltsSound (s : State) : Prop where
  settled    : accepts s = false
  stall      : ∀ z, (s.lane.stall.get z).isSome = stallCondition s z
  commitment : takesLaneEvents s = false → s.launch.commitment = none
  flight     : takesLaneEvents s = false → s.launch.flight = none
  holders    : takesLaneEvents s = false →
    s.lane.stageHolder = .sequencer ∧ s.lane.launchHolder = .sequencer

/-- Station control and the blocks that its hold causes speak of (R49, R67, R127, R156, R157, R161): from the
end of Loading the causes TRACKING, LINE and HORIZON are in the hold set exactly while their conditions hold;
before it the set is empty, tracking is Unsynced and the line condition normal; Running stands with an empty
set and Holding with one that is not; and Faulted alone has a fault cause, and a fault reported once more, which
has a cause (R166). -/
structure StationSound (s : State) : Prop where
  tracking : active s = true → s.station.holds.tracking = (s.tracker.tracking != .locked)
  line     : active s = true → s.station.holds.line = s.line.faulted
  horizon  : active s = true → s.station.holds.horizon = decide (s.cfg.window - 1 < s.launch.horizon)
  before   : active s = false → s.station.holds.isEmpty = true ∧ s.tracker.tracking = .unsynced ∧
    s.line.faulted = false
  running  : s.station.mode = .running → s.station.holds.isEmpty = true
  holding  : s.station.mode = .holding → s.station.holds.isEmpty = false
  faulted  : s.station.mode = .faulted ↔ s.station.cause ≠ .none
  again    : ∀ c, s.station.again = some c → s.station.mode = .faulted ∧ c ≠ .none

/-- A pace limit of 0 to 60 (R75) and an interval of at most 60000 ms (R145). -/
structure PaceBounds (p : Pace) : Prop where
  limit    : p.limit ≤ Config.paceLimitMax
  interval : p.interval ≤ 60000

end Sys2Proof.Machine
end

