-- ==== Sys2Proof/Certificates/Slice0/Obligations.lean ====
section
/-! DEFINITION. The statements for the provers. Each docstring names the rules of spec/ that its statement
rests on, and the log entry where a clause is the model's own choice. -/

open Sys2Proof Sys2Proof.Machine

/-! ## The queue of commands and the passing of time -/

/-- A step takes the command at the front of the queue and runs it on the state with the queue's rest. The
queue is the model's (log entry 1); the spec has one event act at a time. -/
def Obligations.StepRunsTheFrontCommand : Prop :=
  ∀ (c : Instr) (rest : List Instr) (s : State),
    step (s.withPending (c :: rest)) = exec c (s.withPending rest)

/-- A step on an empty queue is one tick of 100 µs (log entry 4): the interval timer rises to its bound
(R40), the blocked-time count rises while the measure eye is blocked and its belt draws (R9), the scan window
timers and the slot's age rise and the pace timer falls in Running and Holding alone (R29, R147), the stall
timers fall (R19), the time since a launch edge rises (R131), and the blink runs (R150). A fault report no
longer comes together with a Clear (log entry 38). All else stays, the eye levels and the belt holders
included. The queue then holds exactly the timer events that are due: the scan windows of R28, the stall
timers of R20, the closing of the exit window of R140 once it is over, the launch moment, the timeout, the
pace timer's end, and the blink's phase and end. -/
def Obligations.EmptyQueuePassesOneTick : Prop :=
  ∀ s : State, s.pending = [] → ∃ t, step s = .next t ∧
    t.tracker = { s.tracker with timer := s.tracker.timer.map (fun n => min (n + 1) 65535) } ∧
    t.pace = { s.pace with
      timer := if drawing s then s.pace.timer.map (· - 1) else s.pace.timer
      blink := s.pace.blink.map (fun b => { b with phaseLeft := b.phaseLeft - 1, left := b.left - 1 }) } ∧
    t.scan = (if drawing s then
      { s.scan with slot := s.scan.slot.map (fun x => { x with age := x.age + 1 }) } else s.scan) ∧
    (∀ z, t.lane.stall.get z = (s.lane.stall.get z).map (· - 1)) ∧
    t.lane = { s.lane with
      stall := t.lane.stall
      queue := s.lane.queue.map (fun r : Parcel => { r with
        blockedTicks :=
          if s.lane.measureEye && measureDraws s then r.blockedTicks.map (· + 1) else r.blockedTicks
        scanTimer := if drawing s then r.scanTimer.map (· + 1) else r.scanTimer }) } ∧
    t.launch = { s.launch with
      commitment := s.launch.commitment.map (fun k =>
        { k with timing := k.timing.map (fun x => { x with clock := x.clock + 1 }) })
      flight := s.launch.flight.map (fun f =>
        { f with timing := { f.timing with clock := f.timing.clock + 1 } }) } ∧
    t.window = s.window ∧ t.share = s.share ∧ t.line = s.line ∧
    t.station = { s.station with again := none } ∧ t.report = s.report ∧ t.loader = s.loader ∧
    (∀ n, .scanWindowRunsOut n ∈ t.pending ↔ drawing s = true ∧
      ∃ r k, recordOf Phase.isMeasured t n = some r ∧ r.scanTimer = some k ∧ s.cfg.scanWindow * 10 ≤ k) ∧
    (∀ z, .stallTimerRunsOut z ∈ t.pending ↔ t.lane.stall.get z = some 0) ∧
    (.exitWindowClosing ∈ t.pending ↔ t.lane.launchHolder = .launchUnit ∧ ∃ f m,
      t.launch.flight = some f ∧ f.checked = false ∧ f.timing.edges[f.closing.event - 1]? = some m ∧
      m + f.closing.ticks < f.timing.clock) ∧
    (.launchMoment ∈ t.pending ↔
      ∃ k x, t.launch.commitment = some k ∧ k.timing = some x ∧ k.delay ≤ x.clock) ∧
    (.timeout ∈ t.pending ↔ active s = true ∧ ∃ n, t.tracker.timer = some n ∧
      timedOut s.cfg.pitch (period s) n = true) ∧
    (.paceTimerRunsOut ∈ t.pending ↔ drawing s = true ∧ t.pace.timer = some 0) ∧
    (.faultBlinkPhase ∈ t.pending ↔ ∃ b, t.pace.blink = some b ∧ b.phaseLeft = 0) ∧
    (.faultBlinkEnd ∈ t.pending ↔ ∃ b, t.pace.blink = some b ∧ b.left = 0) ∧
    (∀ c ∈ t.pending, (∃ n, c = .scanWindowRunsOut n) ∨ (∃ z, c = .stallTimerRunsOut z) ∨
      c ∈ [Instr.exitWindowClosing, .launchMoment, .timeout, .paceTimerRunsOut, .faultBlinkPhase,
        .faultBlinkEnd])

/-- Every block at power-on reset holds what the tables of R21, R53, R73, R97, R120, R143, R153, R167 and
R182 and the prose of R22 to R25 and R168 give in their first column. H, I and the eye levels, for which the
spec gives none, are left out. -/
def Obligations.ResetValues : Prop :=
  let s := State.reset
  s.lane.queue = [] ∧ s.lane.placeCount = 0 ∧ s.lane.nextSeq = 0 ∧ s.lane.transferStray = false ∧
  (∀ z, s.lane.stall.get z = none) ∧
  s.lane.stageHolder = .sequencer ∧ s.lane.launchHolder = .sequencer ∧
  placeBelt s = 0 ∧ measureBelt s = 0 ∧ stageBelt s = 0 ∧ launchBelt s = 0 ∧
  s.scan = { openRecord := none, lastSequence := none, slot := none } ∧
  s.tracker.tracking = .unsynced ∧ s.tracker.count = none ∧ s.tracker.sinceHome = 0 ∧
  s.tracker.history = [] ∧ period s = none ∧ s.tracker.timer = none ∧ s.tracker.latch = false ∧
  s.tracker.latchBegun = false ∧
  s.window = { entries := [], pending := [] } ∧
  s.share.peers = List.replicate 15
    { presence := .absent, laneClass := .standard, offset := none, backlog := 0, starve := 0,
      running := false, age := 0, lapses := 0 } ∧
  s.share.share = 0 ∧ s.share.credit = 0 ∧ s.share.starve = 0 ∧ s.share.epochCount = 0 ∧
  s.share.freeCount = 0 ∧ s.share.lastFree = 0 ∧ s.share.upper = 15 ∧ s.share.lower = 14 ∧
  s.share.held = [] ∧
  s.launch.commitment = none ∧ s.launch.flight = none ∧
  s.pace.limit = 0 ∧ s.pace.timer = none ∧ s.pace.blink = none ∧ selectedLamp s = .wait ∧
  s.line.queue = [] ∧ s.line.passage = none ∧ s.line.assembler = .joining ∧ s.line.assembled = [] ∧
  s.line.faulted = false ∧
  s.station.mode = .loading ∧ s.station.holds = ⟨false, false, false, false⟩ ∧ s.station.cause = .none ∧
  (∀ f, s.report.flags.get f = false) ∧ (∀ c, s.report.counters.get c = 0) ∧
  s.report.statCount = 0 ∧ s.report.group = 0 ∧ (∀ n, alertOutput s n = false) ∧
  s.loader = { conf := none, locked := false, phase := .recovering 0, port := [] }

/-! ## The configuration loader -/

/-- POWER_ON_RESET puts every block into its reset state, whatever it was (R168), and starts Loading from
line recovery; H and I are 0 there, which is the model's (log entry 3), and the waiting commands and the eye
levels are outside the part and stay (log entries 1, 9). The port keeps what the last recovery or transfer put
on it (log entry 39).
LINE_RECOVERY begins the transfer at the first sample that reads high: at once, or at one of at most nine
pulses, after which a stop condition ends it with the clock line high (R169). REFUSAL of attempts 1 to 3 begins
a new attempt from line recovery, after a stop condition (R171). The transfer on the memory port is that of
R170: a start, the address byte for writing, 1010111 and 0, the word address 0, a second start, the address
byte for reading, 63 bytes acknowledged and the 64th refused, and a stop. Outside Loading neither has an
effect (log entry 11). -/
def Obligations.LoadingStartsRecoversAndRetries : Prop :=
  (∀ s : State, exec .powerOnReset s = .next
    { State.reset with
      lane := { State.reset.lane with
        measureEye := s.lane.measureEye
        transferEye := s.lane.transferEye
        stageEye := s.lane.stageEye
        exitEye := s.lane.exitEye }
      pending := s.pending }) ∧
  (∀ (s : State) (n : Nat) (rest : List RecoverySample),
    s.station.mode = .loading → s.loader.phase = .recovering n →
    exec (.lineRecovery (.dataHigh :: rest)) s = .next
      { s with loader := { s.loader with phase := .transferring n, port := [] } } ∧
    ∀ k, 1 ≤ k → k ≤ 9 → rest.head? ≠ some .clockLow →
      exec (.lineRecovery (List.replicate k .dataLow ++ .dataHigh :: rest)) s = .next
        { s with loader := { s.loader with
          phase := .transferring n
          port := List.replicate k .pulse ++ [.stopCondition] } }) ∧
  (∀ (s : State) (n : Nat) (cause : RefusalCause),
    s.station.mode = .loading → s.loader.phase = .transferring n → n < 3 →
    exec (.refusal cause) s = .next
      { s with loader := { s.loader with
        phase := .recovering (n + 1)
        port := (match cause with
          | .addressForWriting => transferActs.take 2
          | .wordAddress => transferActs.take 3
          | .addressForReading => transferActs.take 5
          | .clockHeldLow passed => transferActs.take passed) ++ [.stopCondition] } }) ∧
  transferActs = [.startCondition, .send 0b10101110, .send 0, .startCondition, .send 0b10101111] ++
    List.replicate 63 (.take true) ++ [.take false, .stopCondition] ∧
  (∀ (s : State) (samples : List RecoverySample) (cause : RefusalCause), s.station.mode ≠ .loading →
    exec (.lineRecovery samples) s = .next s ∧ exec (.refusal cause) s = .next s)

/-- The load fails, and leaves the state of `State.withFailedLoad`, when the data line is low after the ninth
pulse or the clock line is held low in recovery, at its stop condition too (R169), at the fourth refusal (R171),
and at a raw block with a fatal fault (R172). Alert output 0 is then asserted and FAULT selected. -/
def Obligations.LoadFails : Prop :=
  (∀ (s : State) (n : Nat) (rest : List RecoverySample),
    s.station.mode = .loading → s.loader.phase = .recovering n →
    exec (.lineRecovery (List.replicate 10 .dataLow ++ rest)) s =
      .next (s.withFailedLoad (List.replicate 9 .pulse)) ∧
    (∀ k, k ≤ 9 → exec (.lineRecovery (List.replicate k .dataLow ++ .clockLow :: rest)) s =
      .next (s.withFailedLoad (List.replicate k .pulse))) ∧
    (∀ k, 1 ≤ k → k ≤ 9 →
      exec (.lineRecovery (List.replicate k .dataLow ++ .dataHigh :: .clockLow :: rest)) s =
        .next (s.withFailedLoad (List.replicate k .pulse ++ [.stopCondition])))) ∧
  (∀ (s : State) (cause : RefusalCause),
    s.station.mode = .loading → s.loader.phase = .transferring 3 →
    exec (.refusal cause) s = .next (s.withFailedLoad (refusalActs cause))) ∧
  (∀ (s : State) (n : Nat) (block : Vector Byte 64) (eyes : LaneEyes),
    s.station.mode = .loading → s.loader.phase = .transferring n →
    ((blockCheck (block.toList.take 62)).toNat ≠ wordAt block 62 ∨ byteAt block 0 ≠ 1 ∨
      14 < byteAt block 1 ∨ wordAt block 5 < 64 ∨ 4095 < wordAt block 5 ∨ wordAt block 7 < 400 ∨
      1600 < wordAt block 7) →
    exec (.transfer block eyes) s = .next (s.withFailedLoad transferActs)) ∧
  (∀ (s : State) (port : List PortAct), alertOutput (s.withFailedLoad port) 0 = true ∧
    selectedLamp (s.withFailedLoad port) = .fault)

/-- A good block loads: the configuration is read and locked (R173 to R175), I is I_max (R146), H is
computed with k = 0 (R126), the alert mapping is in place (R174), CONFIG CLAMPED is set where a field was
clamped (R173), and the station is in Idle, or in Faulted with LANE NOT CLEAR where a lane eye is blocked,
with TRACKING in the hold set and HORIZON where H exceeds W − 1 (R127, R155), and offers a STAT (R179).
Nothing else changes but the eye levels read. -/
def Obligations.GoodBlockEndsLoading : Prop :=
  ∀ (s : State) (n : Nat) (block : Vector Byte 64) (eyes : LaneEyes),
    s.station.mode = .loading → s.loader.phase = .transferring n → blockFault block = none →
    s.station.cause = .none → s.station.holds = ⟨false, false, false, false⟩ → s.line.queue = [] →
    let c := (readSettings block).1
    let h := c.path / c.pitch + 1 + c.margin
    exec (.transfer block eyes) s = .next
      { s with
        lane := { s.lane with
          measureEye := eyes.measure
          transferEye := eyes.transfer
          stageEye := eyes.stage
          exitEye := eyes.exit
          transferStray := false }
        launch := { s.launch with horizon := h }
        pace := { s.pace with interval := c.intervalMax }
        line := { s.line with queue := [.fresh .stat] }
        station := { s.station with
            mode := if laneClear eyes then .idle else .faulted
            holds := ⟨false, true, false, decide (c.window - 1 < h)⟩
            cause := if laneClear eyes then .none else .laneNotClear }
        report := { s.report with
          alerts := c.alerts
          flags := { s.report.flags with
            configClamped := s.report.flags.configClamped || (readSettings block).2 } }
        loader := { conf := some c, locked := true, phase := .released, port := transferActs } }

/-- A good block is read field by field (R173), each field from its bytes of R186, the most significant byte
first. 0 takes the default of a field that has one, a value below its range takes the lower bound and one above
it the upper bound, a code that names no value takes the default, and every other value stands as it is; d_path
is then raised to the pitch. Every configuration so read lies in the ranges of R173. A field counts as clamped
exactly where its value lies outside its range, an alert code that names no output among them, and d_path where
it is raised, too (log entry 14, the model's reading). -/
def Obligations.LoadedSettingsLieInRange : Prop :=
  ∀ block : Vector Byte 64, blockFault block = none →
    let c := (readSettings block).1
    let byte (a : Nat) : Nat := (block.toList.getD a 0).toNat
    let word (a : Nat) : Nat := 256 * byte a + byte (a + 1)
    let clamp (lo hi v : Nat) : Nat := min hi (max lo v)
    let field (lo hi dflt v : Nat) : Nat := if v = 0 then dflt else clamp lo hi v
    let nibble (i : Nat) : Nat := if i % 2 = 0 then byte (49 + i / 2) / 16 else byte (49 + i / 2) % 16
    let outside (lo hi v : Nat) : Prop := v < lo ∨ hi < v
    SettingsInRange c ∧
    c.ordinal = byte 1 ∧ c.laneClass = (if byte 2 % 2 = 1 then .express else .standard) ∧
    c.offset = min (word 3) (word 5 - 1) ∧ c.trays = word 5 ∧ c.pitch = word 7 ∧
    c.window = field 9 63 16 (byte 9) ∧ c.margin = field 1 4 2 (byte 10) ∧
    c.path = max (word 7) (clamp 500 6000 (word 11)) ∧ c.accel = clamp 1000 20000 (word 13) ∧
    c.conveying = clamp 300 1500 (word 15) ∧ c.noiseFloor = field 10 100 30 (byte 17) ∧
    c.minLength = field 20 800 80 (word 18) ∧ c.stallTime = field 1 30 6 (byte 20) ∧
    c.scanWindow = field 50 2000 400 (word 21) ∧
    c.noRead = (if byte 23 = 2 then .induct else .reject) ∧
    c.floorShare = field 1 16 4 (byte 24) ∧ c.starveThreshold = field 1 255 8 (byte 25) ∧
    c.intervalMin = field 500 10000 1200 (word 26) ∧ c.intervalMax = field 2000 30000 10000 (word 28) ∧
    c.bitRate = (if byte 30 = 1 then .kbit62 else if byte 30 = 3 then .kbit250 else .kbit125) ∧
    c.scanBaud = (if byte 31 = 1 then .baud19200 else if byte 31 = 3 then .baud115200 else .baud38400) ∧
    c.filters = [0, 1, 2, 3].map (fun n => {
      enabled := byte 32 / 2 ^ n % 2 == 1
      base := BitVec.ofNat 16 (word (33 + 4 * n))
      mask := BitVec.ofNat 16 (word (35 + 4 * n)) }) ∧
    c.alerts = (List.range 14).map (fun i =>
      if nibble i = 1 then some 0 else if nibble i = 2 then some 1 else if nibble i = 3 then some 2
      else if nibble i = 4 then some 3 else none) ∧
    ((readSettings block).2 = true ↔
      word 5 ≤ word 3 ∨ (byte 9 ≠ 0 ∧ outside 9 63 (byte 9)) ∨ 4 < byte 10 ∨
      outside 500 6000 (word 11) ∨ word 11 < word 7 ∨ outside 1000 20000 (word 13) ∨
      outside 300 1500 (word 15) ∨ (byte 17 ≠ 0 ∧ outside 10 100 (byte 17)) ∨
      (word 18 ≠ 0 ∧ outside 20 800 (word 18)) ∨ 30 < byte 20 ∨
      (word 21 ≠ 0 ∧ outside 50 2000 (word 21)) ∨ 2 < byte 23 ∨ 16 < byte 24 ∨
      (word 26 ≠ 0 ∧ outside 500 10000 (word 26)) ∨ (word 28 ≠ 0 ∧ outside 2000 30000 (word 28)) ∨
      3 < byte 30 ∨ 3 < byte 31 ∨ ∃ i, i < 14 ∧ 4 < nibble i)

/-- The check value of R172, which inverts the first 16 bits and divides, is the CRC-16 of a 16-bit register
that starts at FFFF hex and takes the bits one at a time. -/
def Obligations.BlockCheckIsTheRegisterForm : Prop :=
  ∀ bytes : List Byte, 2 ≤ bytes.length →
    blockCheck bytes =
      (bytes.flatMap (fun b => natBits 8 b.toNat)).foldl
        (fun (r : BitVec 16) b => if r.msb != b then (r <<< 1) ^^^ 0x1021 else r <<< 1) 0xFFFF

/-! ## The lane -/

/-- A front edge at the place eye raises the place count by 1 up to 15 (R11) and restarts the pace timer with
I × 10 ticks (R147); one at the measure eye, with fewer than 4 records queued, makes a Measuring record at the
upstream end of the queue in the measure zone and lowers a place count above 0, which the record notes (R8),
and restarts the place zone's stall timer (R19). What follows at once from the lane's conditions is
`settleLane` (R5, R19); nothing else changes. In Unconfigured, Loading and Faulted neither edge is taken (R1). -/
def Obligations.ParcelsEnterTheLane : Prop :=
  (∀ s : State, takesLaneEvents s = true →
    exec .placeEyeFrontEdge s = .next (settleLane
      { s with
        lane := { s.lane with placeCount := min (s.lane.placeCount + 1) 15 }
        pace := { s.pace with timer := some (s.pace.interval * 10) } })) ∧
  (∀ s : State, takesLaneEvents s = true → s.lane.measureEye = false → s.lane.queue.length < 4 →
    exec .measureEyeFrontEdge s = .next (settleLane
      { s with lane := { s.lane with
          measureEye := true
          queue := s.lane.queue ++
            [{ seq := none, length := none, span := none, phase := .measuring, zone := .measure,
               placement := none, blockedTicks := some 0, scanTimer := none,
               loweredCount := decide (0 < s.lane.placeCount), atTransfer := false, atStage := false }]
          placeCount := s.lane.placeCount - 1
          stall := { s.lane.stall with place := none } } })) ∧
  (∀ s : State, takesLaneEvents s = false →
    exec .placeEyeFrontEdge s = .next s ∧
    exec .measureEyeFrontEdge s = .next { s with lane := { s.lane with measureEye := true } })

/-- At the clearing of the measure eye the length is the blocked-time count times v_conv over 10000, half up,
at most 4095 (R9). Below the noise floor the record goes and the place count it lowered comes back, and a parcel
whose front edge at the blocked transfer eye has been taken stands there with no record (R1); else it is Measured
with that length and the next sequence number (R9, R10). It takes a slot record no older than the scan
window, and is Bound or Rejected by it, a no-read record counting as destination 0 (R26, R30); or it starts its
own timer, after an older one is discarded as an orphan (R27). -/
def Obligations.ParcelsAreMeasured : Prop :=
  ∀ (s : State) (before : List Parcel) (r : Parcel) (ticks : Ticks),
    takesLaneEvents s = true → s.lane.measureEye = true → s.lane.queue = before ++ [r] →
    (∀ q ∈ before, q.phase ≠ .measuring ∧ (q.phase = .measured → q.seq ≠ some s.lane.nextSeq)) →
    r.phase = .measuring → r.blockedTicks = some ticks →
    let length := min ((2 * (ticks * s.cfg.conveying) + 10000) / 20000) 4095
    let measured : Parcel :=
      { r with
        phase := .measured
        seq := some s.lane.nextSeq
        length := some length
        blockedTicks := none
        scanTimer := some 0 }
    let lane : Lane := { s.lane with measureEye := false, nextSeq := s.lane.nextSeq + 1 }
    (length < s.cfg.noiseFloor →
      exec .measureEyeClearing s = .next (settleLane
        { s with
          lane := { s.lane with
            measureEye := false
            queue := before
            transferStray := s.lane.transferStray || (s.lane.transferEye && r.atTransfer)
            placeCount :=
              if r.loweredCount then min (s.lane.placeCount + 1) 15 else s.lane.placeCount }
          report := { s.report with counters := s.report.counters.raise .noiseBlocks } })) ∧
    (s.cfg.noiseFloor ≤ length → s.scan.slot = none →
      exec .measureEyeClearing s = .next (settleLane
        { s with lane := { lane with queue := before ++ [measured] } })) ∧
    (∀ slot, s.cfg.noiseFloor ≤ length → s.scan.slot = some slot → s.cfg.scanWindow * 10 < slot.age →
      exec .measureEyeClearing s = .next (settleLane
        { s with
          lane := { lane with queue := before ++ [measured] }
          scan := { s.scan with slot := none }
          report := { s.report with counters := s.report.counters.raise .orphanScans } })) ∧
    (∀ slot, s.cfg.noiseFloor ≤ length → s.scan.slot = some slot → slot.age ≤ s.cfg.scanWindow * 10 →
      let destination := if slot.record.quality = 0 then 0 else slot.record.destination
      exec .measureEyeClearing s = .next (settleLane
        { s with
          lane := { lane with queue := before ++
            [match decideParcel s.cfg destination length with
              | some span => { measured with phase := .bound, span := some span, scanTimer := none }
              | none => { measured with phase := .rejected, scanTimer := none }] }
          scan := { s.scan with slot := none }
          report :=
            if destination = 0 then { s.report with counters := s.report.counters.raise .noReads }
            else s.report }))

/-- A front edge at the transfer eye is taken for the front record of the measure zone that has not had one
(R16): the measure zone's stall timer starts again for the next record or stops (R19), and the stage zone then
accepts the parcel where the conditions of R5 hold, as `settleLane` does. A clearing there after acceptance, with
neither a waiting record nor a parcel that has lost its record, changes the eye's level, and, from a state in
which the belts fit together, nothing else: it ends nothing and starts nothing (R16). Where lane events are not
taken, either changes the level alone (R1, log entry 9), and with a clearing no parcel stands there any more that
has lost its record; such a parcel stands at a blocked eye alone, in a lane within its bounds. -/
def Obligations.ParcelsPassTheTransferEye : Prop :=
  (∀ (s : State) (before after : List Parcel) (r : Parcel),
    takesLaneEvents s = true → s.lane.transferEye = false → s.lane.queue = before ++ r :: after →
    (∀ q ∈ before, q.zone = .measure → q.atTransfer = true) → r.zone = .measure → r.atTransfer = false →
    exec .transferEyeFrontEdge s = .next (settleLane
      { s with lane := { s.lane with
        transferEye := true
        queue := before ++ { r with atTransfer := true } :: after
        stall := { s.lane.stall with measure := none } } })) ∧
  (∀ s : State, takesLaneEvents s = true → s.lane.transferEye = true → waitsAtTransfer s = false →
    s.lane.transferStray = false →
    let cleared : State := { s with lane := { s.lane with transferEye := false } }
    exec .transferEyeClearing s = .next (settleLane cleared) ∧
    (BeltsSound s → exec .transferEyeClearing s = .next cleared)) ∧
  (∀ s : State, takesLaneEvents s = false →
    exec .transferEyeFrontEdge s = .next { s with lane := { s.lane with transferEye := true } } ∧
    (LaneBounds s.lane → exec .transferEyeClearing s =
      .next { s with lane := { s.lane with transferEye := false, transferStray := false } }))

/-- At the stage eye a Bound record becomes Staged and a Rejected one rests with the REMOVE flag set (R17,
R34). A clearing there during a launch gives the stage belt back and ends the launching parcel's stay in the
stage zone (R2, R17, R137); under a resting Rejected record it is removal, which deletes the record, raises
the rejects counter and clears the REMOVE flag (R34, R177). -/
def Obligations.ParcelsAtTheStageEye : Prop :=
  (∀ (s : State) (before after : List Parcel) (r : Parcel),
    takesLaneEvents s = true → s.lane.stageEye = false → s.lane.queue = before ++ r :: after →
    (∀ q ∈ before, q.zone ≠ .stage) → r.zone = .stage → r.atStage = false → rejectedAtStage s = false →
    ∃ t, exec .stageEyeFrontEdge s = .next t ∧
      t = { s with
        lane := { s.lane with
          stageEye := true
          queue := before ++
            { r with atStage := true, phase := if r.phase = .bound then .staged else r.phase } :: after
          stall := t.lane.stall }
        report := { s.report with flags := { s.report.flags with
          remove := s.report.flags.remove || r.phase == .rejected } } }) ∧
  (∀ s : State, takesLaneEvents s = true → s.lane.stageEye = true → s.lane.stageHolder = .launchUnit →
    exec .stageEyeClearing s = .next (settleLane
      { s with lane := { s.lane with
        stageEye := false
        stageHolder := .sequencer
        queue := s.lane.queue.map (fun r => if r.phase = .launching then { r with zone := .launch } else r) } })) ∧
  (∀ (s : State) (before after : List Parcel) (r : Parcel),
    takesLaneEvents s = true → s.lane.stageEye = true → s.lane.stageHolder = .sequencer →
    s.lane.queue = before ++ r :: after → (∀ q ∈ before, q.zone ≠ .stage) →
    r.zone = .stage → r.atStage = true → r.phase = .rejected →
    exec .stageEyeClearing s = .next (settleLane
      { s with
        lane := { s.lane with stageEye := false, queue := before ++ after }
        report := { s.report with
          counters := s.report.counters.raise .rejects
          flags := { s.report.flags with remove := false } } }))

/-- A front edge at the exit eye with a launch in progress changes nothing but the eye's level (R137). A
clearing there takes the exit check, once for a launch: from the opening to the closing, both included, it
passes, and outside them it raises the launch timing warnings counter and LAUNCH TIMING (R140); it gives both
belts back (R2, R137); and with no verdict decided the launch in flight waits on. EXIT_WINDOW_CLOSING, which
comes when the tick of the closing is over (log entry 4), judges a launch in progress with no check taken late in
the same way. Up to the closing, after a check, and with no launch in progress it has no effect, and a clearing
with no launch in progress, or where lane events are not taken, changes the level alone (R1, log entries 9,
11). -/
def Obligations.ParcelsPassTheExitEye : Prop :=
  (∀ s : State, takesLaneEvents s = true → s.lane.exitEye = false → s.lane.launchHolder = .launchUnit →
    exec .exitEyeFrontEdge s = .next { s with lane := { s.lane with exitEye := true } }) ∧
  (∀ (s : State) (f : Flight), takesLaneEvents s = true → s.lane.exitEye = true →
    s.lane.launchHolder = .launchUnit → s.launch.flight = some f → verdictOf f = .undecided →
    let inside :=
      (∃ m, f.timing.edges[f.opening.event - 1]? = some m ∧ f.opening.ticks ≤ f.timing.clock - m) ∧
      (∀ m, f.timing.edges[f.closing.event - 1]? = some m → f.timing.clock - m ≤ f.closing.ticks)
    let cleared (report : Report) : State :=
      { s with
        lane := { s.lane with
          exitEye := false
          stageHolder := .sequencer
          launchHolder := .sequencer
          queue := s.lane.queue.map
            (fun r => if r.phase = .launching then { r with zone := .launch } else r) }
        launch := { s.launch with flight := some { f with checked := true } }
        report := report }
    (f.checked = true ∨ inside → exec .exitEyeClearing s = .next (settleLane (cleared s.report))) ∧
    (f.checked = false → ¬ inside → exec .exitEyeClearing s = .next (settleLane (cleared
      { s.report with
        counters := s.report.counters.raise .launchWarnings
        flags := { s.report.flags with launchTiming := true } })))) ∧
  (∀ (s : State) (f : Flight) (m : Ticks), s.lane.launchHolder = .launchUnit → s.launch.flight = some f →
    f.checked = false → f.timing.edges[f.closing.event - 1]? = some m →
    m + f.closing.ticks < f.timing.clock →
    exec .exitWindowClosing s = .next
      { s with
        launch := { s.launch with flight := some { f with checked := true } }
        report := { s.report with
          counters := s.report.counters.raise .launchWarnings
          flags := { s.report.flags with launchTiming := true } } }) ∧
  (∀ s : State, (s.lane.launchHolder = .sequencer ∨ s.launch.flight = none ∨
      ∃ f, s.launch.flight = some f ∧ (f.checked = true ∨
        ∀ m, f.timing.edges[f.closing.event - 1]? = some m → f.timing.clock ≤ m + f.closing.ticks)) →
    exec .exitWindowClosing s = .next s) ∧
  (∀ s : State, takesLaneEvents s = false →
    exec .exitEyeFrontEdge s = .next { s with lane := { s.lane with exitEye := true } }) ∧
  (∀ s : State, takesLaneEvents s = false ∨ s.lane.launchHolder = .sequencer →
    exec .exitEyeClearing s = .next { s with lane := { s.lane with exitEye := false } })

/-- Each stray eye event of R18, an overfill (R8) and a stall timer that runs out (R20) set the JAM flag and
take the station into Faulted with cause JAM, naming the zone; what else the entry does is R162's. A clearing of
the transfer eye by a parcel whose record was deleted as noise finds no record, so it is stray (R1), and comes
before acceptance (R16). -/
def Obligations.StrayEventsAndStallsJam : Prop :=
  ∀ s : State, takesLaneEvents s = true →
    let jammed (lane : Lane) : State :=
      { s with lane := lane, report := { s.report with flags := { s.report.flags with jam := true } } }
    (s.lane.transferEye = false → (∀ r ∈ s.lane.queue, r.zone = .measure → r.atTransfer = true) →
      exec .transferEyeFrontEdge s =
        .next (enterFaulted (.jam .measure) (jammed { s.lane with transferEye := true }))) ∧
    (s.lane.transferEye = true →
      (s.lane.transferStray = true ∨
        ∃ r, s.lane.queue.find? (fun q => q.zone == .measure) = some r ∧ r.atTransfer = true) →
      exec .transferEyeClearing s =
        .next (enterFaulted (.jam .stage)
          (jammed { s.lane with transferEye := false, transferStray := false }))) ∧
    (s.lane.stageEye = false → (∀ r ∈ s.lane.queue, r.zone = .stage → r.atStage = true) →
      exec .stageEyeFrontEdge s =
        .next (enterFaulted (.jam .stage) (jammed { s.lane with stageEye := true }))) ∧
    (s.lane.stageEye = true → s.lane.stageHolder = .sequencer →
      (∃ r ∈ s.lane.queue, r.phase = .staged ∨ r.phase = .committed ∨ r.phase = .announced) →
      (∀ r ∈ s.lane.queue, r.phase = .rejected → r.zone ≠ .stage) →
      exec .stageEyeClearing s =
        .next (enterFaulted (.jam .stage) (jammed { s.lane with stageEye := false }))) ∧
    (s.lane.exitEye = false → s.lane.launchHolder = .sequencer →
      exec .exitEyeFrontEdge s =
        .next (enterFaulted (.jam .launch) (jammed { s.lane with exitEye := true }))) ∧
    (s.lane.measureEye = false → 4 ≤ s.lane.queue.length →
      exec .measureEyeFrontEdge s =
        .next (enterFaulted (.jam .measure) (jammed { s.lane with measureEye := true }))) ∧
    (∀ z, s.lane.stall.get z = some 0 →
      exec (.stallTimerRunsOut z) s = .next (enterFaulted (.jam z) (jammed s.lane)))

/-- What follows at once from the lane's conditions. The stage zone accepts the front record of the measure
zone exactly when the conditions of R5 hold, and then that record alone changes, in its zone alone. Each stall
timer then runs exactly while the start condition that the table of R19 gives its zone holds; one that was
running keeps its time, and one that starts takes the full stall time. The belts: in Running and Holding the
measure belt is commanded v_conv but with its eye clear and a parcel waiting at the transfer eye that is not
accepted (R4; one whose record was deleted as noise among them, log entry 35), the place belt under a blocked measure eye or with a drawing measure belt and fewer than 4 records
(R3), and a stage belt that the sequencer holds but with a record rested at the stage eye (R6); a launch belt it
holds is at 0 (R6), as are the others elsewhere (R7); and belts that the launch unit holds follow the ramp
a × τ / 10000 up to v (R136). -/
def Obligations.TheLaneSettles : Prop :=
  (∀ (s : State) (before after : List Parcel) (r : Parcel),
    s.lane.queue = before ++ r :: after → (∀ q ∈ before, q.zone ≠ .measure) → r.zone = .measure →
    let met := (s.station.mode = .running ∨ s.station.mode = .holding) ∧ s.lane.transferEye = true ∧
      r.atTransfer = true ∧ (r.phase = .bound ∨ r.phase = .rejected) ∧
      (∀ q ∈ s.lane.queue, q.zone ≠ .stage) ∧ s.lane.stageHolder = .sequencer
    (met ↔ accepts s = true) ∧
    (met → (settleLane s).lane.queue = before ++ { r with zone := .stage } :: after) ∧
    (¬ met → (settleLane s).lane.queue = s.lane.queue)) ∧
  (∀ s : State, (∀ q ∈ s.lane.queue, q.zone ≠ .measure) →
    accepts s = false ∧ (settleLane s).lane.queue = s.lane.queue) ∧
  (∀ s : State, accepts (settleLane s) = false ∧ settleLane s = { s with lane := { s.lane with
    queue := (settleLane s).lane.queue, stall := (settleLane s).lane.stall } }) ∧
  (∀ s : State,
    let t := settleLane s
    let full := s.cfg.stallTime * 10000
    let follows (timer old : Option Ticks) (condition : Prop) : Prop :=
      (condition → timer = some (old.getD full)) ∧ (¬ condition → timer = none)
    follows t.lane.stall.place s.lane.stall.place (0 < t.lane.placeCount ∧ placeDraws t = true) ∧
    follows t.lane.stall.measure s.lane.stall.measure
      ((∃ r ∈ t.lane.queue, r.zone = .measure ∧ r.atTransfer = false) ∧ measureDraws t = true) ∧
    follows t.lane.stall.stage s.lane.stall.stage
      ((∃ r ∈ t.lane.queue, r.zone = .stage ∧ r.atStage = false) ∧ stageDraws t = true) ∧
    follows t.lane.stall.launch s.lane.stall.launch (t.lane.launchHolder = .launchUnit)) ∧
  (∀ s : State,
    let draws := s.station.mode = .running ∨ s.station.mode = .holding
    let waits := s.lane.transferEye = true ∧
      ∃ r, s.lane.queue.find? (fun q => q.zone == .measure) = some r ∧ r.atTransfer = true
    let stray := s.lane.transferEye = true ∧ s.lane.transferStray = true
    (measureDraws s = true ↔
      draws ∧ ¬ (s.lane.measureEye = false ∧ (stray ∨ waits ∧ accepts s = false))) ∧
    (placeDraws s = true ↔ draws ∧ (s.lane.measureEye = true ∨
      (measureDraws s = true ∧ s.lane.queue.length < 4))) ∧
    (stageDraws s = true ↔ draws ∧ s.lane.stageHolder = .sequencer ∧
      ¬ ∃ r ∈ s.lane.queue, r.zone = .stage ∧ r.atStage = true)) ∧
  (∀ s : State,
    placeBelt s = (if placeDraws s = true then s.cfg.conveying else 0) ∧
    measureBelt s = (if measureDraws s = true then s.cfg.conveying else 0) ∧
    (s.lane.stageHolder = .sequencer → stageBelt s = if stageDraws s = true then s.cfg.conveying else 0) ∧
    (s.lane.launchHolder = .sequencer → launchBelt s = 0) ∧
    (∀ f, s.launch.flight = some f →
      let ramp := min f.speed (s.cfg.accel * (f.timing.clock - f.startedAt) / 10000)
      (s.lane.stageHolder = .launchUnit → stageBelt s = ramp) ∧
      (s.lane.launchHolder = .launchUnit → launchBelt s = ramp)))

/-- Entry into Faulted (R162): all belts stop and the lane sequencer holds them, every stall timer stops, no
commitment and no launch in flight is left; a Committed record's CLAIM is asked away, an Announced record's
trays are vacated, and the record is Staged again with its committed fields removed (R133); a Launching record
is Conflict; and the counters, the scan binder, the window, the tracker and the configuration stay. -/
def Obligations.EntryIntoFaulted : Prop :=
  ∀ (s : State) (cause : FaultCause),
    let t := enterFaulted cause s
    t.station = { s.station with mode := .faulted, cause := cause } ∧
    t.lane.stageHolder = .sequencer ∧ t.lane.launchHolder = .sequencer ∧
    placeBelt t = 0 ∧ measureBelt t = 0 ∧ stageBelt t = 0 ∧ launchBelt t = 0 ∧
    (∀ z, t.lane.stall.get z = none) ∧
    t.launch = { commitment := none, flight := none, horizon := s.launch.horizon } ∧
    t.lane.placeCount = s.lane.placeCount ∧ t.lane.nextSeq = s.lane.nextSeq ∧
    t.lane.queue.map (fun r => (r.seq, r.length, r.span, r.zone)) =
      s.lane.queue.map (fun r => (r.seq, r.length, r.span, r.zone)) ∧
    t.scan = s.scan ∧ t.tracker = s.tracker ∧ t.window = s.window ∧ t.pace = s.pace ∧
    t.report = s.report ∧ t.loader = s.loader ∧ t.pending = s.pending ∧
    t.share = { s.share with held := t.share.held } ∧
    (s.launch.commitment = none → s.launch.flight = none →
      t.lane.queue = s.lane.queue ∧ t.share = s.share ∧ t.line = (request .stat s).line) ∧
    (∀ (k : Commitment) (before after : List Parcel) (r : Parcel),
      s.launch.commitment = some k → s.launch.flight = none →
      FirstRecord s Phase.isClaim k.seq before r after →
      t.lane.queue = before ++ { r with phase := .staged, placement := none } :: after ∧
      (r.phase = .committed → ∀ f ∈ t.line.queue, f.body.isClaim = true →
        f.inPassage = true ∧ f.removalAsked = true) ∧
      (r.phase = .announced → s.line.queue.countP (·.body.isHoldOrVacate) < 5 →
        .fresh (.vacate k.tray k.span 8) ∈ t.line.queue)) ∧
    (∀ (f : Flight) (before after : List Parcel) (r : Parcel),
      s.launch.commitment = none → s.launch.flight = some f →
      FirstRecord s Phase.isLaunching f.seq before r after →
      t.lane.queue = before ++ { r with phase := .conflict } :: after)

/-! ## Scan records -/

/-- Characters that spell a record of R185, with leading zeros or without, are read as the three values they
write, within the ranges of R23; the port is ready for the next record, and the binder takes the values
(R22 to R24). Any other characters between a start and an end character, or these with a framing error, are a
malformed record, and a record that reaches 13 characters without its end, or in which a second start character
comes, is a partial one: each raises the bad scans counter and reaches no binder (R22, R23, R185). With no
record open, a character that is no start character is ignored, and where the port takes nothing, every one. A
start character with a framing error opens a record that is then bad (log entry 20, the model's reading). -/
def Obligations.ScanRecordsAreReadAsWritten : Prop :=
  let written (seq destination : List (Fin 10)) : Prop :=
    1 ≤ seq.length ∧ seq.length ≤ 3 ∧ digitsValue seq ≤ 255 ∧
    1 ≤ destination.length ∧ destination.length ≤ 5 ∧ digitsValue destination ≤ 65535
  let bad (s : State) (openRecord : Option (List ScanChar)) : State := settleLane
    { s with
      scan := { s.scan with openRecord := openRecord }
      report := { s.report with counters := s.report.counters.raise .badScans } }
  (∀ (s : State) (seq destination : List (Fin 10)) (quality : Fin 10),
    active s = true → s.scan.openRecord = none → written seq destination →
    exec (.scanRecord (scanText seq destination quality)) s =
      .next (settleLane (takeScan ⟨digitsValue seq, digitsValue destination, quality.val⟩ s))) ∧
  (∀ (s : State) (body : List ScanChar) (first last : Bool),
    active s = true → s.scan.openRecord = none → (∀ c ∈ body, c.code ≠ 0x02 ∧ c.code ≠ 0x03) →
    let chars : List ScanChar := ⟨0x02, first⟩ :: (body ++ [⟨0x03, last⟩])
    (body.length ≤ 11 →
      (∀ seq destination quality, written seq destination → chars ≠ scanText seq destination quality) →
      exec (.scanRecord chars) s = .next (bad s none)) ∧
    (12 ≤ body.length → exec (.scanRecord chars) s = .next (bad s none))) ∧
  (∀ (s : State) (chars : List ScanChar) (c : ScanChar),
    active s = true → s.scan.openRecord = some chars →
    (c.code = 0x02 → exec (.scanRecord [c]) s = .next (bad s (some [c]))) ∧
    (c.code ≠ 0x02 → c.code ≠ 0x03 → chars.length < 12 →
      exec (.scanRecord [c]) s =
        .next (settleLane { s with scan := { s.scan with openRecord := some (chars ++ [c]) } }))) ∧
  (∀ (s : State) (c : ScanChar), active s = true → s.scan.openRecord = none →
    (c.code = 0x02 → exec (.scanRecord [c]) s =
      .next (settleLane { s with scan := { s.scan with openRecord := some [c] } })) ∧
    (c.code ≠ 0x02 → exec (.scanRecord [c]) s = .next (settleLane s))) ∧
  (∀ (s : State) (chars : List ScanChar), active s = false → exec (.scanRecord chars) s = .next s)

/-- What the binder does with a well-formed record (R24, R26): in Faulted it is an orphan; a repeat is a bad
scan; with no Measured record it takes the slot, and where it overwrites one the scan overruns counter rises
and SCAN OVERRUN is set; and otherwise the oldest Measured record leaves Measured with the record's
destination, as it does with destination 0 when its scan window runs out (R28, R30). A parcel that takes
destination 0 raises the no-reads counter. -/
def Obligations.ScanRecordsBind : Prop :=
  (∀ (d : ScanData) (s : State), s.station.mode = .faulted →
    takeScan d s =
      { s with report := { s.report with counters := s.report.counters.raise .orphanScans } }) ∧
  (∀ (d : ScanData) (s : State), s.station.mode ≠ .faulted → s.scan.lastSequence = some d.seq →
    takeScan d s = { s with report := { s.report with counters := s.report.counters.raise .badScans } }) ∧
  (∀ (d : ScanData) (s : State), s.station.mode ≠ .faulted → s.scan.lastSequence ≠ some d.seq →
    (∀ r ∈ s.lane.queue, r.phase ≠ .measured) →
    takeScan d s =
      { s with
        scan := { s.scan with lastSequence := some d.seq, slot := some { record := d, age := 0 } }
        report :=
          if s.scan.slot.isSome then
            { s.report with
              counters := s.report.counters.raise .scanOverruns
              flags := { s.report.flags with scanOverrun := true } }
          else s.report }) ∧
  (∀ (s : State) (before after : List Parcel) (r : Parcel) (n : SeqNo) (length : Nat),
    s.lane.queue = before ++ r :: after → r.phase = .measured → r.seq = some n → r.length = some length →
    (∀ q ∈ before, q.phase ≠ .measured) →
    let leaves (destination : Nat) (scan : Scan) : State :=
      { s with
        lane := { s.lane with queue := before ++
          (match decideParcel s.cfg destination length with
            | some span => { r with phase := .bound, span := some span, scanTimer := none }
            | none => { r with phase := .rejected, scanTimer := none }) :: after }
        scan := scan
        report :=
          if destination = 0 then { s.report with counters := s.report.counters.raise .noReads }
          else s.report }
    (∀ d : ScanData, s.station.mode ≠ .faulted → s.scan.lastSequence ≠ some d.seq →
      takeScan d s = leaves (if d.quality = 0 then 0 else d.destination)
        { s.scan with lastSequence := some d.seq }) ∧
    (∀ k, drawing s = true → r.scanTimer = some k → s.cfg.scanWindow * 10 ≤ k →
      exec (.scanWindowRunsOut n) s = .next (settleLane (leaves 0 s.scan))))

/-- The checks of R30 in their order: destination 0 is decided by the no-read action, a destination that
agrees with an enabled filter's base in every bit of its mask is rejected (R31), and what is left falls into
the size classes of R32. Every pitch makes a length of 4095 oversize. -/
def Obligations.ParcelsAreDecided : Prop :=
  (∀ (f : Filter) (destination : Nat), destination ≤ 65535 →
    (f.matches destination = true ↔ f.enabled = true ∧
      ∀ i, i < 16 → f.mask.getLsbD i = true → destination.testBit i = f.base.getLsbD i)) ∧
  (∀ (c : Settings) (length : Nat), c.noRead = .reject → decideParcel c 0 length = none) ∧
  (∀ (c : Settings) (length : Nat), c.noRead = .induct → decideParcel c 0 length = sizeClass c length) ∧
  (∀ (c : Settings) (destination length : Nat) (f : Filter), destination ≠ 0 → f ∈ c.filters →
    f.matches destination = true → decideParcel c destination length = none) ∧
  (∀ (c : Settings) (destination length : Nat), destination ≠ 0 →
    (∀ f ∈ c.filters, f.matches destination = false) →
    decideParcel c destination length = sizeClass c length) ∧
  (∀ (c : Settings) (length : Nat),
    (sizeClass c length = some .one ↔ c.minLength ≤ length ∧ length ≤ c.pitch) ∧
    (sizeClass c length = some .two ↔
      c.minLength ≤ length ∧ c.pitch < length ∧ length ≤ 2 * c.pitch) ∧
    (sizeClass c length = none ↔ length < c.minLength ∨ c.pitch < length ∧ 2 * c.pitch < length)) ∧
  (∀ c : Settings, SettingsInRange c → sizeClass c 4095 = none)

/-! ## Tracking -/

/-- What a tray edge event does to tracking. It starts the interval timer again (R40) and leaves the latch at
the confirm eye's level (R39; an eye that stays blocked sets it again at once: log entry 12, the model's
choice). An implausible interval empties the history and loses the count (R47); any other joins the newest end
of the history of eight (R42). In Unsynced a home edge event with eight intervals held enters Filling at tray 0
(R43). In Filling and Locked the count advances, a correct home to 0 (R44); a home edge event elsewhere sets the
count to 0 and rebuilds Filling (R45); and a whole turn without home loses the count (R46). Filling passes to
Locked at its W-th event (R43). An interval is plausible within pitch × 10 / 3, rounded up, and pitch × 20
ticks, and, with P̄ present, within P̄ / 2 and 2 × P̄, compared exactly (R41); P̄ is the mean of eight
intervals, half up (R42). -/
def Obligations.TrayEdgeEventsTrack : Prop :=
  (∀ (s : State) (home load confirm last : Bool), active s = true →
    ∃ t, exec (.trayEdgeEvent home load confirm last) s = .next t ∧
      t.tracker.timer = some 0 ∧ t.tracker.latch = confirm ∧ t.tracker.latchBegun = true ∧
      (∀ x, s.tracker.timer = some x → plausible s.cfg.pitch (period s) x = false →
        t.tracker.tracking = .unsynced ∧ t.tracker.count = none ∧ t.tracker.history = [] ∧
        t.report.counters.timingFaults = min (s.report.counters.timingFaults + 1) 65535 ∧
        t.report.flags.trayTiming = true) ∧
      (∀ h : List Ticks,
        (s.tracker.timer = none ∧ h = s.tracker.history) ∨
        (∃ x, s.tracker.timer = some x ∧ plausible s.cfg.pitch (period s) x = true ∧
          h = (if s.tracker.history.length < 8 then s.tracker.history else s.tracker.history.drop 1) ++ [x]) →
        t.tracker.history = h ∧
        (s.tracker.tracking = .unsynced → (home = true ∧ h.length = 8) →
          t.tracker.tracking = .filling ∧ t.tracker.count = some 0 ∧ t.tracker.sinceHome = 0) ∧
        (s.tracker.tracking = .unsynced → ¬ (home = true ∧ h.length = 8) →
          t.tracker.tracking = .unsynced ∧ t.tracker.count = s.tracker.count) ∧
        (∀ e, s.tracker.tracking ≠ .unsynced → s.tracker.count = some e →
          (home = true → e + 1 ≠ s.cfg.trays →
            t.tracker.tracking = .filling ∧ t.tracker.count = some 0 ∧ t.tracker.sinceHome = 0 ∧
            t.report.counters.homeMismatches = min (s.report.counters.homeMismatches + 1) 65535) ∧
          (home = false → s.tracker.sinceHome + 1 = s.cfg.trays →
            t.tracker.tracking = .unsynced ∧ t.tracker.count = none ∧
            t.report.counters.homeMismatches = min (s.report.counters.homeMismatches + 1) 65535) ∧
          ((home = true ∧ e + 1 = s.cfg.trays) ∨
              (home = false ∧ s.tracker.sinceHome + 1 ≠ s.cfg.trays) →
            t.tracker.count = some (if home then 0 else (e + 1) % s.cfg.trays) ∧
            t.tracker.sinceHome = (if home then 0 else s.tracker.sinceHome + 1) ∧
            t.tracker.tracking =
              (if s.tracker.tracking = .filling ∧ s.tracker.fillEvents + 1 = s.cfg.window then .locked
              else s.tracker.tracking))))) ∧
  (∀ (pitch x : Nat) (p : Option Ticks), plausible pitch p x = true ↔
    pitch * 10 ≤ 3 * x ∧ x ≤ pitch * 20 ∧ ∀ m, p = some m → m ≤ 2 * x ∧ x ≤ 2 * m) ∧
  (∀ s : State, period s =
    if s.tracker.history.length = 8 then some ((2 * s.tracker.history.sum + 8) / 16) else none)

/-- A tray edge event whole. First the tracker takes it: an implausible interval, a home missing and a home
mismatch are resyncs that bring TRACKING (R45 to R47, R49, R50), the last of them with the window built for
trays 1 to W (R78), as at entry into Filling (R43); otherwise the count advances and the window turns over: the
entry for the new count departs, and the entry for tray e+W is made with the load reading and takes its pending
notices in their order, superseded ones apart (R79, R96), and the W-th event of Filling removes TRACKING (R43,
R49). On the state so turned, in every station state, the share unit acts with its expiries, epoch, passed-over
trays and decision (R107), then the launch unit with the confirm reading and the launch edge (R131, R141), then
the line interface with its deadlines (R72), and the lane settles; that order of the blocks is the model's (log
entry 10), as is the latch under a blocked eye (log entry 12) and the VACATE counts falling first (log entry
28). So an event that only counts, in Idle or Faulted between epoch boundaries with nothing claimed, launched,
held or queued, changes the tracker, the window, the epoch count (R102) and the free-tray count (R106) alone. -/
def Obligations.TrayEdgeEventsTurnOver : Prop :=
  (∀ (s : State) (home load confirm last : Bool), active s = true →
    let reading := if s.tracker.latchBegun then some s.tracker.latch else none
    let outcome (turned : State) : State := settleLane (lineEvent last
      (commitmentEvent turned.tracker.count (flightEvent reading (shareEvent turned))))
    let becomes (turned : State) : Prop :=
      exec (.trayEdgeEvent home load confirm last) s = .next (outcome turned)
    let times (h : List Ticks) : Tracker :=
      { s.tracker with history := h, timer := some 0, latch := confirm, latchBegun := true }
    let lost (x : Tracker) : Tracker :=
      { x with tracking := .unsynced, count := none, sinceHome := 0, fillEvents := 0 }
    let filling (x : Tracker) : Tracker :=
      { x with tracking := .filling, count := some 0, sinceHome := 0, fillEvents := 0 }
    let built : List Entry := (List.range s.cfg.window).map (fun i =>
      { tray := (i + 1) % s.cfg.trays, reading := .unread, governing := none, mark := .none, decided := false })
    let aged (x : Tracker) : State := { s with
      tracker := x
      line := { s.line with queue := s.line.queue.map (fun f => match f.body with
        | .vacate tray span n => { f with body := .vacate tray span (n - 1) }
        | .claim _ _ _ | .hold _ _ | .demand | .stat => f) } }
    let mismatched : Report :=
      { s.report with counters := s.report.counters.raise .homeMismatches }
    (∀ x, s.tracker.timer = some x → plausible s.cfg.pitch (period s) x = false →
      let faulted : State := { aged (lost (times [])) with report := { s.report with
        counters := s.report.counters.raise .timingFaults
        flags := { s.report.flags with trayTiming := true } } }
      (s.tracker.tracking = .unsynced → becomes faulted) ∧
      (s.tracker.tracking ≠ .unsynced → becomes (addHold .tracking (resync faulted)))) ∧
    (∀ h : List Ticks,
      (s.tracker.timer = none ∧ h = s.tracker.history) ∨
      (∃ x, s.tracker.timer = some x ∧ plausible s.cfg.pitch (period s) x = true ∧
        h = (if s.tracker.history.length < 8 then s.tracker.history else s.tracker.history.drop 1) ++ [x]) →
      (s.tracker.tracking = .unsynced → (home = true ∧ h.length = 8) →
        becomes { aged (filling (times h)) with window := { s.window with entries := built } }) ∧
      (s.tracker.tracking = .unsynced → ¬ (home = true ∧ h.length = 8) → becomes (aged (times h))) ∧
      (∀ e, s.tracker.tracking ≠ .unsynced → s.tracker.count = some e →
        (home = true → e + 1 ≠ s.cfg.trays →
          becomes { addHold .tracking (resync (aged (times h))) with
            tracker := filling (times h)
            window := { entries := built, pending := [] }
            report := mismatched }) ∧
        (home = false → s.tracker.sinceHome + 1 = s.cfg.trays →
          becomes { addHold .tracking (resync (aged (lost (times h)))) with report := mismatched }) ∧
        ((home = true ∧ e + 1 = s.cfg.trays) ∨ (home = false ∧ s.tracker.sinceHome + 1 ≠ s.cfg.trays) →
          let now := if home then 0 else (e + 1) % s.cfg.trays
          let far := (now + s.cfg.window) % s.cfg.trays
          let locks := s.tracker.tracking = .filling ∧ s.tracker.fillEvents + 1 = s.cfg.window
          let turned : State :=
            { aged { times h with
                count := some now
                sinceHome := if home then 0 else s.tracker.sinceHome + 1
                fillEvents :=
                  if s.tracker.tracking = .filling then s.tracker.fillEvents + 1 else s.tracker.fillEvents
                tracking := if locks then .locked else s.tracker.tracking } with
              window :=
                { entries := s.window.entries.filter (fun x => x.tray != now) ++
                    [((s.window.pending.filter (fun n => n.part.tray == far)).filter
                        (fun n => !n.superseded)).foldl (fun x n => x.take n.part)
                      { tray := far, reading := if load then .loaded else .empty, governing := none,
                        mark := .none, decided := false }]
                  pending := s.window.pending.filter (fun n => n.part.tray != far) } }
          (locks → becomes (removeHold .tracking turned)) ∧ (¬ locks → becomes turned))))) ∧
  (∀ (s : State) (e : Tray) (load confirm last : Bool),
    (s.station.mode = .idle ∨ s.station.mode = .faulted) → s.tracker.tracking = .locked →
    s.tracker.count = some e → intervalPlausible s.cfg s.tracker = true →
    s.tracker.sinceHome + 1 ≠ s.cfg.trays → s.share.epochCount < 7 → s.share.held = [] →
    s.launch.commitment = none → s.launch.flight = none → s.line.queue = [] →
    let now := (e + 1) % s.cfg.trays
    let far := (now + s.cfg.window) % s.cfg.trays
    let entry := ((s.window.pending.filter (fun n => n.part.tray == far)).filter (fun n => !n.superseded)).foldl
      (fun x n => x.take n.part)
      { tray := far, reading := if load then .loaded else .empty, governing := none, mark := .none,
        decided := false }
    let entries := s.window.entries.filter (fun x => x.tray != now) ++ [entry]
    ∃ t, exec (.trayEdgeEvent false load confirm last) s = .next t ∧
      t = { s with
        lane := (settleLane s).lane
        tracker := t.tracker
        window := { entries := entries, pending := s.window.pending.filter (fun n => n.part.tray != far) }
        share := { s.share with
          epochCount := s.share.epochCount + 1
          freeCount :=
            if (entries.find? (fun x => x.tray == (now + s.launch.horizon) % s.cfg.trays)).any
                (Entry.free s.cfg.ordinal)
              then min (s.share.freeCount + 1) 8 else s.share.freeCount } })

/-- CONFIRM_EYE_BLOCKED sets the confirm latch and nothing else (R39). A timeout, which comes only when the
running interval has passed its upper bound, pitch × 20 ticks or, with P̄ present, 2 × P̄ (R41), and before that
has no effect (log entry 11), stops the timer, empties the history and raises TRAY TIMING (R47). In Unsynced
that is all. In Filling or Locked it is a resync, with TRACKING joining the hold set (R49): the count is lost,
the window, the pending list, the placed-hold list and A are emptied, the claim's record is Staged and an
Announced one's trays are vacated, no CLAIM or HOLD is left but one in passage, which runs to its end (R50,
R51), and in Running the station goes to Holding (R157). The confirm latch is cleared at it (R53), and set again
at once where it was set and the confirm eye stays blocked (R39), which is a free value (log entry 36). -/
def Obligations.ConfirmEyeAndTimeout : Prop :=
  (∀ s : State, active s = true →
    exec .confirmEyeBlocked s = .next { s with tracker := { s.tracker with latch := true } }) ∧
  (∀ (s : State) (x : Ticks), active s = true → s.tracker.timer = some x →
    timedOut s.cfg.pitch (period s) x = true →
    let report : Report :=
      { s.report with
        counters := s.report.counters.raise .timingFaults
        flags := { s.report.flags with trayTiming := true } }
    let tracker : Tracker :=
      { s.tracker with
        tracking := .unsynced, count := none, sinceHome := 0, fillEvents := 0, history := [], timer := none }
    let resynced : Tracker :=
      { tracker with
        latch := s.tracker.latch && Config.confirmEyeStaysBlocked s.tracker.timeouts
        timeouts := s.tracker.timeouts + 1 }
    (s.tracker.tracking = .unsynced →
      exec .timeout s = .next { s with tracker := tracker, report := report }) ∧
    (s.tracker.tracking ≠ .unsynced →
      ∃ t, exec .timeout s = .next t ∧
        t = addHold .tracking (resync { s with tracker := resynced, report := report }) ∧
        t.tracker = resynced ∧ t.report = report ∧
        t.window = { entries := [], pending := [] } ∧
        t.share = { s.share with credit := 0, held := [] } ∧ t.launch.commitment = none ∧
        t.launch.flight = s.launch.flight ∧ t.launch.horizon = s.launch.horizon ∧
        t.station.holds = { s.station.holds with tracking := true } ∧
        t.station.cause = s.station.cause ∧
        (s.station.mode = .running → s.station.holds.isEmpty = true → t.station.mode = .holding) ∧
        (s.station.mode ≠ .running → t.station.mode = s.station.mode) ∧
        (s.launch.commitment = none → t.lane = s.lane) ∧
        (∀ (k : Commitment) (before after : List Parcel) (r : Parcel),
          s.launch.commitment = some k → FirstRecord s Phase.isClaim k.seq before r after →
          t.lane = { s.lane with queue := before ++ { r with phase := .staged, placement := none } :: after } ∧
          (r.phase = .announced → s.line.queue.countP (·.body.isVacate) < 5 →
            s.line.queue.countP (fun f => f.body.isHold && f.inPassage) = 0 →
            .fresh (.vacate k.tray k.span 8) ∈ t.line.queue)) ∧
        (∀ f ∈ t.line.queue, f.body.isClaim = true ∨ f.body.isHold = true →
          f.inPassage = true ∧ f.removalAsked = true ∧ f.spared = true) ∧
        (∀ f ∈ s.line.queue, f.body.isVacate = true ∨ f.body.isDemand = true → f ∈ t.line.queue) ∧
        t.line.passage = s.line.passage ∧
        t.scan = s.scan ∧ t.pace = s.pace ∧ t.loader = s.loader)) ∧
  (∀ s : State, (s.tracker.timer = none ∨
      ∃ x, s.tracker.timer = some x ∧ timedOut s.cfg.pitch (period s) x = false) →
    exec .timeout s = .next s) ∧
  (∀ (pitch x : Nat) (p : Option Ticks), timedOut pitch p x = true ↔
    pitch * 20 < x ∨ ∃ m, p = some m ∧ 2 * m < x)

/-- A resync (R50): the window, the pending list and the placed-hold list are emptied, A is 0, no CLAIM or HOLD
waits and one in passage is asked away and runs to its end, past its deadline too (R51), the commitment is
dropped with its record Staged and, if Announced, its trays vacated (R133); a launch in flight, the peer table,
the lane, the counters and the flags stay (R52). -/
def Obligations.ResyncDiscardsWhatTraysNumber : Prop :=
  ∀ s : State,
    let t := resync s
    t.window = { entries := [], pending := [] } ∧
    t.share = { s.share with credit := 0, held := [] } ∧
    (∀ f ∈ t.line.queue, f.body.isClaim = true ∨ f.body.isHold = true →
      f.inPassage = true ∧ f.removalAsked = true ∧ f.spared = true) ∧
    (∀ f ∈ s.line.queue, f.body.isClaim = true ∨ f.body.isHold = true → f.inPassage = true →
      { f with removalAsked := true, spared := true } ∈ t.line.queue) ∧
    (∀ f ∈ s.line.queue, f.body.isClaim = false → f.body.isHold = false → f ∈ t.line.queue) ∧
    t.line.passage = s.line.passage ∧
    t.launch = { s.launch with commitment := none } ∧
    t.lane = { s.lane with queue := t.lane.queue } ∧
    (s.launch.commitment = none → t.lane.queue = s.lane.queue) ∧
    (∀ (k : Commitment) (before after : List Parcel) (r : Parcel),
      s.launch.commitment = some k → FirstRecord s Phase.isClaim k.seq before r after →
      t.lane.queue = before ++ { r with phase := .staged, placement := none } :: after ∧
      (r.phase = .announced → s.line.queue.countP (·.body.isVacate) < 5 →
        s.line.queue.countP (fun f => f.body.isHold && f.inPassage) = 0 →
        .fresh (.vacate k.tray k.span 8) ∈ t.line.queue)) ∧
    t.scan = s.scan ∧ t.tracker = s.tracker ∧ t.pace = s.pace ∧ t.station = s.station ∧
    t.report = s.report ∧ t.loader = s.loader ∧ t.pending = s.pending

/-! ## Shares, credits and holds -/

/-- The work of an epoch boundary (R103): a DEMAND is requested, every Active or Lax peer ages and at 4 is
Absent (R101), s is 0 for an own weight of 0 and else ⌈16·w / (w + Dw)⌉ between the floor share and 16 (R105),
F takes the free-tray count and that count starts again (R106), I is the effective interval for the new s and F
(R144 to R146), H is computed and HORIZON follows it (R126, R127), and the STAT interval count is raised, and at
the sixteenth boundary is 0 with a STAT offered (R179). -/
def Obligations.EpochBoundaryWork : Prop :=
  ∀ s : State,
    let t := epochBoundary s
    let grown := s.share.peers.map (fun p : Peer =>
      if p.presence = .absent then p
      else { p with age := min (p.age + 1) 4, presence := if p.age < 3 then p.presence else .absent })
    let w := backlog s * s.cfg.laneClass.weight
    let dw := ((grown.drop (s.cfg.ordinal + 1)).map (fun p : Peer =>
      if p.presence = .active ∧ p.running = true then p.backlog * p.laneClass.weight else 0)).sum
    (∃ f ∈ t.line.queue, f.body = .demand) ∧
    t.share = { s.share with
      peers := grown
      share := if w = 0 then 0 else min 16 (max s.cfg.floorShare ((16 * w + (w + dw) - 1) / (w + dw)))
      lastFree := s.share.freeCount
      freeCount := 0 } ∧
    t.pace = { s.pace with
      interval :=
        effectiveInterval s.cfg (rawInterval (period s) t.share.share t.share.lastFree) s.pace.limit } ∧
    (∀ p, period s = some p → t.launch.horizon = (s.cfg.path + rampLag s.cfg p) / s.cfg.pitch + 1 + s.cfg.margin) ∧
    (period s = none → t.launch.horizon = s.launch.horizon) ∧
    t.station.holds.horizon = decide (s.cfg.window - 1 < t.launch.horizon) ∧
    t.report = { s.report with
      statCount := if s.report.statCount + 1 < 16 then s.report.statCount + 1 else 0 } ∧
    (16 ≤ s.report.statCount + 1 → active s = true → ∃ f ∈ t.line.queue, f.body = .stat) ∧
    (s.report.statCount + 1 < 16 → t.station.holds = s.station.holds →
      t.line = (request .demand s).line ∧ t.lane = s.lane ∧ t.station = s.station) ∧
    t.scan = s.scan ∧ t.tracker = s.tracker ∧ t.window = s.window ∧ t.loader = s.loader

/-- The pace interval (R144, R145). The raw interval is P̄ × 128 / (s × F) ticks in ms, half up. With no raw
interval I is I_max; else it is raised to I_min and then lowered to I_max; a limit L other than 0 raises it to
⌈60000 / L⌉ at least; and for a configuration in range it lies from 500 to 60000 ms. -/
def Obligations.PaceIntervalIsBounded : Prop :=
  (∀ (p share free : Nat), share * free ≠ 0 →
    rawInterval (some p) share free = some ((2 * (p * 128) + share * free * 10) / (2 * (share * free * 10)))) ∧
  (∀ (p : Option Ticks) (share free : Nat), (p = none ∨ share * free = 0) →
    rawInterval p share free = none) ∧
  (∀ c : Settings, effectiveInterval c none 0 = c.intervalMax) ∧
  (∀ (c : Settings) (x : Nat), c.intervalMin ≤ c.intervalMax →
    (x < c.intervalMin → effectiveInterval c (some x) 0 = c.intervalMin) ∧
    (c.intervalMin ≤ x → x ≤ c.intervalMax → effectiveInterval c (some x) 0 = x) ∧
    (c.intervalMax < x → effectiveInterval c (some x) 0 = c.intervalMax)) ∧
  (∀ (c : Settings) (raw : Option Nat), c.intervalMax < c.intervalMin →
    effectiveInterval c raw 0 = c.intervalMax) ∧
  (∀ (c : Settings) (raw : Option Nat) (limit : Nat), limit ≠ 0 →
    effectiveInterval c raw limit = max (effectiveInterval c raw 0) ((60000 + limit - 1) / limit)) ∧
  (∀ (c : Settings) (raw : Option Nat) (limit : Nat), SettingsInRange c → limit ≤ 60 →
    500 ≤ effectiveInterval c raw limit ∧ effectiveInterval c raw limit ≤ 60000)

/-- A free decision tray raises A by s up to 32 (R109); with a ready parcel, its second tray free for a span of
2, no CLAIM in the queue and A at the cost it is claimed: A falls by the cost, which is 0 for a tray under a
HOLD for this station and 16 otherwise, the starve count is 0, and each tray is marked Claimed-by-me and decided
(R110). Where the launch unit accepts, the record is Committed with its tray, launch edge and delay and a CLAIM
with the launch edge for a deadline joins the queue (R128); where it refuses, the cost is refunded and the marks
are none (R129). The launch unit accepts a launch edge from 1 to H trays ahead and past the event that brings
the last confirm reading of a launch in flight, the (n + 3)-th or, for a span of two, the (n + 4)-th since its
launch edge (R128, R141). A tray is free with an entry that was read Empty, has no governing notice or a HOLD
for this station, and bears neither own mark (R82). -/
def Obligations.FreeDecisionTraysAreClaimed : Prop :=
  (∀ (s : State) (e t : Tray) (x : Entry) (second : List Entry) (r : Parcel) (n : SeqNo) (span : Span)
    (length : Nat) (before after : List Parcel) (near far : List Entry) (p : Ticks),
    s.window.entries = near ++ x :: (second ++ far) → x.tray = t → (∀ y ∈ near, y.tray ≠ t) →
    x.free s.cfg.ordinal = true →
    (match span with
      | .one => second = []
      | .two => ∃ y, second = [y] ∧ y.tray = (t + 1) % s.cfg.trays ∧ y.free s.cfg.ordinal = true ∧ y.tray ≠ t ∧
        ∀ z ∈ near, z.tray ≠ y.tray) →
    s.lane.queue = before ++ r :: after →
    (∀ q ∈ before, q.phase ≠ .staged ∧ (q.phase.isClaim = true → q.seq ≠ some n)) →
    r.phase = .staged → r.seq = some n → r.length = some length → r.span = some span →
    (∀ f ∈ s.line.queue, f.body.isClaim = false) → period s = some p →
    let cost := ((x :: second).map (fun y => if y.governing.isSome then 0 else 16)).sum
    let credit := min (s.share.credit + s.share.share) 32
    let k := reckon s.cfg p n length t span cost
    let distance := traySub s.cfg.trays k.edge e
    let last := match s.launch.flight with
      | none => 0
      | some f => f.whole + (if f.span = .one then 3 else 4) - (f.timing.edges.length + 1)
    let marked (m : OwnMark) : Window :=
      { s.window with
        entries := near ++ ((x :: second).map (fun y => { y with mark := m, decided := true }) ++ far) }
    cost ≤ credit →
    (1 ≤ distance ∧ distance ≤ s.launch.horizon ∧ last < distance →
      decideTray e t s =
        { s with
          window := marked .claimedByMe
          share := { s.share with credit := credit - cost, starve := 0 }
          lane := { s.lane with queue := before ++
            { r with phase := .committed, placement := some ⟨t, k.edge, k.delay⟩ } :: after }
          launch := { s.launch with commitment := some k }
          line := { s.line with queue := s.line.queue ++ [.fresh (.claim t span k.edge)] } }) ∧
    (¬ (1 ≤ distance ∧ distance ≤ s.launch.horizon ∧ last < distance) →
      decideTray e t s =
        { s with
          window := marked .none
          share := { s.share with credit := min (credit - cost + cost) 32, starve := 0 } })) ∧
  (∀ (own : LaneOrdinal) (x : Entry), x.free own = true ↔
    x.reading = .empty ∧
    (x.governing = none ∨ ∃ holder standing,
      x.governing = some { notice := .hold holder own, standing := standing }) ∧
    x.mark ≠ .claimedByMe ∧ x.mark ≠ .heldByMe) ∧
  (∀ (s : State) (t : Tray), freeTray s t = true ↔
    ∃ x near far, s.window.entries = near ++ x :: far ∧ x.tray = t ∧ (∀ y ∈ near, y.tray ≠ t) ∧
      x.free s.cfg.ordinal = true)

/-- A free decision tray that is not claimed is yielded (R112): with no ready parcel, or with one for which A
falls short, a CLAIM is in the queue, or the second tray is not free, which raises the starve count (R110,
R111). With no governing notice, an eligible target (R113), fewer than 8 placed holds and room for a HOLD, a
HOLD is placed (R115): the frame joins the queue, the placed-hold list takes the tray, the target and the expiry
two trays past the target's merge, the tray is marked Held-by-me, the holds placed counter rises, and the
pointers move (R114). Otherwise the tray keeps its mark. A decision tray that is not free raises the starve
count of a lane with a ready parcel and does nothing else (R111). At a tray edge event the share unit takes its
expiries (R118), then, at the eighth event of an epoch, the work of the boundary (R102, R103), sets the decided
flags of the trays that a growth of H jumps (R108), in Locked asks the free-tray question with the H that then
stands (R106), and takes a decision, on tray e + H, exactly where it finds the station Running, tracking Locked,
H at most W − 1 and the entry not decided (R107); in Unsynced there is the epoch alone (R48). Where the station
is not Running, no event changes A, the starve count or the pointers. -/
def Obligations.DecisionTraysAreYielded : Prop :=
  (∀ (s : State) (e t : Tray) (x : Entry) (near far : List Entry),
    s.window.entries = near ++ x :: far → x.tray = t → (∀ y ∈ near, y.tray ≠ t) →
    x.free s.cfg.ordinal = true →
    let credit := min (s.share.credit + s.share.share) 32
    let second := (t + 1) % s.cfg.trays
    let cost (governed : Bool) : Nat := if governed then 0 else 16
    let short (r : Parcel) : Bool := r.span == some .two && !freeTray s second
    (∀ r, readyParcel s = some r → (∃ f ∈ s.line.queue, f.body.isClaim = true) ∨ short r = true ∨
      (r.span ≠ some .two ∧ credit < cost x.governing.isSome) ∨
      (∃ y, r.span = some .two ∧ entryOf s second = some y ∧
        credit < cost x.governing.isSome + cost y.governing.isSome)) →
    let share : Share := { s.share with
      credit := credit
      starve := if (readyParcel s).any short then min (s.share.starve + 1) 255 else s.share.starve }
    (∀ c : Choice, x.governing = none → s.share.held.length < 8 →
      s.line.queue.countP (·.body.isHoldOrVacate) < 5 → chooseTarget s = some c →
      decideTray e t s =
        { s with
          window := { s.window with
            entries := near ++ { x with mark := .heldByMe, decided := true } :: far }
          share := { share with
            held := s.share.held ++
              [{ tray := t, target := c.target, sent := false,
                 expiry := (t + (traySub s.cfg.trays ((peerOf s c.target).offset.getD 0) s.cfg.offset + 2)) %
                   s.cfg.trays }]
            upper := c.position
            lower := if c.position = 15 then c.target else s.share.lower }
          line := { s.line with queue := s.line.queue ++ [.fresh (.hold t c.target)] }
          report := { s.report with counters := s.report.counters.raise .holdsPlaced } }) ∧
    (x.governing ≠ none ∨ 8 ≤ s.share.held.length ∨ 5 ≤ s.line.queue.countP (·.body.isHoldOrVacate) ∨
        chooseTarget s = none →
      decideTray e t s =
        { s with
          window := { s.window with entries := near ++ { x with decided := true } :: far }
          share := share })) ∧
  (∀ (s : State) (e t : Tray) (x : Entry) (near far : List Entry),
    s.window.entries = near ++ x :: far → x.tray = t → (∀ y ∈ near, y.tray ≠ t) →
    x.free s.cfg.ordinal = false →
    decideTray e t s =
      { s with
        window := { s.window with entries := near ++ { x with decided := true } :: far }
        share := { s.share with starve :=
          if (readyParcel s).isSome then min (s.share.starve + 1) 255 else s.share.starve } }) ∧
  (∀ s : State, s.tracker.count = none → shareEvent s =
    if s.share.epochCount = 7 then epochBoundary { s with share := { s.share with epochCount := 0 } }
    else { s with share := { s.share with epochCount := s.share.epochCount + 1 } }) ∧
  (∀ (s : State) (e : Tray), s.tracker.count = some e → (s.window.entries.map (·.tray)).Nodup →
    let expired := expireHolds e s
    let counted : State :=
      if s.share.epochCount = 7 then
        epochBoundary { expired with share := { expired.share with epochCount := 0 } }
      else { expired with share := { expired.share with epochCount := s.share.epochCount + 1 } }
    let h := counted.launch.horizon
    let passed : State := { counted with window := { s.window with
      entries := s.window.entries.map (fun x =>
        if ∃ i < h - s.launch.horizon, x.tray = (e + (s.launch.horizon + i)) % s.cfg.trays
          then { x with decided := true } else x) } }
    let t := (e + h) % s.cfg.trays
    let asked : State := { passed with share := { passed.share with
      freeCount := if freeTray s t then min (passed.share.freeCount + 1) 8 else passed.share.freeCount } }
    let due := s.station.mode = .running ∧ h ≤ s.cfg.window - 1 ∧
      ∃ x, entryOf passed t = some x ∧ x.decided = false
    (s.tracker.tracking ≠ .locked → shareEvent s = passed) ∧
    (s.tracker.tracking = .locked → (due → shareEvent s = decideTray e t asked) ∧
      (¬ due → shareEvent s = asked))) ∧
  (∀ s : State, s.station.mode ≠ .running →
    let u := shareEvent s
    u.share.credit = s.share.credit ∧ u.share.starve = s.share.starve ∧
    u.share.upper = s.share.upper ∧ u.share.lower = s.share.lower ∧
    (∀ h ∈ u.share.held, h ∈ s.share.held) ∧
    u.window.entries.map (fun x => (x.tray, x.mark)) = s.window.entries.map (fun x => (x.tray, x.mark)) ∧
    u.launch.commitment = s.launch.commitment)

/-- A HOLD has a target wherever a peer is eligible, and it is eligible itself, so it is downstream, Active,
running and at the starve threshold (R113). The rotation reaches it first (R114): every eligible express peer has
its own place in the upper rotation, and the eligible standard peers share place 15, in which the lower rotation
chooses. -/
def Obligations.HoldTargetsAreEligible : Prop :=
  (∀ s : State, ShareBounds s.share → ((∃ k, eligible s k = true) ↔ (chooseTarget s).isSome = true)) ∧
  (∀ (s : State) (k : LaneOrdinal), eligible s k = true ↔ s.cfg.ordinal < k ∧ k ≤ 14 ∧
    (peerOf s k).presence = .active ∧ (peerOf s k).running = true ∧
    s.cfg.starveThreshold ≤ (peerOf s k).starve) ∧
  (∀ (s : State) (c : Choice), ShareBounds s.share → chooseTarget s = some c →
    eligible s c.target = true ∧
    ((c.position = c.target ∧ (peerOf s c.target).laneClass = .express) ∨
      (c.position = 15 ∧ (peerOf s c.target).laneClass = .standard)) ∧
    c.position ≤ 15 ∧
    (∀ k, eligible s k = true →
      let place := if (peerOf s k).laneClass = .express then k else 15
      (c.position + 15 - s.share.upper) % 16 ≤ (place + 15 - s.share.upper) % 16) ∧
    (c.position = 15 → ∀ k, eligible s k = true → (peerOf s k).laneClass = .standard →
      (c.target + 14 - s.share.lower) % 15 ≤ (k + 14 - s.share.lower) % 15))

/-- At its expiry count a placed-hold entry leaves, and a sent one records a lapse: the target's lapse count
and the lapses counter rise, and an Active target at its second lapse is Lax with LAX PEER set (R118). A
CLAIM heard from the target removes the entry and clears the lapses, and a Lax sender of any CLAIM is Active
again (R117). -/
def Obligations.HoldsExpireOrAreTaken : Prop :=
  (∀ (s : State) (e : Tray) (h : PlacedHold) (before after : List PlacedHold) (p : Peer)
      (lower upper : List Peer),
    s.share.held = before ++ h :: after → h.expiry = e →
    (∀ q ∈ before ++ after, q.expiry ≠ e) → s.share.peers = lower ++ p :: upper →
    lower.length = h.target →
    (h.sent = false →
      expireHolds e s = { s with share := { s.share with held := before ++ after } }) ∧
    (h.sent = true →
      let lapses := min (p.lapses + 1) 2
      let lax := p.presence = .active ∧ lapses = 2
      expireHolds e s =
        { s with
          share := { s.share with
            held := before ++ after
            peers := lower ++
              { p with lapses := lapses, presence := if lax then .lax else p.presence } :: upper }
          report := { s.report with
            counters := s.report.counters.raise .lapses
            flags := { s.report.flags with
              laxPeer := s.report.flags.laxPeer || (p.presence == .active && lapses == 2) } } })) ∧
  (∀ (s : State) (j : LaneOrdinal) (trays : List Tray) (p : Peer) (lower upper : List Peer),
    s.share.peers = lower ++ p :: upper → lower.length = j →
    let taken (h : PlacedHold) : Bool := h.target == j && trays.contains h.tray
    takeDownstreamClaim j trays s =
      { s with share := { s.share with
        held := s.share.held.filter (fun h => !taken h)
        peers := lower ++
          { p with
            presence := if p.presence = .lax then .active else p.presence
            lapses := if p.presence = .lax ∨ s.share.held.any taken = true then 0 else p.lapses } :: upper } })

/-- A DEMAND in the bank's order is accepted: the sender's entry takes what it carries, the offset modulo N
and the backlog up to 4, its age is 0, and Absent becomes Active with no lapses (R99). One that contradicts
the order makes the entry Absent without an offset and raises the order clashes counter and ORDER CLASH; an
offset is before this station's when their difference is from 1 to ⌊N/2⌋ (R100). -/
def Obligations.DemandsFillThePeerTable : Prop :=
  ∀ (s : State) (k : LaneOrdinal) (d : DemandReport) (p : Peer) (lower upper : List Peer),
    s.share.peers = lower ++ p :: upper → lower.length = k →
    let difference := traySub s.cfg.trays s.cfg.offset d.offset
    let before := 1 ≤ difference ∧ difference ≤ s.cfg.trays / 2
    let clash := (k < s.cfg.ordinal ∧ ¬ before) ∨ (s.cfg.ordinal < k ∧ before)
    (¬ clash →
      takeDemand k d s = { s with share := { s.share with peers := lower ++
        { presence := if p.presence = .lax then .lax else .active
          laneClass := d.laneClass
          offset := some (d.offset % s.cfg.trays)
          backlog := min d.backlog 4
          starve := d.starve
          running := d.running
          age := 0
          lapses := if p.presence = .absent then 0 else p.lapses } :: upper } }) ∧
    (clash →
      takeDemand k d s =
        { s with
          share := { s.share with peers := lower ++ { p with presence := .absent, offset := none } :: upper }
          report := { s.report with
            counters := s.report.counters.raise .orderClashes
            flags := { s.report.flags with orderClash := true } } })

/-! ## Commit, launch and merge -/

/-- The reckoning of a launch (R123 to R126), for a loaded configuration, a P̄ within the absolute bounds of
R41 and a parcel of the size class. The loop speed is pitch × 10000 / P̄, half up, from 500 to 3000 mm/s, and
the ramp lag its square over 2a, half up. The lead is d_path and the lag less the centring offset b, which is
below half a pitch before its rounding, and the lead is more than half a pitch. It splits into whole pitches
and a rest below a pitch; the delay is (pitch − r) × P̄ / pitch, half up, from 3 ticks to P̄; the launch edge
lies n + 1 trays before the tray; H is at least 3, and n + 1 lies c trays or more within H. A mean of eight
intervals within the bounds lies within them too (R42). -/
def Obligations.LaunchTimingStaysInRange : Prop :=
  (∀ (c : Settings) (p : Ticks) (seq : SeqNo) (length cost : Nat) (tray : Tray) (span : Span),
    SettingsInRange c → lowerBound c.pitch ≤ p → p ≤ upperBound c.pitch →
    sizeClass c length = some span →
    let k := reckon c p seq length tray span cost
    let offset := (span.trays * c.pitch - length + 1) / 2
    k.speed = (2 * (c.pitch * 10000) + p) / (2 * p) ∧ 500 ≤ k.speed ∧ k.speed ≤ 3000 ∧
    k.lag = (2 * (k.speed * k.speed) + 2 * c.accel) / (4 * c.accel) ∧
    length ≤ span.trays * c.pitch ∧ span.trays * c.pitch - length < c.pitch ∧
    k.lead + offset = c.path + k.lag ∧ 2 * offset ≤ c.pitch ∧
    c.pitch < 2 * k.lead ∧ k.lead ≤ c.path + k.lag ∧
    k.whole = k.lead / c.pitch ∧ k.lead = k.whole * c.pitch + k.rest ∧ k.rest < c.pitch ∧
    k.delay = (2 * ((c.pitch - k.rest) * p) + c.pitch) / (2 * c.pitch) ∧ 3 ≤ k.delay ∧ k.delay ≤ p ∧
    k.edge < c.trays ∧ (k.edge + (k.whole + 1)) % c.trays = tray % c.trays ∧
    3 ≤ horizonWith c k.lag ∧ k.whole + 1 + c.margin ≤ horizonWith c k.lag) ∧
  (∀ (c : Settings) (h : List Ticks) (p : Ticks), meanPeriod h = some p →
    (∀ x ∈ h, lowerBound c.pitch ≤ x ∧ x ≤ upperBound c.pitch) →
    lowerBound c.pitch ≤ p ∧ p ≤ upperBound c.pitch)

/-- The launch moment (R134). When the delay timer of an Announced commitment reaches the delay and no notice
bars a tray of the claim, the launch unit takes both belts, the record is Launching, and the launch in flight
holds the exit window of R139: X past the last tray of the span, less and more g, counted from the launch edge.
It launches in Idle too (R7, R160). A second launch on a lane with a Launching record is JAM in the launch zone
(R135). For a record not Announced or a tray that a notice bars nothing happens (R134), and none does before the
delay or with no commitment (log entry 11). A tray whose entry has departed bars nothing (log entry 23). A
notice bars a tray unless it is a HOLD for this station. -/
def Obligations.LaunchMomentStartsALaunch : Prop :=
  (∀ (s : State) (k : Commitment) (x : EdgeTiming) (before after : List Parcel) (r : Parcel) (length : Nat),
    s.launch.commitment = some k → k.timing = some x → k.delay ≤ x.clock →
    FirstRecord s Phase.isClaim k.seq before r after → r.length = some length → r.phase = .announced →
    (∀ q ∈ before ++ after, q.phase ≠ .launching) →
    (∀ t ∈ claimTrays s.cfg.trays k.tray k.span, ∀ y, entryOf s t = some y →
      y.favours s.cfg.ordinal = true) →
    let pitch := s.cfg.pitch
    let mark := (k.span.trays * pitch + length - 2 * ((k.span.trays - 1) * pitch) + 1) / 2
    let g := (2 * pitch + 8) / 16
    let moment (travel : Nat) : ExitMoment :=
      { event := k.whole + k.span.trays + travel / pitch
        ticks := (2 * (travel % pitch * k.period) + pitch) / (2 * pitch) }
    exec .launchMoment s = .next (settleLane
      { s with
        lane := { s.lane with
          queue := before ++ { r with phase := .launching } :: after
          stageHolder := .launchUnit
          launchHolder := .launchUnit }
        launch := { s.launch with
          commitment := none
          flight := some
            { seq := k.seq, tray := k.tray, span := k.span, speed := k.speed, whole := k.whole,
              period := k.period, timing := x, startedAt := x.clock,
              opening := moment (mark - g), closing := moment (mark + g),
              checked := false, first := none, second := none } } })) ∧
  (∀ (s : State) (k : Commitment) (x : EdgeTiming),
    s.launch.commitment = some k → k.timing = some x → k.delay ≤ x.clock → phaseOf s k.seq = some .announced →
    (∀ t ∈ claimTrays s.cfg.trays k.tray k.span, trayBarred s t = false) →
    (∃ r ∈ s.lane.queue, r.phase = .launching) → takesLaneEvents s = true →
    exec .launchMoment s = .next (enterFaulted (.jam .launch)
      { s with report := { s.report with flags := { s.report.flags with jam := true } } })) ∧
  (∀ (s : State),
    (s.launch.commitment = none ∨ ∃ k, s.launch.commitment = some k ∧
      (phaseOf s k.seq ≠ some .announced ∨ (∃ t ∈ claimTrays s.cfg.trays k.tray k.span, trayBarred s t = true) ∨
        k.timing = none ∨ ∃ x, k.timing = some x ∧ x.clock < k.delay)) →
    exec .launchMoment s = .next s) ∧
  (∀ (own : LaneOrdinal) (y : Entry), y.favours own = true ↔
    y.governing = none ∨ ∃ holder standing,
      y.governing = some { notice := .hold holder own, standing := standing }) ∧
  (∀ (s : State) (t : Tray), trayBarred s t = true ↔
    ∃ y, entryOf s t = some y ∧ y.favours s.cfg.ordinal = false)

/-- The merge confirmation (R141, R142). The reading that the launch in flight needs is that of the
(n + 3)-th tray edge event since the launch edge, and for a span of two that of the next as well. With the
exit eye cleared, Loaded readings confirm: the record goes and the inductions counter rises. An Empty one
finds the parcel lost: LOST PARCEL is set, the station enters Faulted with that cause, the record is Conflict
and its trays are vacated. While the launch is in progress the reading is kept and the verdict deferred, and
the clearing of the exit eye then takes it. -/
def Obligations.ConfirmReadingsDecide : Prop :=
  ∀ (s : State) (f : Flight) (before after : List Parcel) (r : Parcel),
    s.launch.flight = some f → FirstRecord s Phase.isLaunching f.seq before r after →
    takesLaneEvents s = true →
    let timing : EdgeTiming := { f.timing with edges := f.timing.edges ++ [f.timing.clock] }
    let confirmed : State :=
      { s with
        lane := { s.lane with queue := before ++ after }
        launch := { s.launch with flight := none }
        report := { s.report with counters := s.report.counters.raise .inductions } }
    let lost (t : State) : Prop :=
      t.station = { s.station with mode := .faulted, cause := .lostParcel } ∧
      t.report = { s.report with flags := { s.report.flags with lostParcel := true } } ∧
      t.launch.flight = none ∧
      (s.launch.commitment = none → t.lane.queue = before ++ { r with phase := .conflict } :: after) ∧
      (s.line.queue.countP (·.body.isHoldOrVacate) < 5 → .fresh (.vacate f.tray f.span 8) ∈ t.line.queue)
    (s.lane.launchHolder = .sequencer → f.first = none → f.second = none →
      f.timing.edges.length + 1 = f.whole + 3 →
      (f.span = .one → flightEvent (some true) s = confirmed) ∧
      (f.span = .two → flightEvent (some true) s =
        { s with launch := { s.launch with flight := some { f with timing := timing, first := some true } } }) ∧
      lost (flightEvent (some false) s)) ∧
    (s.lane.launchHolder = .sequencer → f.span = .two → f.first = some true → f.second = none →
      f.timing.edges.length + 1 = f.whole + 4 →
      flightEvent (some true) s = confirmed ∧ lost (flightEvent (some false) s)) ∧
    (s.lane.launchHolder = .launchUnit → f.first = none → f.second = none →
      f.timing.edges.length + 1 = f.whole + 3 →
      ∀ b, flightEvent (some b) s =
        { s with launch := { s.launch with flight := some { f with timing := timing, first := some b } } }) ∧
    (f.span = .one → f.timing.edges.length + 1 ≠ f.whole + 3 → f.first = none → f.second = none →
      ∀ b, flightEvent (some b) s =
        { s with launch := { s.launch with flight := some { f with timing := timing } } }) ∧
    (s.lane.exitEye = true → s.lane.launchHolder = .launchUnit → f.checked = true → f.span = .one →
      (f.first = some true →
        exec .exitEyeClearing s = .next (settleLane
          { confirmed with lane := { s.lane with
              exitEye := false
              stageHolder := .sequencer
              launchHolder := .sequencer
              queue := (before ++ after).map
                (fun q => if q.phase = .launching then { q with zone := .launch } else q) } })) ∧
      (f.first = some false → ∃ t, exec .exitEyeClearing s = .next t ∧
        t.station = { s.station with mode := .faulted, cause := .lostParcel } ∧
        t.report.flags.lostParcel = true ∧ t.launch.flight = none))

/-- A notice that comes to govern a tray this station has marked (R92, R93): a held tray's placed-hold entry
goes, and a claimed tray taken by a CLAIM, or by a HOLD for another, is governed away. Before the launch moment
the claim is withdrawn (R132): the record is Staged again, the cost comes back to A up to 32, removal of the
CLAIM is asked, the marks are none and the withdrawals counter rises. After it, the launch is a late conflict
(R138): LATE CONFLICT is set, the station enters Faulted with that cause, the belts are taken and the record is
Conflict. A tray of neither changes nothing. A CLAIM or a HOLD comes to govern an entry with no governing
notice, and one that is governed where a row of R89 puts it in the place of the notice there (the third row's
part: log entry 25). -/
def Obligations.GovernedAwayTraysGiveWay : Prop :=
  (∀ (s : State) (p : Part) (x : Entry) (near far : List Entry),
    s.window.entries = near ++ x :: far → x.tray = p.tray → (∀ y ∈ near, y.tray ≠ p.tray) →
    let applied : State := { s with window := { s.window with entries := near ++ x.take p :: far } }
    (x.comesToGovern p = false ∨ x.mark = .none → applyPart p s = applied) ∧
    (x.comesToGovern p = true → x.mark = .heldByMe →
      applyPart p s = { applied with share := { s.share with
        held := s.share.held.filter (fun h => h.tray != p.tray) } }) ∧
    (x.comesToGovern p = true → x.mark = .claimedByMe →
      applyPart p s = if p.body = .hold s.cfg.ordinal then applied else governedAway p.tray applied)) ∧
  (∀ (s : State) (k : Commitment) (t : Tray) (before after : List Parcel) (r : Parcel),
    s.launch.commitment = some k → t ∈ claimTrays s.cfg.trays k.tray k.span →
    FirstRecord s Phase.isClaim k.seq before r after →
    let u := governedAway t s
    u.lane = { s.lane with queue := before ++ { r with phase := .staged, placement := none } :: after } ∧
    u.share = { s.share with credit := min (s.share.credit + k.cost) 32 } ∧
    u.launch = { s.launch with commitment := none } ∧
    u.report = { s.report with counters := s.report.counters.raise .withdrawals } ∧
    (∀ f ∈ u.line.queue, f.body.isClaim = true → f.inPassage = true ∧ f.removalAsked = true) ∧
    (∀ f ∈ s.line.queue, f.body.isClaim = false → f ∈ u.line.queue) ∧
    (∀ q ∈ claimTrays s.cfg.trays k.tray k.span, ∀ y, entryOf u q = some y → y.mark = .none) ∧
    (∀ q, q ∉ claimTrays s.cfg.trays k.tray k.span → entryOf u q = entryOf s q) ∧
    u.scan = s.scan ∧ u.tracker = s.tracker ∧ u.pace = s.pace ∧ u.station = s.station ∧
    u.loader = s.loader) ∧
  (∀ (s : State) (f : Flight) (t : Tray) (before after : List Parcel) (r : Parcel),
    s.launch.commitment = none → s.launch.flight = some f → t ∈ claimTrays s.cfg.trays f.tray f.span →
    FirstRecord s Phase.isLaunching f.seq before r after →
    takesLaneEvents s = true →
    governedAway t s =
      { s with
        lane := { s.lane with
          queue := before ++ { r with phase := .conflict } :: after
          stall := .stopped
          stageHolder := .sequencer
          launchHolder := .sequencer }
        launch := { s.launch with flight := none }
        line := (request .stat s).line
        station := { s.station with mode := .faulted, cause := .lateConflict }
        report := { s.report with flags := { s.report.flags with lateConflict := true } } }) ∧
  (∀ (s : State) (t : Tray),
    (∀ k, s.launch.commitment = some k → t ∉ claimTrays s.cfg.trays k.tray k.span) →
    (∀ f, s.launch.flight = some f → t ∉ claimTrays s.cfg.trays f.tray f.span) →
    governedAway t s = s) ∧
  (∀ (p : Part) (x : Entry), x.comesToGovern p = true ↔ ∃ n : GoverningNotice,
    ((∃ span part first, p.body = .claim span part first ∧ n = .claim p.sender span part first) ∨
      (∃ target, p.body = .hold target ∧ n = .hold p.sender target)) ∧
    (x.governing = none ∨ ∃ g, x.governing = some g ∧
      ((∃ holder span first, g.notice = .hold holder p.sender ∧ n = .claim p.sender span .first first) ∨
        (¬ (p.sender < g.standing ∧ n = .hold p.sender g.standing ∧
            ∃ span part first, g.notice = .claim g.standing span part first) ∧
          (p.sender < g.standing ∨ (g.notice.sender = p.sender ∧ g.standing = p.sender))))))

/-- The launch edge (R131): the tray edge event that brings the count to the launch edge tray starts the
delay timer of an Announced commitment, and abandons a Committed one, whose record is Staged again with no
refund, whose CLAIM's removal is asked, and which the abandons counter counts. Each later event is counted
with its time. Other events change nothing there. -/
def Obligations.LaunchEdgeStartsOrAbandons : Prop :=
  ∀ (s : State) (k : Commitment), s.launch.commitment = some k →
    let timed (x : EdgeTiming) : State :=
      { s with launch := { s.launch with commitment := some { k with timing := some x } } }
    (∀ (x : EdgeTiming) (count : Option Tray), k.timing = some x →
      commitmentEvent count s = timed { x with edges := x.edges ++ [x.clock] }) ∧
    (∀ count : Option Tray, k.timing = none → count ≠ some k.edge → commitmentEvent count s = s) ∧
    (k.timing = none → phaseOf s k.seq = some .announced →
      commitmentEvent (some k.edge) s = timed { clock := 0, edges := [] }) ∧
    (∀ (before after : List Parcel) (r : Parcel), k.timing = none →
      FirstRecord s Phase.isClaim k.seq before r after → r.phase = .committed →
      let t := commitmentEvent (some k.edge) s
      t.lane = { s.lane with queue := before ++ { r with phase := .staged, placement := none } :: after } ∧
      t.share = s.share ∧ t.launch = { s.launch with commitment := none } ∧
      t.report = { s.report with counters := s.report.counters.raise .abandons } ∧
      (∀ f ∈ t.line.queue, f.body.isClaim = true → f.inPassage = true ∧ f.removalAsked = true) ∧
      (∀ q ∈ claimTrays s.cfg.trays k.tray k.span, ∀ y, entryOf t q = some y → y.mark = .none) ∧
      t.scan = s.scan ∧ t.tracker = s.tracker ∧ t.pace = s.pace ∧ t.station = s.station ∧
      t.loader = s.loader)

/-! ## The lane line -/

/-- The sender begins on a normal line that has been recessive for 4 Tb (R57): of the frames in the queue it
takes one of the lowest kind, and of that kind the oldest, which is in passage from then with the bits of that
instant (R70, R183). Where another node drives the line by then, it does not begin, and a dominant run of 1½ to
4 Tb is the start of that node's frame, which the assembler takes; a shorter one is noise (R56, R57). The same
4 Tb end joining (R54). With less, on a faulted line, with a frame in passage, or with none to send, the sender
has nothing to begin (log entry 11). -/
def Obligations.FramesBeginInOrder : Prop :=
  (∀ (s : State) (gap : Nat) (before after : List TxFrame) (f : TxFrame),
    active s = true → s.line.faulted = false → s.line.passage = none → 4 * Config.tb ≤ gap →
    s.line.queue = before ++ f :: after → (∀ g ∈ before, f.body.kind.code < g.body.kind.code) →
    (∀ g ∈ after, f.body.kind.code ≤ g.body.kind.code) →
    exec (.frameBegin (.idle gap)) s = .next { s with line := { s.line with
      queue := before ++ { f with inPassage := true } :: after
      passage := some (frameBits f.body.kind s.cfg.ordinal
        (match f.body with
          | .claim t span _ | .vacate t span _ => natBits 12 t ++ [decide (span = .two)]
          | .hold t target => natBits 12 t ++ natBits 4 target
          | .demand =>
            [decide (s.cfg.laneClass = .express)] ++ natBits 12 s.cfg.offset ++
              natBits 3 (if s.station.mode = .running then backlog s else 0) ++ natBits 8 s.share.starve ++
              [decide (s.station.mode = .running)]
          | .stat => statFields s))
      assembler := .assembling
      assembled := [] } }) ∧
  (∀ (s : State) (gap run : Nat),
    active s = true → s.line.faulted = false → s.line.passage = none → 4 * Config.tb ≤ gap →
    s.line.queue ≠ [] →
    (96 ≤ run → run < 256 → exec (.frameBegin (.driven gap run)) s = .next
      { s with line := { s.line with assembler := .assembling, assembled := [] } }) ∧
    (run < 96 ∨ 256 ≤ run → exec (.frameBegin (.driven gap run)) s = .next s)) ∧
  (∀ (s : State) (gap run : Nat),
    (active s = false ∨ s.line.faulted = true ∨ s.line.passage ≠ none ∨ gap < 4 * Config.tb ∨
      s.line.queue = []) →
    exec (.frameBegin (.idle gap)) s = .next s ∧ exec (.frameBegin (.driven gap run)) s = .next s) ∧
  (∀ (s : State) (gap : Nat), active s = true → s.line.assembler = .joining → 4 * Config.tb ≤ gap →
    exec (.joiningEnds gap) s = .next s.waiting) ∧
  (∀ (s : State) (gap : Nat), (active s = false ∨ s.line.assembler ≠ .joining ∨ gap < 4 * Config.tb) →
    exec (.joiningEnds gap) s = .next s)

/-- A passage that does not complete keeps its frame: lost arbitration counts nothing (R58), and a bit error
raises the line frame errors counter (R59). The frame is no longer in passage, unless its removal was asked or
its deadline reached, when it leaves the queue (R71, R72). The assembler goes on with the bits read so far, the
last of them the one that was read wrong; after a bit timing error, and after a start that holds the line, it
waits (R58, R59, R61). A 1 read as 0 in the kind and sender fields is lost arbitration and later a bit error; a 0
read as 1 is a bit error anywhere. Lost arbitration at another bit (log entry 22), and either command with no
frame in passage (log entry 11), changes nothing. -/
def Obligations.PassagesEndUnfinished : Prop :=
  (∀ (s : State) (sent : Bits) (before after : List TxFrame) (f : TxFrame),
    s.line.passage = some sent → s.line.queue = before ++ f :: after → f.inPassage = true →
    (∀ g ∈ before ++ after, g.inPassage = false ∧ g.renewed = false) →
    let ended (assembler : Assembler) (bits : Bits) : State := { s with line := { s.line with
      queue := before ++ ((if f.removalAsked = true ∨ f.expired = true then []
        else [{ f with inPassage := false, renewed := false }]) ++ after)
      passage := none
      assembler := assembler
      assembled := bits } }
    let counted (t : State) : State :=
      { t with report := { s.report with counters := s.report.counters.raise .frameErrors } }
    (∀ bit, bit < 7 → sent[bit]? = some true →
      exec (.lostArbitration bit) s = .next (ended .assembling (sent.take bit ++ [false]))) ∧
    (∀ bit, 7 ≤ bit ∨ sent[bit]? ≠ some true → exec (.lostArbitration bit) s = .next s) ∧
    (∀ bit, 7 ≤ bit → sent[bit]? = some true →
      exec (.bitError (.readZero bit)) s = .next (counted (ended .assembling (sent.take bit ++ [false])))) ∧
    (∀ bit, sent[bit]? = some false →
      exec (.bitError (.readOne bit)) s = .next (counted (ended .assembling (sent.take bit ++ [true])))) ∧
    (∀ seen, breaksWindow seen = true →
      exec (.bitError (.timing seen)) s = .next (counted (ended .waiting []))) ∧
    (∀ run, 4 * Config.tb ≤ run →
      exec (.bitError (.startHeld run)) s = .next (counted (ended .waiting [])))) ∧
  (∀ (s : State) (bit : Nat) (cause : BitErrorCause), s.line.passage = none →
    exec (.lostArbitration bit) s = .next s ∧ exec (.bitError cause) s = .next s)

/-- The line condition (R67). A dominant run of 4 Tb on a normal line makes it faulted, sets LINE FAULT, ends an
own frame's passage with a bit error, discards a frame that is being assembled (R61), and adds the hold cause
LINE; 16 Tb of recessive line make it normal, with the assembler waiting, and remove LINE. The flag stays
(R177). Shorter runs, and a condition that stands already, change nothing (log entry 11). -/
def Obligations.LineConditionFollowsTheLine : Prop :=
  (∀ (s : State) (run : Nat), active s = true → s.line.faulted = false → s.line.passage = none →
    4 * Config.tb ≤ run →
    exec (.lineFault run) s = .next (addHold .line
      { s with
        line := { s.line with
          faulted := true
          assembler := if s.line.assembler = .assembling then .waiting else s.line.assembler
          assembled := if s.line.assembler = .assembling then [] else s.line.assembled }
        report := { s.report with flags := { s.report.flags with lineFault := true } } })) ∧
  (∀ (s : State) (run : Nat), active s = true → s.line.faulted = false → s.line.passage ≠ none →
    4 * Config.tb ≤ run → ∃ t, exec (.lineFault run) s = .next t ∧
      t.line.faulted = true ∧ t.line.passage = none ∧ t.line.assembler ≠ .assembling ∧
      (∀ f ∈ t.line.queue, f.inPassage = false) ∧
      t.report.counters = s.report.counters.raise .frameErrors ∧ t.report.flags.lineFault = true ∧
      t.station.holds.line = true) ∧
  (∀ (s : State) (gap : Nat), active s = true → s.line.faulted = true → 16 * Config.tb ≤ gap →
    exec (.lineConditionNormal gap) s = .next (removeHold .line
      { s with line := { s.line with faulted := false, assembler := .waiting, assembled := [] } })) ∧
  (∀ (s : State) (run : Nat), (active s = false ∨ s.line.faulted = true ∨ run < 4 * Config.tb) →
    exec (.lineFault run) s = .next s) ∧
  (∀ (s : State) (gap : Nat), (active s = false ∨ s.line.faulted = false ∨ gap < 16 * Config.tb) →
    exec (.lineConditionNormal gap) s = .next s)

/-- A completed own frame leaves the queue, unless it was renewed in passage (R60, R70). A CLAIM makes the
Committed record of its commitment Announced (R130), or, where its removal was asked or its deadline reached,
queues a VACATE for its tray and span (R60, R72); a HOLD's placed-hold entry is sent (R116); a STAT advances
the counter group from 4 to 0 (R180). -/
def Obligations.CompletedFramesReport : Prop :=
  ∀ (s : State) (before after : List TxFrame) (f : TxFrame),
    s.line.queue = before ++ f :: after → f.inPassage = true →
    (∀ g ∈ before ++ after, g.inPassage = false ∧ g.renewed = false) →
    let kept := if f.renewed then [{ f with inPassage := false, renewed := false }] else []
    let ended : State := { s with line := { s.line with
      queue := before ++ (kept ++ after), passage := none, assembler := .waiting, assembled := [] } }
    (∀ tray span edge, f.body = .claim tray span edge →
      (f.removalAsked = true ∨ f.expired = true →
        exec .claimCompletion s = .next (offerVacate tray span ended)) ∧
      (∀ (k : Commitment) (front back : List Parcel) (r : Parcel),
        f.removalAsked = false → f.expired = false → s.launch.commitment = some k → k.tray = tray →
        FirstRecord s Phase.isClaim k.seq front r back → r.phase = .committed →
        exec .claimCompletion s = .next
          { ended with lane := { s.lane with queue := front ++ { r with phase := .announced } :: back } })) ∧
    (∀ tray target, f.body = .hold tray target →
      (f.removalAsked = true → exec .holdCompletion s = .next ended) ∧
      (f.removalAsked = false → exec .holdCompletion s = .next
        { ended with share := { s.share with
            held := s.share.held.map (fun h => if h.tray = tray then { h with sent := true } else h) } })) ∧
    ((∃ tray span n, f.body = .vacate tray span n) ∨ f.body = .demand →
      exec .frameCompletion s = .next ended) ∧
    (f.body = .stat → exec .frameCompletion s = .next
      { ended with report := { s.report with group := (s.report.group + 1) % 5 } })

/-- What the transmit queue does with what it is offered. A VACATE joins below five HOLDs and VACATEs,
displaces the oldest waiting HOLD and its placed-hold entry at five, and with no waiting HOLD there is dropped
(R69). A DEMAND or STAT joins where none is held, changes nothing while one waits, and renews one in passage
(R70). Removal takes a waiting frame at once and marks one in passage (R71). -/
def Obligations.OffersJoinTheQueue : Prop :=
  (∀ (s : State) (t : Tray) (span : Span), s.line.queue.countP (·.body.isHoldOrVacate) < 5 →
    offerVacate t span s =
      { s with line := { s.line with queue := s.line.queue ++ [.fresh (.vacate t span 8)] } }) ∧
  (∀ (s : State) (t h : Tray) (j : LaneOrdinal) (span : Span) (before after : List TxFrame) (f : TxFrame),
    5 ≤ s.line.queue.countP (·.body.isHoldOrVacate) → s.line.queue = before ++ f :: after →
    f.body = .hold h j → f.inPassage = false →
    (∀ g ∈ before, g.body.isHold = true → g.inPassage = true) →
    offerVacate t span s =
      { s with
        line := { s.line with queue := (before ++ after) ++ [.fresh (.vacate t span 8)] }
        share := { s.share with held := s.share.held.filter (fun x => x.tray != h) } }) ∧
  (∀ (s : State) (t : Tray) (span : Span), 5 ≤ s.line.queue.countP (·.body.isHoldOrVacate) →
    (∀ g ∈ s.line.queue, g.body.isHold = true → g.inPassage = true) → offerVacate t span s = s) ∧
  (∀ (s : State) (b : TxBody), (∀ f ∈ s.line.queue, f.body ≠ b) →
    request b s = { s with line := { s.line with queue := s.line.queue ++ [.fresh b] } }) ∧
  (∀ (s : State) (b : TxBody) (before after : List TxFrame) (f : TxFrame),
    s.line.queue = before ++ f :: after → f.body = b → (∀ g ∈ before, g.body ≠ b) →
    request b s = { s with line := { s.line with
      queue := before ++ { f with renewed := f.renewed || f.inPassage } :: after } }) ∧
  (∀ (s : State) (p : TxBody → Bool) (f : TxFrame),
    f ∈ (askRemoval p s).line.queue ↔
      (f ∈ s.line.queue ∧ p f.body = false) ∨
      (∃ g ∈ s.line.queue, p g.body = true ∧ g.inPassage = true ∧ f = { g with removalAsked := true }))

/-- A tray edge event at the deadlines (R72): a CLAIM's is its launch edge and a HOLD's its tray, but for one in
passage at a resync, which runs to its end (R51); a VACATE's is the eighth event after its admission, so its count
falls by 1 at each event (log entry 28), and at 0 it is reached. A waiting frame at its deadline leaves, and one
in passage whose last bit has not begun is cut, leaving the sender without a passage and its assembler waiting
(log entry 40, the model's choice); one whose last bit has begun stays, marked, and its passage goes on. Every
other frame stays as it was. A HOLD's placed-hold entry goes with it, and a Committed CLAIM's claim is
abandoned. -/
def Obligations.FramesReachTheirDeadlines : Prop :=
  (∀ (s : State) (e : Tray) (last : Bool), s.tracker.count = some e →
    let due (f : TxFrame) : Prop := match f.body with
      | .claim _ _ edge => edge = e ∧ f.spared = false
      | .hold t _ => t = e ∧ f.spared = false
      | .vacate _ _ n => n = 0
      | .demand | .stat => False
    let t := lineEvent last s
    (∀ f ∈ s.line.queue, ¬ due f → f ∈ t.line.queue ∨
      (f.body.isClaim = true ∧ f.inPassage = false) ∨
      (f.body.isClaim = true ∧ { f with removalAsked := true } ∈ t.line.queue)) ∧
    (∀ f ∈ t.line.queue, due f → f.inPassage = true ∧ last = true ∧ f.expired = true) ∧
    (last = true → t.line.passage = s.line.passage ∧ ∀ f ∈ s.line.queue, due f → f.inPassage = true →
      ∃ asked, { f with expired := true, removalAsked := asked } ∈ t.line.queue) ∧
    ((∃ before f after, s.line.queue = before ++ f :: after ∧ f.inPassage = true ∧ due f ∧
        ∀ g ∈ before, g.inPassage = false) → last = false →
      t.line.passage = none ∧ t.line.assembler = .waiting) ∧
    (∀ h ∈ s.share.held, (∃ f ∈ s.line.queue, due f ∧ ∃ j, f.body = .hold h.tray j) → h ∉ t.share.held) ∧
    (∀ k f, s.launch.commitment = some k → phaseOf s k.seq = some .committed → f ∈ s.line.queue → due f →
      f.body = .claim k.tray k.span e → k.edge = e →
      t.launch.commitment = none ∧
      t.report.counters = s.report.counters.raise .abandons) ∧
    ((∀ f ∈ s.line.queue, ¬ due f) → t = s)) ∧
  (∀ (s : State) (home load confirm last : Bool), active s = true →
    ∃ t, exec (.trayEdgeEvent home load confirm last) s = .next t ∧
      (∀ f tray span n, f ∈ s.line.queue → f.body = .vacate tray span n →
        (2 ≤ n → { f with body := .vacate tray span (n - 1) } ∈ t.line.queue) ∧
        (n ≤ 1 → f.inPassage = true → last = true →
          { f with body := .vacate tray span 0, expired := true } ∈ t.line.queue)) ∧
      (∀ f tray span, f ∈ t.line.queue → f.body = .vacate tray span 0 →
        f.inPassage = true ∧ last = true ∧ f.expired = true))

/-- Every frame that a station or the panel builds by R183 and R63 passes the checks of R62 to R64 at a station
of another ordinal, which reads back every field that it carries; at a station of its own ordinal it is a clash
(R65). A STAT carries the station's figures as they stand (R180, R184): of the 139 bits after its sender the
station state, the hold set, the fault cause, the fourteen flags from JAM on, the counter group and its
counters, I_min and I each stand in their places, and the slots past the group's counters are 0. The codes and
their orders are those of R176, R178 and R184. -/
def Obligations.FramesReadBack : Prop :=
  (∀ (own sender : LaneOrdinal) (tray : Nat) (span : Span) (kind : Kind), sender ≤ 14 → tray ≤ 4095 →
    kind = .claim ∨ kind = .vacate →
    let b := frameBits kind sender (spanFields tray span)
    screen own b = (if sender = own then .clash else .pass) ∧ kindOf b = some kind ∧
      senderOf b = sender ∧ trayOf b = tray ∧ spanOf b = span) ∧
  (∀ (own sender : LaneOrdinal) (tray : Nat) (target : LaneOrdinal), sender ≤ 14 → tray ≤ 4095 → target ≤ 15 →
    let b := frameBits .hold sender (holdFields tray target)
    screen own b = (if sender = own then .clash else .pass) ∧ kindOf b = some .hold ∧
      senderOf b = sender ∧ trayOf b = tray ∧ holdTargetOf b = target) ∧
  (∀ (own target : LaneOrdinal) (order limit : Nat), own ≤ 14 → target ≤ 15 → order ≤ 2 → limit ≤ 63 →
    let b := frameBits .bank 15 (bankFields target order limit)
    screen own b = .pass ∧ kindOf b = some .bank ∧ senderOf b = 15 ∧ bankTargetOf b = target ∧
      bankOrderOf b = order ∧ bankLimitOf b = limit) ∧
  (∀ (own sender : LaneOrdinal) (c : LaneClass) (offset backlog starve : Nat) (running : Bool),
    sender ≤ 14 → offset ≤ 4095 → backlog ≤ 7 → starve ≤ 255 →
    let b := frameBits .demand sender (demandFields c offset backlog starve running)
    screen own b = (if sender = own then .clash else .pass) ∧ kindOf b = some .demand ∧
      senderOf b = sender ∧
      demandOf b = ⟨c, offset, backlog, starve, running⟩) ∧
  (∀ (s : State) (own : LaneOrdinal), s.cfg.ordinal ≤ 14 →
    let b := frameBits .stat s.cfg.ordinal (statFields s)
    screen own b = (if s.cfg.ordinal = own then .clash else .pass) ∧ kindOf b = some .stat ∧
      senderOf b = s.cfg.ordinal) ∧
  (∀ s : State, SettingsInRange s.cfg → ReportBounds s.report → PaceBounds s.pace →
    let b := statFields s
    b.length = 139 ∧
    field b 0 2 = (match s.station.mode with
      | .unconfigured | .loading | .idle => 0
      | .running => 1
      | .holding => 2
      | .faulted => 3) ∧
    (b.drop 2).take 4 = [s.station.holds.bank, s.station.holds.tracking, s.station.holds.line,
      s.station.holds.horizon] ∧
    field b 6 4 = (match s.station.cause with
      | .none => 0
      | .jam .place => 1
      | .jam .measure => 2
      | .jam .stage => 3
      | .jam .launch => 4
      | .lostParcel => 5
      | .lateConflict => 6
      | .ordinalClash => 7
      | .laneNotClear => 8) ∧
    (let f := s.report.flags;
      (b.drop 10).take 14 = [f.jam, f.lostParcel, f.lateConflict, f.ordinalClash, f.lineFault, f.trayTiming,
        f.configFault, f.configClamped, f.pendingOverflow, f.scanOverrun, f.orderClash, f.launchTiming,
        f.laxPeer, f.remove]) ∧
    field b 24 3 = s.report.group ∧
    (let c := s.report.counters;
      [0, 1, 2, 3, 4].map (fun i => field b (27 + 16 * i) 16) = (match s.report.group with
        | 0 => [c.inductions, c.rejects, c.withdrawals, c.abandons, c.noiseBlocks]
        | 1 => [c.badScans, c.orphanScans, c.scanOverruns, c.noReads, 0]
        | 2 => [c.frameErrors, c.lateNotices, c.pendingOverflows, 0, 0]
        | 3 => [c.orderClashes, c.lapses, c.holdsPlaced, 0, 0]
        | _ => [c.timingFaults, c.homeMismatches, c.launchWarnings, 0, 0])) ∧
    field b 107 16 = s.cfg.intervalMin ∧ field b 123 16 = s.pace.interval)

/-- One bit that arrives wrong is always found: bits that pass the check of R63 fail it with any one of them
turned over, and a frame of any of the notice rows that comes to the assembler with one bit after the kind field
wrong is discarded with the line frame errors counter raised, whatever else it says. -/
def Obligations.OneWrongBitIsDiscarded : Prop :=
  (∀ (bits : Bits) (i : Nat), checkPasses bits = true → i < bits.length →
    checkPasses (flipBit i bits) = false) ∧
  (∀ (s : State) (a : Arrival) (kind : Kind) (rest : Bits) (i : Nat), i < rest.length →
    checkPasses (withKind kind rest) = true → FrameArrives s a (withKind kind (flipBit i rest)) →
    (kind = .claim → exec (.claimNotice ⟨a, flipBit i rest⟩) s = .next s.errored) ∧
    (kind = .hold → exec (.holdNotice ⟨a, flipBit i rest⟩) s = .next s.errored) ∧
    (kind = .vacate → exec (.vacateNotice ⟨a, flipBit i rest⟩) s = .next s.errored) ∧
    (kind = .bank → exec (.bankHold ⟨a, flipBit i rest⟩) s = .next s.errored ∧
      exec (.bankResume ⟨a, flipBit i rest⟩) s = .next s.errored ∧
      exec (.bankPace ⟨a, flipBit i rest⟩) s = .next s.errored) ∧
    (kind = .demand → exec (.demandNotice ⟨a, flipBit i rest⟩) s = .next s.errored) ∧
    (kind = .stat → exec (.statNotice ⟨a, flipBit i rest⟩) s = .next s.errored))

/-- A frame of a wrong length, of an unknown kind, or of the panel's ordinal where its kind is a station's is
discarded and counted as a line frame error (R62, R64), as is one that a bit timing error breaks (R61): the
windows of R55 and R56 are given in parts of which Tb has 64 (log entry 6), and an edge later than 1⅛ Tb and up
to 4 Tb after the last bit's breaks the end (log entry 24). One that carries the own ordinal
sets ORDINAL CLASH, takes the station into Faulted where it is not, and is counted nowhere (R65); in Faulted a
Clear that comes together with it finds it (R166, log entry 38). A frame that does not come to the assembler has
no effect: while the line interface takes nothing, where its start is none, or where it is not the one that is
being assembled (R54, R56, R61, R67, log entry 11). -/
def Obligations.BrokenFramesAreDiscarded : Prop :=
  (∀ (s : State) (a : Arrival) (rest : Bits) (u : UnknownFrame),
    (FrameArrives s a (unknownBits u) → exec (.unknownKindFrame ⟨a, u⟩) s = .next s.errored) ∧
    (rest.length ≠ 25 ∨ bitsNat (rest.take 4) = 15 →
      (FrameArrives s a (withKind .claim rest) → exec (.claimNotice ⟨a, rest⟩) s = .next s.errored) ∧
      (FrameArrives s a (withKind .vacate rest) → exec (.vacateNotice ⟨a, rest⟩) s = .next s.errored)) ∧
    (rest.length ≠ 28 ∨ bitsNat (rest.take 4) = 15 → FrameArrives s a (withKind .hold rest) →
      exec (.holdNotice ⟨a, rest⟩) s = .next s.errored) ∧
    (rest.length ≠ 37 ∨ bitsNat (rest.take 4) = 15 → FrameArrives s a (withKind .demand rest) →
      exec (.demandNotice ⟨a, rest⟩) s = .next s.errored) ∧
    (rest.length ≠ 151 ∨ bitsNat (rest.take 4) = 15 → FrameArrives s a (withKind .stat rest) →
      exec (.statNotice ⟨a, rest⟩) s = .next s.errored) ∧
    (rest.length ≠ 24 ∨ bitsNat (rest.take 4) ≠ 15 ∨ bitsNat ((rest.drop 8).take 2) = 3 →
      FrameArrives s a (withKind .bank rest) →
      exec (.bankHold ⟨a, rest⟩) s = .next s.errored ∧ exec (.bankResume ⟨a, rest⟩) s = .next s.errored ∧
      exec (.bankPace ⟨a, rest⟩) s = .next s.errored)) ∧
  (∀ (s : State) (a : Arrival) (kind : Kind) (fields : Bits), s.cfg.ordinal ≤ 14 →
    let rest := frameRest kind s.cfg.ordinal fields
    FrameArrives s a (withKind kind rest) →
    let flags (t : State) : State :=
      { t with report := { s.report with flags := { s.report.flags with ordinalClash := true } } }
    let clashed : State :=
      if s.station.mode = .faulted then
        flags { s.waiting with station :=
          { s.station with again := some (s.station.again.getD .ordinalClash) } }
      else enterFaulted .ordinalClash (flags s.waiting)
    (kind = .claim → fields.length = 13 → exec (.claimNotice ⟨a, rest⟩) s = .next clashed) ∧
    (kind = .hold → fields.length = 16 → exec (.holdNotice ⟨a, rest⟩) s = .next clashed) ∧
    (kind = .vacate → fields.length = 13 → exec (.vacateNotice ⟨a, rest⟩) s = .next clashed) ∧
    (kind = .demand → fields.length = 25 → exec (.demandNotice ⟨a, rest⟩) s = .next clashed) ∧
    (kind = .stat → fields.length = 139 → exec (.statNotice ⟨a, rest⟩) s = .next clashed)) ∧
  (∀ (s : State) (a : Arrival) (rest : Bits) (u : UnknownFrame),
    (¬ FrameArrives s a (withKind .claim rest) → exec (.claimNotice ⟨a, rest⟩) s = .next s) ∧
    (¬ FrameArrives s a (withKind .hold rest) → exec (.holdNotice ⟨a, rest⟩) s = .next s) ∧
    (¬ FrameArrives s a (withKind .vacate rest) → exec (.vacateNotice ⟨a, rest⟩) s = .next s) ∧
    (¬ FrameArrives s a (withKind .demand rest) → exec (.demandNotice ⟨a, rest⟩) s = .next s) ∧
    (¬ FrameArrives s a (withKind .stat rest) → exec (.statNotice ⟨a, rest⟩) s = .next s) ∧
    (¬ FrameArrives s a (withKind .bank rest) → exec (.bankHold ⟨a, rest⟩) s = .next s ∧
      exec (.bankResume ⟨a, rest⟩) s = .next s ∧ exec (.bankPace ⟨a, rest⟩) s = .next s) ∧
    (¬ FrameArrives s a (unknownBits u) → exec (.unknownKindFrame ⟨a, u⟩) s = .next s)) ∧
  (∀ (e : Nat) (next : Option Nat), breaksWindow (.bit (some e) next) = true ↔
    (24 ≤ e ∧ e ≤ 40) ∨ 72 ≤ e ∨ ∃ t, next = some t ∧ t < 56) ∧
  (∀ next, breaksWindow (.bit none next) = true) ∧
  (∀ e, breaksWindow (.firstBit (some e)) = true ↔ e < 24 ∨ 40 < e) ∧
  breaksWindow (.firstBit none) = true ∧
  (∀ e, breaksWindow (.afterLast e) = true ↔ 72 < e ∧ e ≤ 256) ∧
  (∀ (s : State) (a : Arrival) (seen : Sighting),
    (LineTakes s a → breaksWindow seen = true → exec (.bitTimingError ⟨a, seen⟩) s = .next s.errored) ∧
    (¬ LineTakes s a ∨ breaksWindow seen = false → exec (.bitTimingError ⟨a, seen⟩) s = .next s))

/-- A received notice goes to the blocks that R66 names, with the fields that its sender put into it: a CLAIM
to the tray window and from downstream to the share unit, with its trays (R117); a HOLD and a VACATE to the
tray window; a DEMAND to the share unit; and a STAT to none. The assembler then waits (R61). -/
def Obligations.ReceivedNoticesAreHandedOver : Prop :=
  ∀ (s : State) (a : Arrival) (k : LaneOrdinal), k ≤ 14 → k ≠ s.cfg.ordinal →
    (∀ (t : Nat) (span : Span), t ≤ 4095 →
      let claim := frameRest .claim k (spanFields t span)
      let vacate := frameRest .vacate k (spanFields t span)
      (FrameArrives s a (withKind .claim claim) →
        (k < s.cfg.ordinal → exec (.claimNotice ⟨a, claim⟩) s = .next (hearClaim k t span s.waiting)) ∧
        (s.cfg.ordinal < k → exec (.claimNotice ⟨a, claim⟩) s = .next
          (takeDownstreamClaim k (match span with
            | .one => [t % s.cfg.trays]
            | .two => [t % s.cfg.trays, (t % s.cfg.trays + 1) % s.cfg.trays]) s.waiting))) ∧
      (FrameArrives s a (withKind .vacate vacate) →
        exec (.vacateNotice ⟨a, vacate⟩) s = .next (hearVacate k t span s.waiting))) ∧
    (∀ (t : Nat) (target : LaneOrdinal), t ≤ 4095 → target ≤ 15 →
      let hold := frameRest .hold k (holdFields t target)
      FrameArrives s a (withKind .hold hold) →
      exec (.holdNotice ⟨a, hold⟩) s = .next (hearHold k t target s.waiting)) ∧
    (∀ (c : LaneClass) (offset backlog starve : Nat) (running : Bool),
      offset ≤ 4095 → backlog ≤ 7 → starve ≤ 255 →
      let demand := frameRest .demand k (demandFields c offset backlog starve running)
      FrameArrives s a (withKind .demand demand) →
      exec (.demandNotice ⟨a, demand⟩) s = .next (takeDemand k ⟨c, offset, backlog, starve, running⟩ s.waiting)) ∧
    (∀ fields : Bits, fields.length = 139 →
      FrameArrives s a (withKind .stat (frameRest .stat k fields)) →
      exec (.statNotice ⟨a, frameRest .stat k fields⟩) s = .next s.waiting)

/-- Where a heard notice goes (R83 to R88). From downstream, in Unsynced, and a HOLD for no station below its
holder: nowhere. From a sender without a merge offset: late. Else each part by its own distance d: to its entry
from 1 to W, to the pending list beyond W up to Δ + 48, and late otherwise; and a CLAIM or VACATE with Δ at
least W is superseded and touches no entry. Which of a missing offset and a wrong target comes first is the
model's (log entry 16), as is that the first of two parts is placed first (log entry 37). In the pending list
(R94, R95) a newcomer replaces one of the same tray, sender and kind, and stands behind every notice at its
distance or nearer and before every farther one; where 64 others stand, it is dropped, the pending overflows
counter rises and PENDING OVERFLOW is set. -/
def Obligations.NoticesArePlaced : Prop :=
  (∀ (s : State) (k : LaneOrdinal) (t : Nat) (target : LaneOrdinal) (span : Span),
    (s.tracker.tracking = .unsynced ∨ s.cfg.ordinal ≤ k) →
    hearClaim k t span s = s ∧ hearVacate k t span s = s ∧ hearHold k t target s = s) ∧
  (∀ (s : State) (k : LaneOrdinal) (t : Nat) (target : LaneOrdinal) (span : Span),
    s.tracker.tracking ≠ .unsynced → k < s.cfg.ordinal → (peerOf s k).offset = none →
    let late : State :=
      { s with report := { s.report with counters := s.report.counters.raise .lateNotices } }
    hearClaim k t span s = late ∧ hearVacate k t span s = late ∧ hearHold k t target s = late) ∧
  (∀ (s : State) (k : LaneOrdinal) (t m : Nat) (target : LaneOrdinal),
    s.tracker.tracking ≠ .unsynced → k < s.cfg.ordinal → (peerOf s k).offset = some m →
    let delta := traySub s.cfg.trays s.cfg.offset m
    let first := t % s.cfg.trays
    let second := (first + 1) % s.cfg.trays
    hearHold k t target s = (if k < target ∧ target ≠ 15 then placePart delta ⟨first, k, .hold target⟩ s else s) ∧
    hearClaim k t .one s = placePart delta ⟨first, k, .claim .one .first first⟩ s ∧
    hearVacate k t .one s = placePart delta ⟨first, k, .vacate .one .first first⟩ s ∧
    hearClaim k t .two s = placePart delta ⟨second, k, .claim .two .second first⟩
      (placePart delta ⟨first, k, .claim .two .first first⟩ s) ∧
    hearVacate k t .two s = placePart delta ⟨second, k, .vacate .two .second first⟩
      (placePart delta ⟨first, k, .vacate .two .first first⟩ s)) ∧
  (∀ (s : State) (delta e : Nat) (p : Part), s.tracker.count = some e →
    let d := traySub s.cfg.trays p.tray e
    let held := match p.body with
      | .hold _ => true
      | .claim _ _ _ | .vacate _ _ _ => false
    (1 ≤ d → d ≤ s.cfg.window → delta < s.cfg.window ∨ held = true → placePart delta p s = applyPart p s) ∧
    (1 ≤ d → d ≤ s.cfg.window → s.cfg.window ≤ delta → held = false → placePart delta p s = s) ∧
    (s.cfg.window < d → d ≤ delta + 48 →
      placePart delta p s = joinPending p (!held && decide (s.cfg.window ≤ delta)) s) ∧
    (d = 0 ∨ (s.cfg.window < d ∧ delta + 48 < d) →
      placePart delta p s =
        { s with report := { s.report with counters := s.report.counters.raise .lateNotices } })) ∧
  (∀ (s : State) (p : Part) (superseded : Bool) (e : Tray), s.tracker.count = some e →
    let distance (t : Tray) : Nat := traySub s.cfg.trays t e
    let others := s.window.pending.filter (fun q => !(p.tray == q.part.tray && p.sender == q.part.sender &&
      (match p.body, q.part.body with
        | .claim _ _ _, .claim _ _ _ => true
        | .hold _, .hold _ => true
        | .vacate _ _ _, .vacate _ _ _ => true
        | _, _ => false)))
    (others.length < 64 → ∃ near far, others = near ++ far ∧
      joinPending p superseded s =
        { s with window := { s.window with pending := near ++ { part := p, superseded := superseded } :: far } } ∧
      (∀ q ∈ near, distance q.part.tray ≤ distance p.tray) ∧
      (∀ q, far.head? = some q → distance p.tray < distance q.part.tray) ∧
      (s.window.pending.Pairwise (fun a b => distance a.part.tray ≤ distance b.part.tray) →
        (joinPending p superseded s).window.pending.Pairwise
          (fun a b => distance a.part.tray ≤ distance b.part.tray))) ∧
    (64 ≤ others.length →
      joinPending p superseded s =
        { s with report := { s.report with
            counters := s.report.counters.raise .pendingOverflows
            flags := { s.report.flags with pendingOverflow := true } } }))

/-- The governing notice (R89 to R91). On an entry with none, a CLAIM or HOLD governs with its sender for
standing. On one that is governed, the rows of R89 go in their order: the first part of a CLAIM from a governing
HOLD's target takes the HOLD's place with the HOLD's standing; a HOLD whose target is the sender and the
standing of a governing CLAIM, and whose holder is upstream of it, gives the CLAIM the holder's standing,
whichever part of the CLAIM governs (log entry 25, the model's reading of the third row); else a sender upstream
of the standing replaces the notice, as does the sender of the notice where it is the standing too; and nothing
else changes the entry. A HOLD and its target's CLAIM leave the same in either order (R90), and the standing
never rises. A VACATE clears a CLAIM of its sender with its first tray and span, and changes nothing
else (R91). -/
def Obligations.TheUpstreamNoticeGoverns : Prop :=
  (∀ (x : Entry) (n : GoverningNotice), x.governing = none →
    x.apply n = { x with governing := some { notice := n, standing := n.sender } }) ∧
  (∀ (x : Entry) (n : GoverningNotice) (g : Governing), x.governing = some g →
    let second := (∃ j span first, g.notice = .hold j n.sender ∧ n = .claim n.sender span .first first)
    let third := (∃ span part first, g.notice = .claim g.standing span part first ∧
      n = .hold n.sender g.standing ∧ n.sender < g.standing)
    (second → x.apply n = { x with governing := some { notice := n, standing := g.standing } }) ∧
    (third → x.apply n = { x with governing := some { notice := g.notice, standing := n.sender } }) ∧
    (¬ second → ¬ third →
      (n.sender < g.standing ∨ (g.notice.sender = n.sender ∧ g.standing = n.sender) →
        x.apply n = { x with governing := some { notice := n, standing := n.sender } }) ∧
      (¬ (n.sender < g.standing ∨ (g.notice.sender = n.sender ∧ g.standing = n.sender)) →
        x.apply n = x)) ∧
    ∃ h, (x.apply n).governing = some h ∧ h.standing ≤ g.standing) ∧
  (∀ (x : Entry) (holder target : LaneOrdinal) (span : Span) (first : Tray), x.governing = none →
    holder < target →
    let claim : GoverningNotice := .claim target span .first first
    let hold : GoverningNotice := .hold holder target
    (x.apply hold).apply claim = { x with governing := some { notice := claim, standing := holder } } ∧
    (x.apply claim).apply hold = { x with governing := some { notice := claim, standing := holder } }) ∧
  (∀ (x : Entry) (sender : LaneOrdinal) (span : Span) (first : Tray),
    (∀ part standing, x.governing = some { notice := .claim sender span part first, standing := standing } →
      x.vacate sender span first = { x with governing := none }) ∧
    ((∀ part standing, x.governing ≠ some { notice := .claim sender span part first, standing := standing }) →
      x.vacate sender span first = x))

/-- A BANK order of the panel for this station or for every station (R74): HOLD puts BANK into the hold set,
RESUME takes it out, and PACE sets the pace limit, 61 to 63 taken as 60. One for another station changes
nothing but that the assembler waits. A BANK row given another order's frame is refused by name (log entry 8). -/
def Obligations.BankOrdersAct : Prop :=
  ∀ (s : State) (a : Arrival) (target : LaneOrdinal) (n limit : Nat),
    s.cfg.ordinal ≤ 14 → target ≤ 15 → n ≤ 2 → limit ≤ 63 →
    let order : Bits := frameRest .bank 15 (bankFields target n limit)
    let ours := target = s.cfg.ordinal ∨ target = 15
    FrameArrives s a (withKind .bank order) →
    (n = 0 → ours → exec (.bankHold ⟨a, order⟩) s = .next (addHold .bank s.waiting)) ∧
    (n = 1 → ours → exec (.bankResume ⟨a, order⟩) s = .next (removeHold .bank s.waiting)) ∧
    (n = 2 → ours → exec (.bankPace ⟨a, order⟩) s = .next
      { s.waiting with pace := { s.pace with limit := min limit 60 } }) ∧
    (n = 0 → ¬ ours → exec (.bankHold ⟨a, order⟩) s = .next s.waiting) ∧
    (n = 1 → ¬ ours → exec (.bankResume ⟨a, order⟩) s = .next s.waiting) ∧
    (n = 2 → ¬ ours → exec (.bankPace ⟨a, order⟩) s = .next s.waiting) ∧
    (n ≠ 0 → exec (.bankHold ⟨a, order⟩) s = .refused .anotherBankOrder) ∧
    (n ≠ 1 → exec (.bankResume ⟨a, order⟩) s = .refused .anotherBankOrder) ∧
    (n ≠ 2 → exec (.bankPace ⟨a, order⟩) s = .refused .anotherBankOrder)

/-! ## Station control and the console -/

/-- The hold set (R156) and the moves it brings (R157): a cause added to the empty set takes Running to
Holding, and the removal of the last takes Holding to Running; each change offers a STAT (R179), and one that
is no change does nothing. Leaving Running returns a Committed record to Staged with its CLAIM's removal asked
and keeps an Announced one (R160). -/
def Obligations.HoldCausesMoveTheStation : Prop :=
  ∀ (s : State) (c : HoldCause), active s = true →
    let t := addHold c s
    let u := removeHold c s
    (s.station.holds.has c = true → t = s) ∧
    (s.station.holds.has c = false →
      t.station = { s.station with
        holds := s.station.holds.put true c
        mode := if s.station.mode = .running ∧ s.station.holds = ⟨false, false, false, false⟩ then .holding
          else s.station.mode } ∧
      (∃ f ∈ t.line.queue, f.body = .stat) ∧
      t.scan = s.scan ∧ t.tracker = s.tracker ∧ t.window = s.window ∧ t.share = s.share ∧ t.pace = s.pace ∧
      t.report = s.report ∧ t.loader = s.loader ∧
      (s.station.mode ≠ .running ∨ s.station.holds ≠ ⟨false, false, false, false⟩ ∨
          s.launch.commitment = none → t.lane = s.lane ∧ t.launch = s.launch) ∧
      (∀ (k : Commitment) (before after : List Parcel) (r : Parcel),
        s.station.mode = .running → s.station.holds = ⟨false, false, false, false⟩ →
        s.launch.commitment = some k → FirstRecord s Phase.isClaim k.seq before r after →
        (r.phase = .announced → t.lane = s.lane ∧ t.launch = s.launch) ∧
        (r.phase = .committed →
          t.lane = { s.lane with queue := before ++ { r with phase := .staged, placement := none } :: after } ∧
          t.launch = { s.launch with commitment := none } ∧
          ∀ f ∈ t.line.queue, f.body.isClaim = true → f.inPassage = true ∧ f.removalAsked = true))) ∧
    (s.station.holds.has c = false → u = s) ∧
    (s.station.holds.has c = true →
      (∃ f ∈ u.line.queue, f.body = .stat) ∧
      u = { s with
        line := u.line
        station := { s.station with
          holds := s.station.holds.put false c
          mode := if s.station.mode = .holding ∧ s.station.holds.put false c = ⟨false, false, false, false⟩
            then .running else s.station.mode } })

/-- START takes Idle to Running, or to Holding while a cause stands (R158); STOP takes Running and Holding to
Idle with the belts that the lane sequencer holds stopped (R159), returns a Committed record to Staged without
a refund and keeps an Announced one (R160). Both are ignored elsewhere, and a press that bounces is none
(R151). -/
def Obligations.StartAndStopMoveTheStation : Prop :=
  (∀ (s : State) (q : Quiet), (q = .sinceLoading ∨ ∃ n, q = .ticks n ∧ 200 ≤ n) →
    let moved (m : Mode) : State :=
      { s with station := { s.station with mode := m }, line := (request .stat s).line }
    (s.station.mode = .idle → s.station.holds = ⟨false, false, false, false⟩ →
      exec (.start q) s = .next (settleLane (moved .running))) ∧
    (s.station.mode = .idle → s.station.holds ≠ ⟨false, false, false, false⟩ →
      exec (.start q) s = .next (settleLane (moved .holding))) ∧
    (s.station.mode = .holding → exec (.stop q) s = .next (settleLane (moved .idle))) ∧
    (s.station.mode = .running →
      (s.launch.commitment = none ∨
        ∃ k, s.launch.commitment = some k ∧ phaseOf s k.seq = some .announced) →
      exec (.stop q) s = .next (settleLane (moved .idle))) ∧
    (∀ (k : Commitment) (before after : List Parcel) (r : Parcel), s.station.mode = .running →
      s.launch.commitment = some k → FirstRecord s Phase.isClaim k.seq before r after → r.phase = .committed →
      ∃ t, exec (.stop q) s = .next t ∧ t.station = { s.station with mode := .idle } ∧
        t.lane.queue = before ++ { r with phase := .staged, placement := none } :: after ∧
        t.launch = { s.launch with commitment := none } ∧ t.share = s.share ∧ t.report = s.report ∧
        (∀ f ∈ t.line.queue, f.body.isClaim = true → f.inPassage = true ∧ f.removalAsked = true)) ∧
    (∀ t, (s.station.mode = .running ∨ s.station.mode = .holding) → exec (.stop q) s = .next t →
      placeBelt t = 0 ∧ measureBelt t = 0 ∧ (t.lane.stageHolder = .sequencer → stageBelt t = 0) ∧
      (t.lane.launchHolder = .sequencer → launchBelt t = 0)) ∧
    (s.station.mode ≠ .idle → exec (.start q) s = .next s) ∧
    (s.station.mode ≠ .running → s.station.mode ≠ .holding → exec (.stop q) s = .next s)) ∧
  (∀ (s : State) (n : Nat) (eyes : LaneEyes), n < 200 →
    exec (.start (.ticks n)) s = .next s ∧ exec (.stop (.ticks n)) s = .next s ∧
    exec (.clear (.ticks n) eyes) s = .next s)

/-- CLEAR in Faulted (R163, R164). With a lane eye blocked it is refused, and the FAULT lamp's blink starts, lit
and with 2000 ms to run (R150). With every lane eye clear the station is Idle with no fault cause, every record
is gone, the place count and A are 0, the placed-hold list and the scan slot are empty, the commitment and the
launch in flight are gone, removal of the HOLD frames is asked, the own marks are none, the pace timer is run
out, the blink ends, every flag but those whose causes stand is cleared (R177), and a STAT is offered (R179);
the rest of the part keeps its values. Where a fault was reported in Faulted together with the Clear (R166; at
one instant and before it, log entry 38), the station then enters Faulted again with that cause, its flag cleared
as any other (R177). -/
def Obligations.ClearNeedsAClearLane : Prop :=
  ∀ (s : State) (q : Quiet) (eyes : LaneEyes), s.station.mode = .faulted →
    (q = .sinceLoading ∨ ∃ n, q = .ticks n ∧ 200 ≤ n) →
    (eyes ≠ ⟨false, false, false, false, false⟩ →
      exec (.clear q eyes) s = .next
        { s with pace := { s.pace with blink := some { phaseLeft := 2500, lit := true, left := 20000 } } }) ∧
    (eyes = ⟨false, false, false, false, false⟩ →
      ∃ flags : EventFlags,
        (∀ f, flags.get f = (s.report.flags.get f && match f with
          | .lineFault => s.line.faulted
          | .configFault => true
          | .laxPeer => s.share.peers.any (·.presence == .lax)
          | _ => false)) ∧
        let t : State := { s with
          lane := { s.lane with
            queue := []
            placeCount := 0
            measureEye := false
            transferEye := false
            stageEye := false
            exitEye := false
            transferStray := false
            stall := .stopped
            stageHolder := .sequencer
            launchHolder := .sequencer }
          scan := { s.scan with slot := none }
          window := { s.window with entries := s.window.entries.map (fun e => { e with mark := .none }) }
          share := { s.share with credit := 0, held := [] }
          launch := { s.launch with commitment := none, flight := none }
          pace := { s.pace with timer := none, blink := none }
          line := (request .stat (askRemoval TxBody.isHold s)).line
          station := { s.station with mode := .idle, cause := .none, again := none }
          report := { s.report with flags := flags } }
        (s.station.again = none → exec (.clear q eyes) s = .next t) ∧
        (∀ cause, s.station.again = some cause → exec (.clear q eyes) s = .next (enterFaulted cause t)))

/-- CLEAR elsewhere (R165): in Idle it clears each event flag whose cause has gone (R176, R177) and changes
nothing else, in Running and Holding it is ignored, and in Unconfigured and Loading it is not taken. -/
def Obligations.ClearElsewhereTouchesNoParcel : Prop :=
  ∀ (s : State) (q : Quiet) (eyes : LaneEyes),
    (s.station.mode = .idle → (q = .sinceLoading ∨ ∃ n, q = .ticks n ∧ 200 ≤ n) →
      ∃ t, exec (.clear q eyes) s = .next t ∧
      t = { s with report := { s.report with flags := t.report.flags } } ∧
      ∀ f, t.report.flags.get f = (s.report.flags.get f && match f with
        | .lineFault => s.line.faulted
        | .configFault => true
        | .laxPeer => s.share.peers.any (·.presence == .lax)
        | .remove => s.lane.queue.any (fun r => r.phase == .rejected && r.zone == .stage && r.atStage)
        | _ => false)) ∧
    (s.station.mode = .running ∨ s.station.mode = .holding ∨ s.station.mode = .unconfigured ∨
      s.station.mode = .loading → exec (.clear q eyes) s = .next s)

/-- The timers of the console and the lamps. The pace timer that reaches 0 in Running or Holding is run out
(R147); a phase of the blink that ends turns the FAULT lamp over for the next 250 ms, and the end of the 2000 ms
leaves it steady (R150); each is due when its time holds 0 (log entry 4), and one that is not due changes
nothing (log entry 11), the model's choices. Exactly one lamp is selected, by the order of R148, and only it can
be lit. An alert output is asserted exactly while a flag that is mapped to it is set, the flags in the order of
R176 (R181). -/
def Obligations.ConsoleTimersAndLamps : Prop :=
  (∀ s : State, s.pace.timer = some 0 → s.station.mode = .running ∨ s.station.mode = .holding →
    exec .paceTimerRunsOut s = .next { s with pace := { s.pace with timer := none } }) ∧
  (∀ s : State, (s.pace.timer ≠ some 0 ∨ (s.station.mode ≠ .running ∧ s.station.mode ≠ .holding)) →
    exec .paceTimerRunsOut s = .next s) ∧
  (∀ (s : State) (b : Blink), s.pace.blink = some b →
    (b.phaseLeft = 0 → exec .faultBlinkPhase s = .next
      { s with pace := { s.pace with blink := some { b with phaseLeft := 2500, lit := !b.lit } } }) ∧
    (b.left = 0 → exec .faultBlinkEnd s = .next { s with pace := { s.pace with blink := none } }) ∧
    (b.phaseLeft ≠ 0 → exec .faultBlinkPhase s = .next s) ∧
    (b.left ≠ 0 → exec .faultBlinkEnd s = .next s)) ∧
  (∀ s : State, s.pace.blink = none →
    exec .faultBlinkPhase s = .next s ∧ exec .faultBlinkEnd s = .next s) ∧
  (∀ s : State,
    (selectedLamp s = .fault ↔ s.station.mode = .faulted ∨ s.station.mode = .unconfigured) ∧
    (selectedLamp s = .remove ↔ s.station.mode ≠ .faulted ∧ s.station.mode ≠ .unconfigured ∧
      ∃ r ∈ s.lane.queue, r.phase = .rejected ∧ r.zone = .stage ∧ r.atStage = true) ∧
    (selectedLamp s = .place ↔ s.station.mode = .running ∧ s.lane.placeCount = 0 ∧
      s.lane.queue.length < 4 ∧ s.pace.timer = none ∧
      ¬ ∃ r ∈ s.lane.queue, r.phase = .rejected ∧ r.zone = .stage ∧ r.atStage = true) ∧
    (∀ l, lampOutput s l = true ↔ selectedLamp s = l ∧
      (l = .fault → ∀ b, s.pace.blink = some b → b.lit = true))) ∧
  (∀ (s : State) (n : Fin 4),
    let f := s.report.flags
    alertOutput s n = true ↔ ∃ i : Nat, s.report.alerts[i]? = some (some n) ∧
      [f.jam, f.lostParcel, f.lateConflict, f.ordinalClash, f.lineFault, f.trayTiming, f.configFault,
        f.configClamped, f.pendingOverflow, f.scanOverrun, f.orderClash, f.launchTiming, f.laxPeer,
        f.remove][i]? = some true)

/-! ## Invariants and whole-machine rules -/

/-- The state after power-on reset is sound in every block. -/
def Obligations.ResetIsSound : Prop :=
  let s := State.reset
  LaneBounds s.lane ∧ WindowBounds s.window ∧ ShareBounds s.share ∧ QueueLimits s.line.queue ∧
  PassageSound s.line ∧ AssemblerSound s.line ∧
  ParcelsSound s ∧ PendingSound s ∧ ReportBounds s.report ∧ PaceBounds s.pace ∧ TrackerSound s.tracker ∧
  LoaderSound s ∧ WindowAligned s ∧ StationSound s ∧ BeltsSound s

/-- From every state, a step that has an effect keeps the room of the parcel queue (R14), the pending list
(R94) and the transmit queue (R68), one frame in passage while its bits are on the line (R57), the receive frame
assembler in step with the passage and the line condition (R58, R61, R67), and the report unit's figures (R178 to
R180), whose counters never fall but at power-on reset. It keeps a parcel with no record to a blocked transfer eye
(R1), at most one Measuring record, at most one that is
Staged, Committed or Announced, and at most one Launching (R14), the commitment and the launch in flight with
their records (R121, R122), and an empty scan slot while a Measured record stands (R25). -/
def Obligations.EveryStepKeepsTheCapacities : Prop :=
  ∀ s t : State, step s = .next t →
    (LaneBounds s.lane → LaneBounds t.lane) ∧
    (ParcelsSound s → ParcelsSound t ∧
      t.lane.queue.countP (fun r => r.phase == .staged || r.phase == .committed || r.phase == .announced) ≤ 1) ∧
    (WindowBounds s.window → WindowBounds t.window) ∧
    (QueueLimits s.line.queue → QueueLimits t.line.queue) ∧
    (PassageSound s.line → PassageSound t.line) ∧
    (AssemblerSound s.line → AssemblerSound t.line) ∧
    (ReportBounds s.report → ReportBounds t.report ∧
      (s.pending.head? ≠ some .powerOnReset → ∀ c, s.report.counters.get c ≤ t.report.counters.get c))

/-- From every state, a step that has an effect keeps the share unit's figures (R98, R102, R105, R106, R109,
R111, R113, R114), and, with a configuration in range, the pace limit and the pace interval (R75, R145). -/
def Obligations.EveryStepKeepsSharesAndPace : Prop :=
  ∀ s t : State, step s = .next t →
    (ShareBounds s.share → ShareBounds t.share) ∧
    (LoaderSound s → PaceBounds s.pace → PaceBounds t.pace)

/-- A step keeps the lock closed exactly while a configuration in range is loaded, and from the end of Loading
nothing but power-on reset changes the configuration (R175). -/
def Obligations.EveryStepKeepsTheConfiguration : Prop :=
  ∀ s t : State, step s = .next t →
    (LoaderSound s → LoaderSound t) ∧
    (active s = true → s.pending.head? ≠ some .powerOnReset → t.loader = s.loader)

/-- A step keeps the tracker's count present in Filling and Locked with eight intervals in the history (R42,
R43), and, with a configuration in range, the window at exactly the trays e+1 to e+W in their order (R76), and
the pending list in order of distance, of trays beyond the window, with no two notices of one tray, sender and
kind (R94). -/
def Obligations.EveryStepKeepsTheWindowAligned : Prop :=
  ∀ s t : State, step s = .next t →
    (TrackerSound s.tracker → TrackerSound t.tracker) ∧
    (LoaderSound s → WindowAligned s → WindowAligned t) ∧
    (LoaderSound s → WindowAligned s → PendingSound s → PendingSound t)

/-- A step keeps the hold causes in step with what they stand for, Running with an empty hold set and Holding
with one that is not, and a fault cause in Faulted alone (R49, R67, R127, R156, R157, R161); and no acceptance
outstanding, every stall timer with its condition, and the launch unit idle outside Idle, Running and Holding
(R5, R19, R162). -/
def Obligations.EveryStepKeepsTheStation : Prop :=
  ∀ s t : State, step s = .next t →
    (StationSound s → StationSound t) ∧
    (BeltsSound s → BeltsSound t)

/-- Rules of the whole part. No command but its own row does any of these: a command leaves the waiting commands
alone (log entry 1); Faulted is left only by CLEAR against a clear lane and by power-on reset, and keeps its
cause until then (R161, R163; a fault reported in it waits for a Clear alone, log entry 38); a launch in flight
begins only at LAUNCH_MOMENT, for an Announced record whose trays nothing bars (R134); and a CLAIM or a HOLD
joins the transmit queue only at a tray edge event that leaves tracking Locked and found the station in Running
or Holding (R107). -/
def Obligations.WholeMachineRules : Prop :=
  ∀ (c : Instr) (s t : State), exec c s = .next t →
    t.pending = s.pending ∧
    (s.station.mode = .faulted →
      t.station = { s.station with holds := t.station.holds, again := t.station.again } ∨ c = .powerOnReset ∨
      ∃ q, c = .clear q ⟨false, false, false, false, false⟩) ∧
    (∀ f, s.launch.flight = none → t.launch.flight = some f → c = .launchMoment ∧
      ∃ k, s.launch.commitment = some k ∧ phaseOf s k.seq = some .announced ∧ f.seq = k.seq ∧
        f.tray = k.tray ∧ f.span = k.span ∧
        ∀ x ∈ claimTrays s.cfg.trays k.tray k.span, trayBarred s x = false) ∧
    (s.line.queue.countP (·.body.isClaim) < t.line.queue.countP (·.body.isClaim) ∨
        s.line.queue.countP (·.body.isHold) < t.line.queue.countP (·.body.isHold) →
      (∃ home load confirm last, c = .trayEdgeEvent home load confirm last) ∧
      t.tracker.tracking = .locked ∧ (s.station.mode = .running ∨ s.station.mode = .holding))
end

