-- ==== Sys2Proof/Laws/Check.lean ====
section
/-! SUPPORT. The check of R63 is linear over bitwise sum, and a frame with the check field that its sender
computes passes it. -/

namespace Sys2Proof.Machine

theorem shiftLeft_or_bit {w : Nat} (x : BitVec w) (b : Bool) :
    (x <<< 1) ||| BitVec.ofNat w b.toNat = (x <<< 1) ^^^ BitVec.ofNat w b.toNat := by
  ext i hi
  cases b
  · simp
  · rcases i with _ | i
    · simp
    · have : (1#w)[i + 1] = false := by
        simp [BitVec.getElem_eq_testBit_toNat, Nat.testBit_succ]
        rw [Nat.mod_eq_of_lt (Nat.one_lt_two_pow (by omega))]
        simp
      simp [this]

theorem divStep_xor {w : Nat} (poly r q : BitVec w) (a b : Bool) :
    divStep poly (r ^^^ q) (a ^^ b) = divStep poly r a ^^^ divStep poly q b := by
  have h2 : BitVec.ofNat w (a ^^ b).toNat = BitVec.ofNat w a.toNat ^^^ BitVec.ofNat w b.toNat := by
    cases a <;> cases b <;> simp
  unfold divStep
  rw [shiftLeft_or_bit, shiftLeft_or_bit, shiftLeft_or_bit, h2, BitVec.shiftLeft_xor_distrib, BitVec.msb_xor]
  have h3 : ∀ x y : BitVec w, (x ^^^ poly) ^^^ (y ^^^ poly) = x ^^^ y := fun x y => by
    rw [show (x ^^^ poly) ^^^ (y ^^^ poly) = (x ^^^ y) ^^^ (poly ^^^ poly) by ac_rfl]
    simp
  cases r.msb <;> cases q.msb <;> simp only [Bool.xor_false, Bool.xor_true, Bool.not_true, Bool.not_false,
    if_true, Bool.false_eq_true, if_false, h3] <;> ac_rfl

/-- A remainder from a starting value and bits is the sum of the starting value's and the bits'. -/
theorem foldl_divStep_xor {w : Nat} (poly : BitVec w) (r q : BitVec w) (as bs : Bits) (h : as.length = bs.length) :
    (List.zipWith xor as bs).foldl (divStep poly) (r ^^^ q) =
      as.foldl (divStep poly) r ^^^ bs.foldl (divStep poly) q := by
  induction as generalizing bs r q with
  | nil => cases bs <;> simp_all
  | cons a as ih =>
    cases bs with
    | nil => simp at h
    | cons b bs =>
      simp only [List.zipWith_cons_cons, List.foldl_cons, divStep_xor]
      exact ih _ _ bs (by simpa using h)

theorem foldl_divStep_replicate {w : Nat} (poly r : BitVec w) (bs : Bits) :
    bs.foldl (divStep poly) r =
      (List.replicate bs.length false).foldl (divStep poly) r ^^^ remainder poly bs := by
  have h : List.zipWith xor (List.replicate bs.length false) bs = bs := by
    apply List.ext_getElem <;> simp
  have := foldl_divStep_xor poly r 0#w (List.replicate bs.length false) bs (by simp)
  rwa [BitVec.xor_zero, h] at this

/-- The eight bits of a value leave that value (R63). -/
theorem remainder_natBits (r : BitVec 8) : remainder crc8Poly (natBits 8 r.toNat) = r := by
  revert r; decide

/-- A frame with the check field that its sender computes passes the check (R63). -/
theorem checkPasses_checkField (bits : Bits) : checkPasses (bits ++ checkField bits) = true := by
  have h : (checkField bits).length = 8 := rfl
  simp only [checkPasses, beq_iff_eq, remainder, List.foldl_append]
  rw [foldl_divStep_replicate, h, ← List.foldl_append, ← remainder, checkField, remainder_natBits]
  simp

end Sys2Proof.Machine
end

