-- ==== Sys2Proof/Laws/State.lean ====
section
/-! SUPPORT. For each update of one block of State and each field, what the field is afterwards: true by
rfl and tagged simp, so that no later proof unfolds a record update. -/

namespace Sys2Proof.Machine

@[simp] theorem State.withLane_lane (s : State) (x : Lane) : (s.withLane x).lane = x := rfl
@[simp] theorem State.withLane_scan (s : State) (x : Lane) : (s.withLane x).scan = s.scan := rfl
@[simp] theorem State.withLane_tracker (s : State) (x : Lane) : (s.withLane x).tracker = s.tracker := rfl
@[simp] theorem State.withLane_window (s : State) (x : Lane) : (s.withLane x).window = s.window := rfl
@[simp] theorem State.withLane_share (s : State) (x : Lane) : (s.withLane x).share = s.share := rfl
@[simp] theorem State.withLane_launch (s : State) (x : Lane) : (s.withLane x).launch = s.launch := rfl
@[simp] theorem State.withLane_pace (s : State) (x : Lane) : (s.withLane x).pace = s.pace := rfl
@[simp] theorem State.withLane_line (s : State) (x : Lane) : (s.withLane x).line = s.line := rfl
@[simp] theorem State.withLane_station (s : State) (x : Lane) : (s.withLane x).station = s.station := rfl
@[simp] theorem State.withLane_report (s : State) (x : Lane) : (s.withLane x).report = s.report := rfl
@[simp] theorem State.withLane_loader (s : State) (x : Lane) : (s.withLane x).loader = s.loader := rfl
@[simp] theorem State.withLane_pending (s : State) (x : Lane) : (s.withLane x).pending = s.pending := rfl

@[simp] theorem State.withScan_lane (s : State) (x : Scan) : (s.withScan x).lane = s.lane := rfl
@[simp] theorem State.withScan_scan (s : State) (x : Scan) : (s.withScan x).scan = x := rfl
@[simp] theorem State.withScan_tracker (s : State) (x : Scan) : (s.withScan x).tracker = s.tracker := rfl
@[simp] theorem State.withScan_window (s : State) (x : Scan) : (s.withScan x).window = s.window := rfl
@[simp] theorem State.withScan_share (s : State) (x : Scan) : (s.withScan x).share = s.share := rfl
@[simp] theorem State.withScan_launch (s : State) (x : Scan) : (s.withScan x).launch = s.launch := rfl
@[simp] theorem State.withScan_pace (s : State) (x : Scan) : (s.withScan x).pace = s.pace := rfl
@[simp] theorem State.withScan_line (s : State) (x : Scan) : (s.withScan x).line = s.line := rfl
@[simp] theorem State.withScan_station (s : State) (x : Scan) : (s.withScan x).station = s.station := rfl
@[simp] theorem State.withScan_report (s : State) (x : Scan) : (s.withScan x).report = s.report := rfl
@[simp] theorem State.withScan_loader (s : State) (x : Scan) : (s.withScan x).loader = s.loader := rfl
@[simp] theorem State.withScan_pending (s : State) (x : Scan) : (s.withScan x).pending = s.pending := rfl

@[simp] theorem State.withTracker_lane (s : State) (x : Tracker) : (s.withTracker x).lane = s.lane := rfl
@[simp] theorem State.withTracker_scan (s : State) (x : Tracker) : (s.withTracker x).scan = s.scan := rfl
@[simp] theorem State.withTracker_tracker (s : State) (x : Tracker) : (s.withTracker x).tracker = x := rfl
@[simp] theorem State.withTracker_window (s : State) (x : Tracker) : (s.withTracker x).window = s.window := rfl
@[simp] theorem State.withTracker_share (s : State) (x : Tracker) : (s.withTracker x).share = s.share := rfl
@[simp] theorem State.withTracker_launch (s : State) (x : Tracker) : (s.withTracker x).launch = s.launch := rfl
@[simp] theorem State.withTracker_pace (s : State) (x : Tracker) : (s.withTracker x).pace = s.pace := rfl
@[simp] theorem State.withTracker_line (s : State) (x : Tracker) : (s.withTracker x).line = s.line := rfl
@[simp] theorem State.withTracker_station (s : State) (x : Tracker) : (s.withTracker x).station = s.station := rfl
@[simp] theorem State.withTracker_report (s : State) (x : Tracker) : (s.withTracker x).report = s.report := rfl
@[simp] theorem State.withTracker_loader (s : State) (x : Tracker) : (s.withTracker x).loader = s.loader := rfl
@[simp] theorem State.withTracker_pending (s : State) (x : Tracker) : (s.withTracker x).pending = s.pending := rfl

@[simp] theorem State.withWindow_lane (s : State) (x : Window) : (s.withWindow x).lane = s.lane := rfl
@[simp] theorem State.withWindow_scan (s : State) (x : Window) : (s.withWindow x).scan = s.scan := rfl
@[simp] theorem State.withWindow_tracker (s : State) (x : Window) : (s.withWindow x).tracker = s.tracker := rfl
@[simp] theorem State.withWindow_window (s : State) (x : Window) : (s.withWindow x).window = x := rfl
@[simp] theorem State.withWindow_share (s : State) (x : Window) : (s.withWindow x).share = s.share := rfl
@[simp] theorem State.withWindow_launch (s : State) (x : Window) : (s.withWindow x).launch = s.launch := rfl
@[simp] theorem State.withWindow_pace (s : State) (x : Window) : (s.withWindow x).pace = s.pace := rfl
@[simp] theorem State.withWindow_line (s : State) (x : Window) : (s.withWindow x).line = s.line := rfl
@[simp] theorem State.withWindow_station (s : State) (x : Window) : (s.withWindow x).station = s.station := rfl
@[simp] theorem State.withWindow_report (s : State) (x : Window) : (s.withWindow x).report = s.report := rfl
@[simp] theorem State.withWindow_loader (s : State) (x : Window) : (s.withWindow x).loader = s.loader := rfl
@[simp] theorem State.withWindow_pending (s : State) (x : Window) : (s.withWindow x).pending = s.pending := rfl

@[simp] theorem State.withShare_lane (s : State) (x : Share) : (s.withShare x).lane = s.lane := rfl
@[simp] theorem State.withShare_scan (s : State) (x : Share) : (s.withShare x).scan = s.scan := rfl
@[simp] theorem State.withShare_tracker (s : State) (x : Share) : (s.withShare x).tracker = s.tracker := rfl
@[simp] theorem State.withShare_window (s : State) (x : Share) : (s.withShare x).window = s.window := rfl
@[simp] theorem State.withShare_share (s : State) (x : Share) : (s.withShare x).share = x := rfl
@[simp] theorem State.withShare_launch (s : State) (x : Share) : (s.withShare x).launch = s.launch := rfl
@[simp] theorem State.withShare_pace (s : State) (x : Share) : (s.withShare x).pace = s.pace := rfl
@[simp] theorem State.withShare_line (s : State) (x : Share) : (s.withShare x).line = s.line := rfl
@[simp] theorem State.withShare_station (s : State) (x : Share) : (s.withShare x).station = s.station := rfl
@[simp] theorem State.withShare_report (s : State) (x : Share) : (s.withShare x).report = s.report := rfl
@[simp] theorem State.withShare_loader (s : State) (x : Share) : (s.withShare x).loader = s.loader := rfl
@[simp] theorem State.withShare_pending (s : State) (x : Share) : (s.withShare x).pending = s.pending := rfl

@[simp] theorem State.withLaunch_lane (s : State) (x : Launch) : (s.withLaunch x).lane = s.lane := rfl
@[simp] theorem State.withLaunch_scan (s : State) (x : Launch) : (s.withLaunch x).scan = s.scan := rfl
@[simp] theorem State.withLaunch_tracker (s : State) (x : Launch) : (s.withLaunch x).tracker = s.tracker := rfl
@[simp] theorem State.withLaunch_window (s : State) (x : Launch) : (s.withLaunch x).window = s.window := rfl
@[simp] theorem State.withLaunch_share (s : State) (x : Launch) : (s.withLaunch x).share = s.share := rfl
@[simp] theorem State.withLaunch_launch (s : State) (x : Launch) : (s.withLaunch x).launch = x := rfl
@[simp] theorem State.withLaunch_pace (s : State) (x : Launch) : (s.withLaunch x).pace = s.pace := rfl
@[simp] theorem State.withLaunch_line (s : State) (x : Launch) : (s.withLaunch x).line = s.line := rfl
@[simp] theorem State.withLaunch_station (s : State) (x : Launch) : (s.withLaunch x).station = s.station := rfl
@[simp] theorem State.withLaunch_report (s : State) (x : Launch) : (s.withLaunch x).report = s.report := rfl
@[simp] theorem State.withLaunch_loader (s : State) (x : Launch) : (s.withLaunch x).loader = s.loader := rfl
@[simp] theorem State.withLaunch_pending (s : State) (x : Launch) : (s.withLaunch x).pending = s.pending := rfl

@[simp] theorem State.withPace_lane (s : State) (x : Pace) : (s.withPace x).lane = s.lane := rfl
@[simp] theorem State.withPace_scan (s : State) (x : Pace) : (s.withPace x).scan = s.scan := rfl
@[simp] theorem State.withPace_tracker (s : State) (x : Pace) : (s.withPace x).tracker = s.tracker := rfl
@[simp] theorem State.withPace_window (s : State) (x : Pace) : (s.withPace x).window = s.window := rfl
@[simp] theorem State.withPace_share (s : State) (x : Pace) : (s.withPace x).share = s.share := rfl
@[simp] theorem State.withPace_launch (s : State) (x : Pace) : (s.withPace x).launch = s.launch := rfl
@[simp] theorem State.withPace_pace (s : State) (x : Pace) : (s.withPace x).pace = x := rfl
@[simp] theorem State.withPace_line (s : State) (x : Pace) : (s.withPace x).line = s.line := rfl
@[simp] theorem State.withPace_station (s : State) (x : Pace) : (s.withPace x).station = s.station := rfl
@[simp] theorem State.withPace_report (s : State) (x : Pace) : (s.withPace x).report = s.report := rfl
@[simp] theorem State.withPace_loader (s : State) (x : Pace) : (s.withPace x).loader = s.loader := rfl
@[simp] theorem State.withPace_pending (s : State) (x : Pace) : (s.withPace x).pending = s.pending := rfl

@[simp] theorem State.withLine_lane (s : State) (x : Line) : (s.withLine x).lane = s.lane := rfl
@[simp] theorem State.withLine_scan (s : State) (x : Line) : (s.withLine x).scan = s.scan := rfl
@[simp] theorem State.withLine_tracker (s : State) (x : Line) : (s.withLine x).tracker = s.tracker := rfl
@[simp] theorem State.withLine_window (s : State) (x : Line) : (s.withLine x).window = s.window := rfl
@[simp] theorem State.withLine_share (s : State) (x : Line) : (s.withLine x).share = s.share := rfl
@[simp] theorem State.withLine_launch (s : State) (x : Line) : (s.withLine x).launch = s.launch := rfl
@[simp] theorem State.withLine_pace (s : State) (x : Line) : (s.withLine x).pace = s.pace := rfl
@[simp] theorem State.withLine_line (s : State) (x : Line) : (s.withLine x).line = x := rfl
@[simp] theorem State.withLine_station (s : State) (x : Line) : (s.withLine x).station = s.station := rfl
@[simp] theorem State.withLine_report (s : State) (x : Line) : (s.withLine x).report = s.report := rfl
@[simp] theorem State.withLine_loader (s : State) (x : Line) : (s.withLine x).loader = s.loader := rfl
@[simp] theorem State.withLine_pending (s : State) (x : Line) : (s.withLine x).pending = s.pending := rfl

@[simp] theorem State.withStation_lane (s : State) (x : Station) : (s.withStation x).lane = s.lane := rfl
@[simp] theorem State.withStation_scan (s : State) (x : Station) : (s.withStation x).scan = s.scan := rfl
@[simp] theorem State.withStation_tracker (s : State) (x : Station) : (s.withStation x).tracker = s.tracker := rfl
@[simp] theorem State.withStation_window (s : State) (x : Station) : (s.withStation x).window = s.window := rfl
@[simp] theorem State.withStation_share (s : State) (x : Station) : (s.withStation x).share = s.share := rfl
@[simp] theorem State.withStation_launch (s : State) (x : Station) : (s.withStation x).launch = s.launch := rfl
@[simp] theorem State.withStation_pace (s : State) (x : Station) : (s.withStation x).pace = s.pace := rfl
@[simp] theorem State.withStation_line (s : State) (x : Station) : (s.withStation x).line = s.line := rfl
@[simp] theorem State.withStation_station (s : State) (x : Station) : (s.withStation x).station = x := rfl
@[simp] theorem State.withStation_report (s : State) (x : Station) : (s.withStation x).report = s.report := rfl
@[simp] theorem State.withStation_loader (s : State) (x : Station) : (s.withStation x).loader = s.loader := rfl
@[simp] theorem State.withStation_pending (s : State) (x : Station) : (s.withStation x).pending = s.pending := rfl

@[simp] theorem State.withReport_lane (s : State) (x : Report) : (s.withReport x).lane = s.lane := rfl
@[simp] theorem State.withReport_scan (s : State) (x : Report) : (s.withReport x).scan = s.scan := rfl
@[simp] theorem State.withReport_tracker (s : State) (x : Report) : (s.withReport x).tracker = s.tracker := rfl
@[simp] theorem State.withReport_window (s : State) (x : Report) : (s.withReport x).window = s.window := rfl
@[simp] theorem State.withReport_share (s : State) (x : Report) : (s.withReport x).share = s.share := rfl
@[simp] theorem State.withReport_launch (s : State) (x : Report) : (s.withReport x).launch = s.launch := rfl
@[simp] theorem State.withReport_pace (s : State) (x : Report) : (s.withReport x).pace = s.pace := rfl
@[simp] theorem State.withReport_line (s : State) (x : Report) : (s.withReport x).line = s.line := rfl
@[simp] theorem State.withReport_station (s : State) (x : Report) : (s.withReport x).station = s.station := rfl
@[simp] theorem State.withReport_report (s : State) (x : Report) : (s.withReport x).report = x := rfl
@[simp] theorem State.withReport_loader (s : State) (x : Report) : (s.withReport x).loader = s.loader := rfl
@[simp] theorem State.withReport_pending (s : State) (x : Report) : (s.withReport x).pending = s.pending := rfl

@[simp] theorem State.withLoader_lane (s : State) (x : Loader) : (s.withLoader x).lane = s.lane := rfl
@[simp] theorem State.withLoader_scan (s : State) (x : Loader) : (s.withLoader x).scan = s.scan := rfl
@[simp] theorem State.withLoader_tracker (s : State) (x : Loader) : (s.withLoader x).tracker = s.tracker := rfl
@[simp] theorem State.withLoader_window (s : State) (x : Loader) : (s.withLoader x).window = s.window := rfl
@[simp] theorem State.withLoader_share (s : State) (x : Loader) : (s.withLoader x).share = s.share := rfl
@[simp] theorem State.withLoader_launch (s : State) (x : Loader) : (s.withLoader x).launch = s.launch := rfl
@[simp] theorem State.withLoader_pace (s : State) (x : Loader) : (s.withLoader x).pace = s.pace := rfl
@[simp] theorem State.withLoader_line (s : State) (x : Loader) : (s.withLoader x).line = s.line := rfl
@[simp] theorem State.withLoader_station (s : State) (x : Loader) : (s.withLoader x).station = s.station := rfl
@[simp] theorem State.withLoader_report (s : State) (x : Loader) : (s.withLoader x).report = s.report := rfl
@[simp] theorem State.withLoader_loader (s : State) (x : Loader) : (s.withLoader x).loader = x := rfl
@[simp] theorem State.withLoader_pending (s : State) (x : Loader) : (s.withLoader x).pending = s.pending := rfl

@[simp] theorem State.withPending_lane (s : State) (x : List Instr) : (s.withPending x).lane = s.lane := rfl
@[simp] theorem State.withPending_scan (s : State) (x : List Instr) : (s.withPending x).scan = s.scan := rfl
@[simp] theorem State.withPending_tracker (s : State) (x : List Instr) : (s.withPending x).tracker = s.tracker := rfl
@[simp] theorem State.withPending_window (s : State) (x : List Instr) : (s.withPending x).window = s.window := rfl
@[simp] theorem State.withPending_share (s : State) (x : List Instr) : (s.withPending x).share = s.share := rfl
@[simp] theorem State.withPending_launch (s : State) (x : List Instr) : (s.withPending x).launch = s.launch := rfl
@[simp] theorem State.withPending_pace (s : State) (x : List Instr) : (s.withPending x).pace = s.pace := rfl
@[simp] theorem State.withPending_line (s : State) (x : List Instr) : (s.withPending x).line = s.line := rfl
@[simp] theorem State.withPending_station (s : State) (x : List Instr) : (s.withPending x).station = s.station := rfl
@[simp] theorem State.withPending_report (s : State) (x : List Instr) : (s.withPending x).report = s.report := rfl
@[simp] theorem State.withPending_loader (s : State) (x : List Instr) : (s.withPending x).loader = s.loader := rfl
@[simp] theorem State.withPending_pending (s : State) (x : List Instr) : (s.withPending x).pending = x := rfl

@[simp] theorem State.withLane_withLane (s : State) (x y : Lane) : (s.withLane x).withLane y = s.withLane y := rfl
@[simp] theorem State.withLane_self (s : State) : s.withLane s.lane = s := rfl
@[simp] theorem State.withScan_withScan (s : State) (x y : Scan) : (s.withScan x).withScan y = s.withScan y := rfl
@[simp] theorem State.withScan_self (s : State) : s.withScan s.scan = s := rfl
@[simp] theorem State.withTracker_withTracker (s : State) (x y : Tracker) : (s.withTracker x).withTracker y = s.withTracker y := rfl
@[simp] theorem State.withTracker_self (s : State) : s.withTracker s.tracker = s := rfl
@[simp] theorem State.withWindow_withWindow (s : State) (x y : Window) : (s.withWindow x).withWindow y = s.withWindow y := rfl
@[simp] theorem State.withWindow_self (s : State) : s.withWindow s.window = s := rfl
@[simp] theorem State.withShare_withShare (s : State) (x y : Share) : (s.withShare x).withShare y = s.withShare y := rfl
@[simp] theorem State.withShare_self (s : State) : s.withShare s.share = s := rfl
@[simp] theorem State.withLaunch_withLaunch (s : State) (x y : Launch) : (s.withLaunch x).withLaunch y = s.withLaunch y := rfl
@[simp] theorem State.withLaunch_self (s : State) : s.withLaunch s.launch = s := rfl
@[simp] theorem State.withPace_withPace (s : State) (x y : Pace) : (s.withPace x).withPace y = s.withPace y := rfl
@[simp] theorem State.withPace_self (s : State) : s.withPace s.pace = s := rfl
@[simp] theorem State.withLine_withLine (s : State) (x y : Line) : (s.withLine x).withLine y = s.withLine y := rfl
@[simp] theorem State.withLine_self (s : State) : s.withLine s.line = s := rfl
@[simp] theorem State.withStation_withStation (s : State) (x y : Station) : (s.withStation x).withStation y = s.withStation y := rfl
@[simp] theorem State.withStation_self (s : State) : s.withStation s.station = s := rfl
@[simp] theorem State.withReport_withReport (s : State) (x y : Report) : (s.withReport x).withReport y = s.withReport y := rfl
@[simp] theorem State.withReport_self (s : State) : s.withReport s.report = s := rfl
@[simp] theorem State.withLoader_withLoader (s : State) (x y : Loader) : (s.withLoader x).withLoader y = s.withLoader y := rfl
@[simp] theorem State.withLoader_self (s : State) : s.withLoader s.loader = s := rfl
@[simp] theorem State.withPending_withPending (s : State) (x y : List Instr) : (s.withPending x).withPending y = s.withPending y := rfl
@[simp] theorem State.withPending_self (s : State) : s.withPending s.pending = s := rfl

end Sys2Proof.Machine
end

