-- ==== Sys2Proof/Laws/Frame.lean ====
section
/-! SUPPORT. Frames: for each shared operation one lemma that lists the blocks of State which it leaves as they
are. Tagged simp, so that no proof unfolds an operation to see what it does not touch. -/

namespace Sys2Proof.Machine

@[simp] theorem State.withLane_cfg (s : State) (x : Lane) : (s.withLane x).cfg = s.cfg := rfl
@[simp] theorem State.withScan_cfg (s : State) (x : Scan) : (s.withScan x).cfg = s.cfg := rfl
@[simp] theorem State.withTracker_cfg (s : State) (x : Tracker) : (s.withTracker x).cfg = s.cfg := rfl
@[simp] theorem State.withWindow_cfg (s : State) (x : Window) : (s.withWindow x).cfg = s.cfg := rfl
@[simp] theorem State.withShare_cfg (s : State) (x : Share) : (s.withShare x).cfg = s.cfg := rfl
@[simp] theorem State.withLaunch_cfg (s : State) (x : Launch) : (s.withLaunch x).cfg = s.cfg := rfl
@[simp] theorem State.withPace_cfg (s : State) (x : Pace) : (s.withPace x).cfg = s.cfg := rfl
@[simp] theorem State.withLine_cfg (s : State) (x : Line) : (s.withLine x).cfg = s.cfg := rfl
@[simp] theorem State.withStation_cfg (s : State) (x : Station) : (s.withStation x).cfg = s.cfg := rfl
@[simp] theorem State.withReport_cfg (s : State) (x : Report) : (s.withReport x).cfg = s.cfg := rfl
@[simp] theorem State.withPending_cfg (s : State) (x : List Instr) : (s.withPending x).cfg = s.cfg := rfl

theorem foldl_lane {α : Type} (f : State → α → State) (h : ∀ s x, (f s x).lane = s.lane) (l : List α)
    (s : State) : (l.foldl f s).lane = s.lane := by
  induction l generalizing s with
  | nil => rfl
  | cons x xs ih => simp [ih, h]

theorem foldl_scan {α : Type} (f : State → α → State) (h : ∀ s x, (f s x).scan = s.scan) (l : List α)
    (s : State) : (l.foldl f s).scan = s.scan := by
  induction l generalizing s with
  | nil => rfl
  | cons x xs ih => simp [ih, h]

theorem foldl_tracker {α : Type} (f : State → α → State) (h : ∀ s x,
      (f s x).tracker = s.tracker) (l : List α)
    (s : State) : (l.foldl f s).tracker = s.tracker := by
  induction l generalizing s with
  | nil => rfl
  | cons x xs ih => simp [ih, h]

theorem foldl_window {α : Type} (f : State → α → State) (h : ∀ s x, (f s x).window = s.window) (l : List α)
    (s : State) : (l.foldl f s).window = s.window := by
  induction l generalizing s with
  | nil => rfl
  | cons x xs ih => simp [ih, h]

theorem foldl_share {α : Type} (f : State → α → State) (h : ∀ s x, (f s x).share = s.share) (l : List α)
    (s : State) : (l.foldl f s).share = s.share := by
  induction l generalizing s with
  | nil => rfl
  | cons x xs ih => simp [ih, h]

theorem foldl_launch {α : Type} (f : State → α → State) (h : ∀ s x, (f s x).launch = s.launch) (l : List α)
    (s : State) : (l.foldl f s).launch = s.launch := by
  induction l generalizing s with
  | nil => rfl
  | cons x xs ih => simp [ih, h]

theorem foldl_pace {α : Type} (f : State → α → State) (h : ∀ s x, (f s x).pace = s.pace) (l : List α)
    (s : State) : (l.foldl f s).pace = s.pace := by
  induction l generalizing s with
  | nil => rfl
  | cons x xs ih => simp [ih, h]

theorem foldl_line {α : Type} (f : State → α → State) (h : ∀ s x, (f s x).line = s.line) (l : List α)
    (s : State) : (l.foldl f s).line = s.line := by
  induction l generalizing s with
  | nil => rfl
  | cons x xs ih => simp [ih, h]

theorem foldl_station {α : Type} (f : State → α → State) (h : ∀ s x,
      (f s x).station = s.station) (l : List α)
    (s : State) : (l.foldl f s).station = s.station := by
  induction l generalizing s with
  | nil => rfl
  | cons x xs ih => simp [ih, h]

theorem foldl_report {α : Type} (f : State → α → State) (h : ∀ s x, (f s x).report = s.report) (l : List α)
    (s : State) : (l.foldl f s).report = s.report := by
  induction l generalizing s with
  | nil => rfl
  | cons x xs ih => simp [ih, h]

theorem foldl_loader {α : Type} (f : State → α → State) (h : ∀ s x, (f s x).loader = s.loader) (l : List α)
    (s : State) : (l.foldl f s).loader = s.loader := by
  induction l generalizing s with
  | nil => rfl
  | cons x xs ih => simp [ih, h]

theorem foldl_pending {α : Type} (f : State → α → State) (h : ∀ s x,
      (f s x).pending = s.pending) (l : List α)
    (s : State) : (l.foldl f s).pending = s.pending := by
  induction l generalizing s with
  | nil => rfl
  | cons x xs ih => simp [ih, h]

theorem foldl_cfg {α : Type} (f : State → α → State) (h : ∀ s x, (f s x).cfg = s.cfg) (l : List α)
    (s : State) : (l.foldl f s).cfg = s.cfg := by
  induction l generalizing s with
  | nil => rfl
  | cons x xs ih => simp [ih, h]

@[simp] theorem setFlag_frame (f : Flag) (s : State) :
    (setFlag f s).lane = s.lane ∧ (setFlag f s).scan = s.scan ∧ (setFlag f s).tracker = s.tracker ∧
    (setFlag f s).window = s.window ∧ (setFlag f s).share = s.share ∧ (setFlag f s).launch = s.launch ∧
    (setFlag f s).pace = s.pace ∧ (setFlag f s).line = s.line ∧ (setFlag f s).station = s.station ∧
    (setFlag f s).loader = s.loader ∧ (setFlag f s).pending = s.pending ∧ (setFlag f s).cfg = s.cfg := by
  refine ⟨?_, ?_, ?_, ?_, ?_, ?_, ?_, ?_, ?_, ?_, ?_, ?_⟩ <;>
    unfold setFlag <;> (try dsimp only) <;> simp

@[simp] theorem clearFlag_frame (f : Flag) (s : State) :
    (clearFlag f s).lane = s.lane ∧ (clearFlag f s).scan = s.scan ∧ (clearFlag f s).tracker = s.tracker ∧
    (clearFlag f s).window = s.window ∧ (clearFlag f s).share = s.share ∧
    (clearFlag f s).launch = s.launch ∧ (clearFlag f s).pace = s.pace ∧ (clearFlag f s).line = s.line ∧
    (clearFlag f s).station = s.station ∧ (clearFlag f s).loader = s.loader ∧
    (clearFlag f s).pending = s.pending ∧ (clearFlag f s).cfg = s.cfg := by
  refine ⟨?_, ?_, ?_, ?_, ?_, ?_, ?_, ?_, ?_, ?_, ?_, ?_⟩ <;>
    unfold clearFlag <;> (try dsimp only) <;> simp

@[simp] theorem raise_frame (c : Counter) (s : State) :
    (raise c s).lane = s.lane ∧ (raise c s).scan = s.scan ∧ (raise c s).tracker = s.tracker ∧
    (raise c s).window = s.window ∧ (raise c s).share = s.share ∧ (raise c s).launch = s.launch ∧
    (raise c s).pace = s.pace ∧ (raise c s).line = s.line ∧ (raise c s).station = s.station ∧
    (raise c s).loader = s.loader ∧ (raise c s).pending = s.pending ∧ (raise c s).cfg = s.cfg := by
  refine ⟨?_, ?_, ?_, ?_, ?_, ?_, ?_, ?_, ?_, ?_, ?_, ?_⟩ <;>
    unfold raise <;> (try dsimp only) <;> simp

@[simp] theorem clearFlags_frame (s : State) :
    (clearFlags s).lane = s.lane ∧ (clearFlags s).scan = s.scan ∧ (clearFlags s).tracker = s.tracker ∧
    (clearFlags s).window = s.window ∧ (clearFlags s).share = s.share ∧ (clearFlags s).launch = s.launch ∧
    (clearFlags s).pace = s.pace ∧ (clearFlags s).line = s.line ∧ (clearFlags s).station = s.station ∧
    (clearFlags s).loader = s.loader ∧ (clearFlags s).pending = s.pending ∧ (clearFlags s).cfg = s.cfg := by
  refine ⟨?_, ?_, ?_, ?_, ?_, ?_, ?_, ?_, ?_, ?_, ?_, ?_⟩ <;>
    unfold clearFlags <;> (try dsimp only) <;> simp

@[simp] theorem withQueue_frame (s : State) (q : List Parcel) :
    (withQueue s q).scan = s.scan ∧ (withQueue s q).tracker = s.tracker ∧
    (withQueue s q).window = s.window ∧ (withQueue s q).share = s.share ∧
    (withQueue s q).launch = s.launch ∧ (withQueue s q).pace = s.pace ∧ (withQueue s q).line = s.line ∧
    (withQueue s q).station = s.station ∧ (withQueue s q).report = s.report ∧
    (withQueue s q).loader = s.loader ∧ (withQueue s q).pending = s.pending ∧ (withQueue s q).cfg = s.cfg := by
  refine ⟨?_, ?_, ?_, ?_, ?_, ?_, ?_, ?_, ?_, ?_, ?_, ?_⟩ <;>
    unfold withQueue <;> (try dsimp only) <;> simp

@[simp] theorem updateRecord_frame (among : Phase → Bool) (n : SeqNo) (f : Parcel → Parcel) (s : State) :
    (updateRecord among n f s).scan = s.scan ∧ (updateRecord among n f s).tracker = s.tracker ∧
    (updateRecord among n f s).window = s.window ∧ (updateRecord among n f s).share = s.share ∧
    (updateRecord among n f s).launch = s.launch ∧ (updateRecord among n f s).pace = s.pace ∧
    (updateRecord among n f s).line = s.line ∧ (updateRecord among n f s).station = s.station ∧
    (updateRecord among n f s).report = s.report ∧ (updateRecord among n f s).loader = s.loader ∧
    (updateRecord among n f s).pending = s.pending ∧ (updateRecord among n f s).cfg = s.cfg := by
  refine ⟨?_, ?_, ?_, ?_, ?_, ?_, ?_, ?_, ?_, ?_, ?_, ?_⟩ <;>
    unfold updateRecord <;> simp

@[simp] theorem deleteRecord_frame (among : Phase → Bool) (n : SeqNo) (s : State) :
    (deleteRecord among n s).scan = s.scan ∧ (deleteRecord among n s).tracker = s.tracker ∧
    (deleteRecord among n s).window = s.window ∧ (deleteRecord among n s).share = s.share ∧
    (deleteRecord among n s).launch = s.launch ∧ (deleteRecord among n s).pace = s.pace ∧
    (deleteRecord among n s).line = s.line ∧ (deleteRecord among n s).station = s.station ∧
    (deleteRecord among n s).report = s.report ∧ (deleteRecord among n s).loader = s.loader ∧
    (deleteRecord among n s).pending = s.pending ∧ (deleteRecord among n s).cfg = s.cfg := by
  refine ⟨?_, ?_, ?_, ?_, ?_, ?_, ?_, ?_, ?_, ?_, ?_, ?_⟩ <;>
    unfold deleteRecord <;> simp

@[simp] theorem acceptWaiting_frame (s : State) :
    (acceptWaiting s).scan = s.scan ∧ (acceptWaiting s).tracker = s.tracker ∧
    (acceptWaiting s).window = s.window ∧ (acceptWaiting s).share = s.share ∧
    (acceptWaiting s).launch = s.launch ∧ (acceptWaiting s).pace = s.pace ∧
    (acceptWaiting s).line = s.line ∧ (acceptWaiting s).station = s.station ∧
    (acceptWaiting s).report = s.report ∧ (acceptWaiting s).loader = s.loader ∧
    (acceptWaiting s).pending = s.pending ∧ (acceptWaiting s).cfg = s.cfg := by
  refine ⟨?_, ?_, ?_, ?_, ?_, ?_, ?_, ?_, ?_, ?_, ?_, ?_⟩ <;>
    unfold acceptWaiting <;> (repeat' split) <;> simp

@[simp] theorem updateStall_frame (s : State) :
    (updateStall s).scan = s.scan ∧ (updateStall s).tracker = s.tracker ∧
    (updateStall s).window = s.window ∧ (updateStall s).share = s.share ∧
    (updateStall s).launch = s.launch ∧ (updateStall s).pace = s.pace ∧ (updateStall s).line = s.line ∧
    (updateStall s).station = s.station ∧ (updateStall s).report = s.report ∧
    (updateStall s).loader = s.loader ∧ (updateStall s).pending = s.pending ∧ (updateStall s).cfg = s.cfg := by
  refine ⟨?_, ?_, ?_, ?_, ?_, ?_, ?_, ?_, ?_, ?_, ?_, ?_⟩ <;>
    unfold updateStall <;> (try dsimp only) <;> simp

@[simp] theorem settleLane_frame (s : State) :
    (settleLane s).scan = s.scan ∧ (settleLane s).tracker = s.tracker ∧ (settleLane s).window = s.window ∧
    (settleLane s).share = s.share ∧ (settleLane s).launch = s.launch ∧ (settleLane s).pace = s.pace ∧
    (settleLane s).line = s.line ∧ (settleLane s).station = s.station ∧ (settleLane s).report = s.report ∧
    (settleLane s).loader = s.loader ∧ (settleLane s).pending = s.pending ∧ (settleLane s).cfg = s.cfg := by
  refine ⟨?_, ?_, ?_, ?_, ?_, ?_, ?_, ?_, ?_, ?_, ?_, ?_⟩ <;>
    unfold settleLane <;> simp

@[simp] theorem restartStall_frame (z : Zone) (s : State) :
    (restartStall z s).scan = s.scan ∧ (restartStall z s).tracker = s.tracker ∧
    (restartStall z s).window = s.window ∧ (restartStall z s).share = s.share ∧
    (restartStall z s).launch = s.launch ∧ (restartStall z s).pace = s.pace ∧
    (restartStall z s).line = s.line ∧ (restartStall z s).station = s.station ∧
    (restartStall z s).report = s.report ∧ (restartStall z s).loader = s.loader ∧
    (restartStall z s).pending = s.pending ∧ (restartStall z s).cfg = s.cfg := by
  refine ⟨?_, ?_, ?_, ?_, ?_, ?_, ?_, ?_, ?_, ?_, ?_, ?_⟩ <;>
    unfold restartStall <;> (try dsimp only) <;> simp

@[simp] theorem withTxQueue_frame (s : State) (q : List TxFrame) :
    (withTxQueue s q).lane = s.lane ∧ (withTxQueue s q).scan = s.scan ∧
    (withTxQueue s q).tracker = s.tracker ∧ (withTxQueue s q).window = s.window ∧
    (withTxQueue s q).share = s.share ∧ (withTxQueue s q).launch = s.launch ∧
    (withTxQueue s q).pace = s.pace ∧ (withTxQueue s q).station = s.station ∧
    (withTxQueue s q).report = s.report ∧ (withTxQueue s q).loader = s.loader ∧
    (withTxQueue s q).pending = s.pending ∧ (withTxQueue s q).cfg = s.cfg := by
  refine ⟨?_, ?_, ?_, ?_, ?_, ?_, ?_, ?_, ?_, ?_, ?_, ?_⟩ <;>
    unfold withTxQueue <;> (try dsimp only) <;> simp

@[simp] theorem enqueue_frame (body : TxBody) (s : State) :
    (enqueue body s).lane = s.lane ∧ (enqueue body s).scan = s.scan ∧ (enqueue body s).tracker = s.tracker ∧
    (enqueue body s).window = s.window ∧ (enqueue body s).share = s.share ∧ (enqueue body s).launch = s.launch ∧
    (enqueue body s).pace = s.pace ∧ (enqueue body s).station = s.station ∧ (enqueue body s).report = s.report ∧
    (enqueue body s).loader = s.loader ∧ (enqueue body s).pending = s.pending ∧ (enqueue body s).cfg = s.cfg := by
  refine ⟨?_, ?_, ?_, ?_, ?_, ?_, ?_, ?_, ?_, ?_, ?_, ?_⟩ <;>
    unfold enqueue <;> simp

@[simp] theorem request_frame (body : TxBody) (s : State) :
    (request body s).lane = s.lane ∧ (request body s).scan = s.scan ∧
    (request body s).tracker = s.tracker ∧ (request body s).window = s.window ∧
    (request body s).share = s.share ∧ (request body s).launch = s.launch ∧
    (request body s).pace = s.pace ∧ (request body s).station = s.station ∧
    (request body s).report = s.report ∧ (request body s).loader = s.loader ∧
    (request body s).pending = s.pending ∧ (request body s).cfg = s.cfg := by
  refine ⟨?_, ?_, ?_, ?_, ?_, ?_, ?_, ?_, ?_, ?_, ?_, ?_⟩ <;>
    unfold request <;> (repeat' split) <;> simp

@[simp] theorem offerStat_frame (s : State) :
    (offerStat s).lane = s.lane ∧ (offerStat s).scan = s.scan ∧ (offerStat s).tracker = s.tracker ∧
    (offerStat s).window = s.window ∧ (offerStat s).share = s.share ∧ (offerStat s).launch = s.launch ∧
    (offerStat s).pace = s.pace ∧ (offerStat s).station = s.station ∧ (offerStat s).report = s.report ∧
    (offerStat s).loader = s.loader ∧ (offerStat s).pending = s.pending ∧ (offerStat s).cfg = s.cfg := by
  refine ⟨?_, ?_, ?_, ?_, ?_, ?_, ?_, ?_, ?_, ?_, ?_, ?_⟩ <;>
    unfold offerStat <;> (repeat' split) <;> simp

@[simp] theorem dropHeld_frame (t : Tray) (s : State) :
    (dropHeld t s).lane = s.lane ∧ (dropHeld t s).scan = s.scan ∧ (dropHeld t s).tracker = s.tracker ∧
    (dropHeld t s).window = s.window ∧ (dropHeld t s).launch = s.launch ∧ (dropHeld t s).pace = s.pace ∧
    (dropHeld t s).line = s.line ∧ (dropHeld t s).station = s.station ∧ (dropHeld t s).report = s.report ∧
    (dropHeld t s).loader = s.loader ∧ (dropHeld t s).pending = s.pending ∧ (dropHeld t s).cfg = s.cfg := by
  refine ⟨?_, ?_, ?_, ?_, ?_, ?_, ?_, ?_, ?_, ?_, ?_, ?_⟩ <;>
    unfold dropHeld <;> (try dsimp only) <;> simp

@[simp] theorem offerVacate_frame (t : Tray) (span : Span) (s : State) :
    (offerVacate t span s).lane = s.lane ∧ (offerVacate t span s).scan = s.scan ∧
    (offerVacate t span s).tracker = s.tracker ∧ (offerVacate t span s).window = s.window ∧
    (offerVacate t span s).launch = s.launch ∧ (offerVacate t span s).pace = s.pace ∧
    (offerVacate t span s).station = s.station ∧ (offerVacate t span s).report = s.report ∧
    (offerVacate t span s).loader = s.loader ∧ (offerVacate t span s).pending = s.pending ∧
    (offerVacate t span s).cfg = s.cfg := by
  refine ⟨?_, ?_, ?_, ?_, ?_, ?_, ?_, ?_, ?_, ?_, ?_⟩ <;>
    unfold offerVacate <;> (repeat' split) <;> simp

@[simp] theorem askRemoval_frame (p : TxBody → Bool) (s : State) :
    (askRemoval p s).lane = s.lane ∧ (askRemoval p s).scan = s.scan ∧
    (askRemoval p s).tracker = s.tracker ∧ (askRemoval p s).window = s.window ∧
    (askRemoval p s).share = s.share ∧ (askRemoval p s).launch = s.launch ∧
    (askRemoval p s).pace = s.pace ∧ (askRemoval p s).station = s.station ∧
    (askRemoval p s).report = s.report ∧ (askRemoval p s).loader = s.loader ∧
    (askRemoval p s).pending = s.pending ∧ (askRemoval p s).cfg = s.cfg := by
  refine ⟨?_, ?_, ?_, ?_, ?_, ?_, ?_, ?_, ?_, ?_, ?_, ?_⟩ <;>
    unfold askRemoval <;> simp

@[simp] theorem withEntries_frame (s : State) (es : List Entry) :
    (withEntries s es).lane = s.lane ∧ (withEntries s es).scan = s.scan ∧
    (withEntries s es).tracker = s.tracker ∧ (withEntries s es).share = s.share ∧
    (withEntries s es).launch = s.launch ∧ (withEntries s es).pace = s.pace ∧
    (withEntries s es).line = s.line ∧ (withEntries s es).station = s.station ∧
    (withEntries s es).report = s.report ∧ (withEntries s es).loader = s.loader ∧
    (withEntries s es).pending = s.pending ∧ (withEntries s es).cfg = s.cfg := by
  refine ⟨?_, ?_, ?_, ?_, ?_, ?_, ?_, ?_, ?_, ?_, ?_, ?_⟩ <;>
    unfold withEntries <;> (try dsimp only) <;> simp

@[simp] theorem updateEntry_frame (t : Tray) (f : Entry → Entry) (s : State) :
    (updateEntry t f s).lane = s.lane ∧ (updateEntry t f s).scan = s.scan ∧
    (updateEntry t f s).tracker = s.tracker ∧ (updateEntry t f s).share = s.share ∧
    (updateEntry t f s).launch = s.launch ∧ (updateEntry t f s).pace = s.pace ∧
    (updateEntry t f s).line = s.line ∧ (updateEntry t f s).station = s.station ∧
    (updateEntry t f s).report = s.report ∧ (updateEntry t f s).loader = s.loader ∧
    (updateEntry t f s).pending = s.pending ∧ (updateEntry t f s).cfg = s.cfg := by
  refine ⟨?_, ?_, ?_, ?_, ?_, ?_, ?_, ?_, ?_, ?_, ?_, ?_⟩ <;>
    unfold updateEntry <;> simp

@[simp] theorem setMark_frame (m : OwnMark) (t : Tray) (s : State) :
    (setMark m t s).lane = s.lane ∧ (setMark m t s).scan = s.scan ∧ (setMark m t s).tracker = s.tracker ∧
    (setMark m t s).share = s.share ∧ (setMark m t s).launch = s.launch ∧ (setMark m t s).pace = s.pace ∧
    (setMark m t s).line = s.line ∧ (setMark m t s).station = s.station ∧
    (setMark m t s).report = s.report ∧ (setMark m t s).loader = s.loader ∧
    (setMark m t s).pending = s.pending ∧ (setMark m t s).cfg = s.cfg := by
  refine ⟨?_, ?_, ?_, ?_, ?_, ?_, ?_, ?_, ?_, ?_, ?_, ?_⟩ <;>
    unfold setMark <;> simp

@[simp] theorem setDecided_frame (t : Tray) (s : State) :
    (setDecided t s).lane = s.lane ∧ (setDecided t s).scan = s.scan ∧
    (setDecided t s).tracker = s.tracker ∧ (setDecided t s).share = s.share ∧
    (setDecided t s).launch = s.launch ∧ (setDecided t s).pace = s.pace ∧ (setDecided t s).line = s.line ∧
    (setDecided t s).station = s.station ∧ (setDecided t s).report = s.report ∧
    (setDecided t s).loader = s.loader ∧ (setDecided t s).pending = s.pending ∧
    (setDecided t s).cfg = s.cfg := by
  refine ⟨?_, ?_, ?_, ?_, ?_, ?_, ?_, ?_, ?_, ?_, ?_, ?_⟩ <;>
    unfold setDecided <;> simp

@[simp] theorem setMarks_frame (m : OwnMark) (ts : List Tray) (s : State) :
    (setMarks m ts s).lane = s.lane ∧ (setMarks m ts s).scan = s.scan ∧
    (setMarks m ts s).tracker = s.tracker ∧ (setMarks m ts s).share = s.share ∧
    (setMarks m ts s).launch = s.launch ∧ (setMarks m ts s).pace = s.pace ∧
    (setMarks m ts s).line = s.line ∧ (setMarks m ts s).station = s.station ∧
    (setMarks m ts s).report = s.report ∧ (setMarks m ts s).loader = s.loader ∧
    (setMarks m ts s).pending = s.pending ∧ (setMarks m ts s).cfg = s.cfg := by
  refine ⟨?_, ?_, ?_, ?_, ?_, ?_, ?_, ?_, ?_, ?_, ?_, ?_⟩ <;>
    unfold setMarks <;> simp [*, foldl_lane, foldl_scan,
      foldl_tracker, foldl_share, foldl_launch, foldl_pace, foldl_line, foldl_station, foldl_report,
      foldl_loader, foldl_pending, foldl_cfg]

@[simp] theorem addCredit_frame (n : Nat) (s : State) :
    (addCredit n s).lane = s.lane ∧ (addCredit n s).scan = s.scan ∧ (addCredit n s).tracker = s.tracker ∧
    (addCredit n s).window = s.window ∧ (addCredit n s).launch = s.launch ∧ (addCredit n s).pace = s.pace ∧
    (addCredit n s).line = s.line ∧ (addCredit n s).station = s.station ∧
    (addCredit n s).report = s.report ∧ (addCredit n s).loader = s.loader ∧
    (addCredit n s).pending = s.pending ∧ (addCredit n s).cfg = s.cfg := by
  refine ⟨?_, ?_, ?_, ?_, ?_, ?_, ?_, ?_, ?_, ?_, ?_, ?_⟩ <;>
    unfold addCredit <;> (try dsimp only) <;> simp

@[simp] theorem discardCommitment_frame (c : Commitment) (s : State) :
    (discardCommitment c s).scan = s.scan ∧ (discardCommitment c s).tracker = s.tracker ∧
    (discardCommitment c s).window = s.window ∧ (discardCommitment c s).share = s.share ∧
    (discardCommitment c s).pace = s.pace ∧ (discardCommitment c s).line = s.line ∧
    (discardCommitment c s).station = s.station ∧ (discardCommitment c s).report = s.report ∧
    (discardCommitment c s).loader = s.loader ∧ (discardCommitment c s).pending = s.pending ∧
    (discardCommitment c s).cfg = s.cfg := by
  refine ⟨?_, ?_, ?_, ?_, ?_, ?_, ?_, ?_, ?_, ?_, ?_⟩ <;>
    unfold discardCommitment <;> (try dsimp only) <;> simp

@[simp] theorem leaveRunning_frame (s : State) :
    (leaveRunning s).scan = s.scan ∧ (leaveRunning s).tracker = s.tracker ∧
    (leaveRunning s).window = s.window ∧ (leaveRunning s).share = s.share ∧
    (leaveRunning s).pace = s.pace ∧ (leaveRunning s).station = s.station ∧
    (leaveRunning s).report = s.report ∧ (leaveRunning s).loader = s.loader ∧
    (leaveRunning s).pending = s.pending ∧ (leaveRunning s).cfg = s.cfg := by
  refine ⟨?_, ?_, ?_, ?_, ?_, ?_, ?_, ?_, ?_, ?_⟩ <;>
    unfold leaveRunning <;> (repeat' split) <;> simp

@[simp] theorem dropCommitment_frame (s : State) :
    (dropCommitment s).scan = s.scan ∧ (dropCommitment s).tracker = s.tracker ∧
    (dropCommitment s).window = s.window ∧ (dropCommitment s).pace = s.pace ∧
    (dropCommitment s).station = s.station ∧ (dropCommitment s).report = s.report ∧
    (dropCommitment s).loader = s.loader ∧ (dropCommitment s).pending = s.pending ∧
    (dropCommitment s).cfg = s.cfg := by
  refine ⟨?_, ?_, ?_, ?_, ?_, ?_, ?_, ?_, ?_⟩ <;>
    unfold dropCommitment <;> (repeat' split) <;> simp

@[simp] theorem setMode_frame (m : Mode) (s : State) :
    (setMode m s).lane = s.lane ∧ (setMode m s).scan = s.scan ∧ (setMode m s).tracker = s.tracker ∧
    (setMode m s).window = s.window ∧ (setMode m s).share = s.share ∧ (setMode m s).launch = s.launch ∧
    (setMode m s).pace = s.pace ∧ (setMode m s).report = s.report ∧ (setMode m s).loader = s.loader ∧
    (setMode m s).pending = s.pending ∧ (setMode m s).cfg = s.cfg := by
  refine ⟨?_, ?_, ?_, ?_, ?_, ?_, ?_, ?_, ?_, ?_, ?_⟩ <;>
    unfold setMode <;> (try dsimp only) <;> simp

@[simp] theorem setHolds_frame (h : HoldSet) (s : State) :
    (setHolds h s).lane = s.lane ∧ (setHolds h s).scan = s.scan ∧ (setHolds h s).tracker = s.tracker ∧
    (setHolds h s).window = s.window ∧ (setHolds h s).share = s.share ∧ (setHolds h s).launch = s.launch ∧
    (setHolds h s).pace = s.pace ∧ (setHolds h s).report = s.report ∧ (setHolds h s).loader = s.loader ∧
    (setHolds h s).pending = s.pending ∧ (setHolds h s).cfg = s.cfg := by
  refine ⟨?_, ?_, ?_, ?_, ?_, ?_, ?_, ?_, ?_, ?_, ?_⟩ <;>
    unfold setHolds <;> (try dsimp only) <;> simp

@[simp] theorem addHold_frame (c : HoldCause) (s : State) :
    (addHold c s).scan = s.scan ∧ (addHold c s).tracker = s.tracker ∧ (addHold c s).window = s.window ∧
    (addHold c s).share = s.share ∧ (addHold c s).pace = s.pace ∧ (addHold c s).report = s.report ∧
    (addHold c s).loader = s.loader ∧ (addHold c s).pending = s.pending ∧ (addHold c s).cfg = s.cfg := by
  refine ⟨?_, ?_, ?_, ?_, ?_, ?_, ?_, ?_, ?_⟩ <;>
    unfold addHold <;> (try dsimp only) <;> (repeat' split) <;> simp

@[simp] theorem removeHold_frame (c : HoldCause) (s : State) :
    (removeHold c s).lane = s.lane ∧ (removeHold c s).scan = s.scan ∧
    (removeHold c s).tracker = s.tracker ∧ (removeHold c s).window = s.window ∧
    (removeHold c s).share = s.share ∧ (removeHold c s).launch = s.launch ∧
    (removeHold c s).pace = s.pace ∧ (removeHold c s).report = s.report ∧
    (removeHold c s).loader = s.loader ∧ (removeHold c s).pending = s.pending ∧
    (removeHold c s).cfg = s.cfg := by
  refine ⟨?_, ?_, ?_, ?_, ?_, ?_, ?_, ?_, ?_, ?_, ?_⟩ <;>
    unfold removeHold <;> (try dsimp only) <;> (repeat' split) <;> simp

@[simp] theorem conflictFlight_frame (s : State) :
    (conflictFlight s).scan = s.scan ∧ (conflictFlight s).tracker = s.tracker ∧
    (conflictFlight s).window = s.window ∧ (conflictFlight s).share = s.share ∧
    (conflictFlight s).pace = s.pace ∧ (conflictFlight s).line = s.line ∧
    (conflictFlight s).station = s.station ∧ (conflictFlight s).report = s.report ∧
    (conflictFlight s).loader = s.loader ∧ (conflictFlight s).pending = s.pending ∧
    (conflictFlight s).cfg = s.cfg := by
  refine ⟨?_, ?_, ?_, ?_, ?_, ?_, ?_, ?_, ?_, ?_, ?_⟩ <;>
    unfold conflictFlight <;> (try dsimp only) <;> (repeat' split) <;> simp

@[simp] theorem takeBelts_frame (s : State) :
    (takeBelts s).scan = s.scan ∧ (takeBelts s).tracker = s.tracker ∧ (takeBelts s).window = s.window ∧
    (takeBelts s).share = s.share ∧ (takeBelts s).launch = s.launch ∧ (takeBelts s).pace = s.pace ∧
    (takeBelts s).line = s.line ∧ (takeBelts s).station = s.station ∧ (takeBelts s).report = s.report ∧
    (takeBelts s).loader = s.loader ∧ (takeBelts s).pending = s.pending ∧ (takeBelts s).cfg = s.cfg := by
  refine ⟨?_, ?_, ?_, ?_, ?_, ?_, ?_, ?_, ?_, ?_, ?_, ?_⟩ <;>
    unfold takeBelts <;> (try dsimp only) <;> simp

@[simp] theorem stopStall_frame (s : State) :
    (stopStall s).scan = s.scan ∧ (stopStall s).tracker = s.tracker ∧ (stopStall s).window = s.window ∧
    (stopStall s).share = s.share ∧ (stopStall s).launch = s.launch ∧ (stopStall s).pace = s.pace ∧
    (stopStall s).line = s.line ∧ (stopStall s).station = s.station ∧ (stopStall s).report = s.report ∧
    (stopStall s).loader = s.loader ∧ (stopStall s).pending = s.pending ∧ (stopStall s).cfg = s.cfg := by
  refine ⟨?_, ?_, ?_, ?_, ?_, ?_, ?_, ?_, ?_, ?_, ?_, ?_⟩ <;>
    unfold stopStall <;> (try dsimp only) <;> simp

@[simp] theorem enterFaulted_frame (cause : FaultCause) (s : State) :
    (enterFaulted cause s).scan = s.scan ∧ (enterFaulted cause s).tracker = s.tracker ∧
    (enterFaulted cause s).window = s.window ∧ (enterFaulted cause s).pace = s.pace ∧
    (enterFaulted cause s).report = s.report ∧ (enterFaulted cause s).loader = s.loader ∧
    (enterFaulted cause s).pending = s.pending ∧ (enterFaulted cause s).cfg = s.cfg := by
  refine ⟨?_, ?_, ?_, ?_, ?_, ?_, ?_, ?_⟩ <;>
    unfold enterFaulted <;> (try dsimp only) <;> simp

@[simp] theorem reportFault_frame (cause : FaultCause) (s : State) :
    (reportFault cause s).scan = s.scan ∧ (reportFault cause s).tracker = s.tracker ∧
    (reportFault cause s).window = s.window ∧ (reportFault cause s).pace = s.pace ∧
    (reportFault cause s).report = s.report ∧ (reportFault cause s).loader = s.loader ∧
    (reportFault cause s).pending = s.pending ∧ (reportFault cause s).cfg = s.cfg := by
  refine ⟨?_, ?_, ?_, ?_, ?_, ?_, ?_, ?_⟩ <;>
    unfold reportFault <;> (repeat' split) <;> simp

@[simp] theorem reportJam_frame (z : Zone) (s : State) :
    (reportJam z s).scan = s.scan ∧ (reportJam z s).tracker = s.tracker ∧
    (reportJam z s).window = s.window ∧ (reportJam z s).pace = s.pace ∧ (reportJam z s).loader = s.loader ∧
    (reportJam z s).pending = s.pending ∧ (reportJam z s).cfg = s.cfg := by
  refine ⟨?_, ?_, ?_, ?_, ?_, ?_, ?_⟩ <;> unfold reportJam <;> simp

@[simp] theorem sparePassage_frame (s : State) :
    (sparePassage s).lane = s.lane ∧ (sparePassage s).scan = s.scan ∧
    (sparePassage s).tracker = s.tracker ∧ (sparePassage s).window = s.window ∧
    (sparePassage s).share = s.share ∧ (sparePassage s).launch = s.launch ∧
    (sparePassage s).pace = s.pace ∧ (sparePassage s).station = s.station ∧
    (sparePassage s).report = s.report ∧ (sparePassage s).loader = s.loader ∧
    (sparePassage s).pending = s.pending ∧ (sparePassage s).cfg = s.cfg := by
  refine ⟨?_, ?_, ?_, ?_, ?_, ?_, ?_, ?_, ?_, ?_, ?_, ?_⟩ <;>
    unfold sparePassage <;> simp

@[simp] theorem resync_frame (s : State) :
    (resync s).scan = s.scan ∧ (resync s).tracker = s.tracker ∧ (resync s).pace = s.pace ∧
    (resync s).station = s.station ∧ (resync s).report = s.report ∧ (resync s).loader = s.loader ∧
    (resync s).pending = s.pending ∧ (resync s).cfg = s.cfg := by
  refine ⟨?_, ?_, ?_, ?_, ?_, ?_, ?_, ?_⟩ <;>
    unfold resync <;> (try dsimp only) <;> simp

@[simp] theorem reportHorizon_frame (s : State) :
    (reportHorizon s).scan = s.scan ∧ (reportHorizon s).tracker = s.tracker ∧
    (reportHorizon s).window = s.window ∧ (reportHorizon s).share = s.share ∧
    (reportHorizon s).pace = s.pace ∧ (reportHorizon s).report = s.report ∧
    (reportHorizon s).loader = s.loader ∧ (reportHorizon s).pending = s.pending ∧
    (reportHorizon s).cfg = s.cfg := by
  refine ⟨?_, ?_, ?_, ?_, ?_, ?_, ?_, ?_, ?_⟩ <;>
    unfold reportHorizon <;> (repeat' split) <;> simp

@[simp] theorem recomputeHorizon_frame (s : State) :
    (recomputeHorizon s).scan = s.scan ∧ (recomputeHorizon s).tracker = s.tracker ∧
    (recomputeHorizon s).window = s.window ∧ (recomputeHorizon s).share = s.share ∧
    (recomputeHorizon s).pace = s.pace ∧ (recomputeHorizon s).report = s.report ∧
    (recomputeHorizon s).loader = s.loader ∧ (recomputeHorizon s).pending = s.pending ∧
    (recomputeHorizon s).cfg = s.cfg := by
  refine ⟨?_, ?_, ?_, ?_, ?_, ?_, ?_, ?_, ?_⟩ <;>
    unfold recomputeHorizon <;> (try dsimp only) <;> simp

@[simp] theorem makeCommitment_frame (k : Commitment) (s : State) :
    (makeCommitment k s).scan = s.scan ∧ (makeCommitment k s).tracker = s.tracker ∧
    (makeCommitment k s).window = s.window ∧ (makeCommitment k s).share = s.share ∧
    (makeCommitment k s).pace = s.pace ∧ (makeCommitment k s).station = s.station ∧
    (makeCommitment k s).report = s.report ∧ (makeCommitment k s).loader = s.loader ∧
    (makeCommitment k s).pending = s.pending ∧ (makeCommitment k s).cfg = s.cfg := by
  refine ⟨?_, ?_, ?_, ?_, ?_, ?_, ?_, ?_, ?_, ?_⟩ <;>
    unfold makeCommitment <;> (try dsimp only) <;> (repeat' split) <;> simp

@[simp] theorem refuseClaim_frame (k : Commitment) (s : State) :
    (refuseClaim k s).lane = s.lane ∧ (refuseClaim k s).scan = s.scan ∧
    (refuseClaim k s).tracker = s.tracker ∧ (refuseClaim k s).launch = s.launch ∧
    (refuseClaim k s).pace = s.pace ∧ (refuseClaim k s).line = s.line ∧
    (refuseClaim k s).station = s.station ∧ (refuseClaim k s).report = s.report ∧
    (refuseClaim k s).loader = s.loader ∧ (refuseClaim k s).pending = s.pending ∧
    (refuseClaim k s).cfg = s.cfg := by
  refine ⟨?_, ?_, ?_, ?_, ?_, ?_, ?_, ?_, ?_, ?_, ?_⟩ <;>
    unfold refuseClaim <;> simp

@[simp] theorem commitClaim_frame (r : Parcel) (e t : Tray) (span : Span) (cost : Nat) (s : State) :
    (commitClaim r e t span cost s).scan = s.scan ∧ (commitClaim r e t span cost s).tracker = s.tracker ∧
    (commitClaim r e t span cost s).pace = s.pace ∧ (commitClaim r e t span cost s).station = s.station ∧
    (commitClaim r e t span cost s).report = s.report ∧ (commitClaim r e t span cost s).loader = s.loader ∧
    (commitClaim r e t span cost s).pending = s.pending ∧ (commitClaim r e t span cost s).cfg = s.cfg := by
  refine ⟨?_, ?_, ?_, ?_, ?_, ?_, ?_, ?_⟩ <;>
    unfold commitClaim <;> (try dsimp only) <;> (repeat' split) <;> simp

@[simp] theorem withdraw_frame (k : Commitment) (s : State) :
    (withdraw k s).scan = s.scan ∧ (withdraw k s).tracker = s.tracker ∧ (withdraw k s).pace = s.pace ∧
    (withdraw k s).station = s.station ∧ (withdraw k s).loader = s.loader ∧
    (withdraw k s).pending = s.pending ∧ (withdraw k s).cfg = s.cfg := by
  refine ⟨?_, ?_, ?_, ?_, ?_, ?_, ?_⟩ <;> unfold withdraw <;> (try dsimp only) <;> simp

@[simp] theorem lateConflict_frame (s : State) :
    (lateConflict s).scan = s.scan ∧ (lateConflict s).tracker = s.tracker ∧
    (lateConflict s).window = s.window ∧ (lateConflict s).pace = s.pace ∧
    (lateConflict s).loader = s.loader ∧ (lateConflict s).pending = s.pending ∧
    (lateConflict s).cfg = s.cfg := by
  refine ⟨?_, ?_, ?_, ?_, ?_, ?_, ?_⟩ <;>
    unfold lateConflict <;> simp

@[simp] theorem governedAway_frame (t : Tray) (s : State) :
    (governedAway t s).scan = s.scan ∧ (governedAway t s).tracker = s.tracker ∧
    (governedAway t s).pace = s.pace ∧ (governedAway t s).loader = s.loader ∧
    (governedAway t s).pending = s.pending ∧ (governedAway t s).cfg = s.cfg := by
  refine ⟨?_, ?_, ?_, ?_, ?_, ?_⟩ <;> unfold governedAway <;> (repeat' split) <;> simp

@[simp] theorem abandon_frame (k : Commitment) (s : State) :
    (abandon k s).scan = s.scan ∧ (abandon k s).tracker = s.tracker ∧ (abandon k s).share = s.share ∧
    (abandon k s).pace = s.pace ∧ (abandon k s).station = s.station ∧ (abandon k s).loader = s.loader ∧
    (abandon k s).pending = s.pending ∧ (abandon k s).cfg = s.cfg := by
  refine ⟨?_, ?_, ?_, ?_, ?_, ?_, ?_, ?_⟩ <;>
    unfold abandon <;> (try dsimp only) <;> simp

@[simp] theorem commitmentEvent_frame (count : Option Tray) (s : State) :
    (commitmentEvent count s).scan = s.scan ∧ (commitmentEvent count s).tracker = s.tracker ∧
    (commitmentEvent count s).share = s.share ∧ (commitmentEvent count s).pace = s.pace ∧
    (commitmentEvent count s).station = s.station ∧ (commitmentEvent count s).loader = s.loader ∧
    (commitmentEvent count s).pending = s.pending ∧ (commitmentEvent count s).cfg = s.cfg := by
  refine ⟨?_, ?_, ?_, ?_, ?_, ?_, ?_, ?_⟩ <;>
    unfold commitmentEvent <;> (try dsimp only) <;> (repeat' split) <;> simp

@[simp] theorem takeVerdict_frame (s : State) :
    (takeVerdict s).scan = s.scan ∧ (takeVerdict s).tracker = s.tracker ∧
    (takeVerdict s).window = s.window ∧ (takeVerdict s).pace = s.pace ∧ (takeVerdict s).loader = s.loader ∧
    (takeVerdict s).pending = s.pending ∧ (takeVerdict s).cfg = s.cfg := by
  refine ⟨?_, ?_, ?_, ?_, ?_, ?_, ?_⟩ <;>
    unfold takeVerdict <;> (try dsimp only) <;> (repeat' split) <;> simp

@[simp] theorem flightEvent_frame (reading : Option Bool) (s : State) :
    (flightEvent reading s).scan = s.scan ∧ (flightEvent reading s).tracker = s.tracker ∧
    (flightEvent reading s).window = s.window ∧ (flightEvent reading s).pace = s.pace ∧
    (flightEvent reading s).loader = s.loader ∧ (flightEvent reading s).pending = s.pending ∧
    (flightEvent reading s).cfg = s.cfg := by
  refine ⟨?_, ?_, ?_, ?_, ?_, ?_, ?_⟩ <;>
    unfold flightEvent <;> (try dsimp only) <;> (repeat' split) <;> simp

@[simp] theorem startLaunch_frame (k : Commitment) (t : EdgeTiming) (s : State) :
    (startLaunch k t s).scan = s.scan ∧ (startLaunch k t s).tracker = s.tracker ∧
    (startLaunch k t s).window = s.window ∧ (startLaunch k t s).share = s.share ∧
    (startLaunch k t s).pace = s.pace ∧ (startLaunch k t s).line = s.line ∧
    (startLaunch k t s).station = s.station ∧ (startLaunch k t s).report = s.report ∧
    (startLaunch k t s).loader = s.loader ∧ (startLaunch k t s).pending = s.pending ∧
    (startLaunch k t s).cfg = s.cfg := by
  refine ⟨?_, ?_, ?_, ?_, ?_, ?_, ?_, ?_, ?_, ?_, ?_⟩ <;>
    unfold startLaunch <;> (try dsimp only) <;> simp

@[simp] theorem launchWarning_frame (s : State) :
    (launchWarning s).lane = s.lane ∧ (launchWarning s).scan = s.scan ∧
    (launchWarning s).tracker = s.tracker ∧ (launchWarning s).window = s.window ∧
    (launchWarning s).share = s.share ∧ (launchWarning s).launch = s.launch ∧
    (launchWarning s).pace = s.pace ∧ (launchWarning s).line = s.line ∧
    (launchWarning s).station = s.station ∧ (launchWarning s).loader = s.loader ∧
    (launchWarning s).pending = s.pending ∧ (launchWarning s).cfg = s.cfg := by
  refine ⟨?_, ?_, ?_, ?_, ?_, ?_, ?_, ?_, ?_, ?_, ?_, ?_⟩ <;>
    unfold launchWarning <;> simp

@[simp] theorem markChecked_frame (s : State) :
    (markChecked s).lane = s.lane ∧ (markChecked s).scan = s.scan ∧ (markChecked s).tracker = s.tracker ∧
    (markChecked s).window = s.window ∧ (markChecked s).share = s.share ∧ (markChecked s).pace = s.pace ∧
    (markChecked s).line = s.line ∧ (markChecked s).station = s.station ∧
    (markChecked s).report = s.report ∧ (markChecked s).loader = s.loader ∧
    (markChecked s).pending = s.pending ∧ (markChecked s).cfg = s.cfg := by
  refine ⟨?_, ?_, ?_, ?_, ?_, ?_, ?_, ?_, ?_, ?_, ?_, ?_⟩ <;>
    unfold markChecked <;> (try dsimp only) <;> simp

@[simp] theorem exitCheck_frame (s : State) :
    (exitCheck s).lane = s.lane ∧ (exitCheck s).scan = s.scan ∧ (exitCheck s).tracker = s.tracker ∧
    (exitCheck s).window = s.window ∧ (exitCheck s).share = s.share ∧ (exitCheck s).pace = s.pace ∧
    (exitCheck s).line = s.line ∧ (exitCheck s).station = s.station ∧ (exitCheck s).loader = s.loader ∧
    (exitCheck s).pending = s.pending ∧ (exitCheck s).cfg = s.cfg := by
  refine ⟨?_, ?_, ?_, ?_, ?_, ?_, ?_, ?_, ?_, ?_, ?_⟩ <;>
    unfold exitCheck <;> (repeat' split) <;> simp

@[simp] theorem applyPart_frame (p : Part) (s : State) :
    (applyPart p s).scan = s.scan ∧ (applyPart p s).tracker = s.tracker ∧ (applyPart p s).pace = s.pace ∧
    (applyPart p s).loader = s.loader ∧ (applyPart p s).pending = s.pending ∧ (applyPart p s).cfg = s.cfg := by
  refine ⟨?_, ?_, ?_, ?_, ?_, ?_⟩ <;> unfold applyPart <;> (try dsimp only) <;> (repeat' split) <;> simp

@[simp] theorem joinPending_frame (p : Part) (superseded : Bool) (s : State) :
    (joinPending p superseded s).lane = s.lane ∧ (joinPending p superseded s).scan = s.scan ∧
    (joinPending p superseded s).tracker = s.tracker ∧ (joinPending p superseded s).share = s.share ∧
    (joinPending p superseded s).launch = s.launch ∧ (joinPending p superseded s).pace = s.pace ∧
    (joinPending p superseded s).line = s.line ∧ (joinPending p superseded s).station = s.station ∧
    (joinPending p superseded s).loader = s.loader ∧ (joinPending p superseded s).pending = s.pending ∧
    (joinPending p superseded s).cfg = s.cfg := by
  refine ⟨?_, ?_, ?_, ?_, ?_, ?_, ?_, ?_, ?_, ?_, ?_⟩ <;>
    unfold joinPending <;> (try dsimp only) <;> (repeat' split) <;> simp

@[simp] theorem placePart_frame (offset : Nat) (p : Part) (s : State) :
    (placePart offset p s).scan = s.scan ∧ (placePart offset p s).tracker = s.tracker ∧
    (placePart offset p s).pace = s.pace ∧ (placePart offset p s).loader = s.loader ∧
    (placePart offset p s).pending = s.pending ∧ (placePart offset p s).cfg = s.cfg := by
  refine ⟨?_, ?_, ?_, ?_, ?_, ?_⟩ <;> unfold placePart <;> (try dsimp only) <;> (repeat' split) <;> simp

@[simp] theorem hearParts_frame (k : LaneOrdinal) (valid : Bool) (parts : List Part) (s : State) :
    (hearParts k valid parts s).scan = s.scan ∧ (hearParts k valid parts s).tracker = s.tracker ∧
    (hearParts k valid parts s).pace = s.pace ∧ (hearParts k valid parts s).loader = s.loader ∧
    (hearParts k valid parts s).pending = s.pending ∧ (hearParts k valid parts s).cfg = s.cfg := by
  refine ⟨?_, ?_, ?_, ?_, ?_, ?_⟩ <;>
    unfold hearParts <;> (repeat' split) <;> simp [*, foldl_scan, foldl_tracker,
      foldl_pace, foldl_loader, foldl_pending, foldl_cfg]

@[simp] theorem hearClaim_frame (k : LaneOrdinal) (tray : Nat) (span : Span) (s : State) :
    (hearClaim k tray span s).scan = s.scan ∧ (hearClaim k tray span s).tracker = s.tracker ∧
    (hearClaim k tray span s).pace = s.pace ∧ (hearClaim k tray span s).loader = s.loader ∧
    (hearClaim k tray span s).pending = s.pending ∧ (hearClaim k tray span s).cfg = s.cfg := by
  refine ⟨?_, ?_, ?_, ?_, ?_, ?_⟩ <;> unfold hearClaim <;> simp

@[simp] theorem hearVacate_frame (k : LaneOrdinal) (tray : Nat) (span : Span) (s : State) :
    (hearVacate k tray span s).scan = s.scan ∧ (hearVacate k tray span s).tracker = s.tracker ∧
    (hearVacate k tray span s).pace = s.pace ∧ (hearVacate k tray span s).loader = s.loader ∧
    (hearVacate k tray span s).pending = s.pending ∧ (hearVacate k tray span s).cfg = s.cfg := by
  refine ⟨?_, ?_, ?_, ?_, ?_, ?_⟩ <;> unfold hearVacate <;> simp

@[simp] theorem hearHold_frame (k : LaneOrdinal) (tray : Nat) (target : LaneOrdinal) (s : State) :
    (hearHold k tray target s).scan = s.scan ∧ (hearHold k tray target s).tracker = s.tracker ∧
    (hearHold k tray target s).pace = s.pace ∧ (hearHold k tray target s).loader = s.loader ∧
    (hearHold k tray target s).pending = s.pending ∧ (hearHold k tray target s).cfg = s.cfg := by
  refine ⟨?_, ?_, ?_, ?_, ?_, ?_⟩ <;> unfold hearHold <;> simp

@[simp] theorem buildWindow_frame (s : State) :
    (buildWindow s).lane = s.lane ∧ (buildWindow s).scan = s.scan ∧ (buildWindow s).tracker = s.tracker ∧
    (buildWindow s).share = s.share ∧ (buildWindow s).launch = s.launch ∧ (buildWindow s).pace = s.pace ∧
    (buildWindow s).line = s.line ∧ (buildWindow s).station = s.station ∧
    (buildWindow s).report = s.report ∧ (buildWindow s).loader = s.loader ∧
    (buildWindow s).pending = s.pending ∧ (buildWindow s).cfg = s.cfg := by
  refine ⟨?_, ?_, ?_, ?_, ?_, ?_, ?_, ?_, ?_, ?_, ?_, ?_⟩ <;>
    unfold buildWindow <;> simp

@[simp] theorem turnover_frame (e : Tray) (loaded : Bool) (s : State) :
    (turnover e loaded s).lane = s.lane ∧ (turnover e loaded s).scan = s.scan ∧
    (turnover e loaded s).tracker = s.tracker ∧ (turnover e loaded s).share = s.share ∧
    (turnover e loaded s).launch = s.launch ∧ (turnover e loaded s).pace = s.pace ∧
    (turnover e loaded s).line = s.line ∧ (turnover e loaded s).station = s.station ∧
    (turnover e loaded s).report = s.report ∧ (turnover e loaded s).loader = s.loader ∧
    (turnover e loaded s).pending = s.pending ∧ (turnover e loaded s).cfg = s.cfg := by
  refine ⟨?_, ?_, ?_, ?_, ?_, ?_, ?_, ?_, ?_, ?_, ?_, ?_⟩ <;>
    unfold turnover <;> (try dsimp only) <;> (repeat' split) <;> simp

@[simp] theorem updatePeer_frame (k : LaneOrdinal) (f : Peer → Peer) (s : State) :
    (updatePeer k f s).lane = s.lane ∧ (updatePeer k f s).scan = s.scan ∧
    (updatePeer k f s).tracker = s.tracker ∧ (updatePeer k f s).window = s.window ∧
    (updatePeer k f s).launch = s.launch ∧ (updatePeer k f s).pace = s.pace ∧
    (updatePeer k f s).line = s.line ∧ (updatePeer k f s).station = s.station ∧
    (updatePeer k f s).report = s.report ∧ (updatePeer k f s).loader = s.loader ∧
    (updatePeer k f s).pending = s.pending ∧ (updatePeer k f s).cfg = s.cfg := by
  refine ⟨?_, ?_, ?_, ?_, ?_, ?_, ?_, ?_, ?_, ?_, ?_, ?_⟩ <;>
    unfold updatePeer <;> (try dsimp only) <;> simp

@[simp] theorem takeDemand_frame (k : LaneOrdinal) (d : DemandReport) (s : State) :
    (takeDemand k d s).lane = s.lane ∧ (takeDemand k d s).scan = s.scan ∧
    (takeDemand k d s).tracker = s.tracker ∧ (takeDemand k d s).window = s.window ∧
    (takeDemand k d s).launch = s.launch ∧ (takeDemand k d s).pace = s.pace ∧
    (takeDemand k d s).line = s.line ∧ (takeDemand k d s).station = s.station ∧
    (takeDemand k d s).loader = s.loader ∧ (takeDemand k d s).pending = s.pending ∧
    (takeDemand k d s).cfg = s.cfg := by
  refine ⟨?_, ?_, ?_, ?_, ?_, ?_, ?_, ?_, ?_, ?_, ?_⟩ <;>
    unfold takeDemand <;> (repeat' split) <;> simp

@[simp] theorem agePeers_frame (s : State) :
    (agePeers s).lane = s.lane ∧ (agePeers s).scan = s.scan ∧ (agePeers s).tracker = s.tracker ∧
    (agePeers s).window = s.window ∧ (agePeers s).launch = s.launch ∧ (agePeers s).pace = s.pace ∧
    (agePeers s).line = s.line ∧ (agePeers s).station = s.station ∧ (agePeers s).report = s.report ∧
    (agePeers s).loader = s.loader ∧ (agePeers s).pending = s.pending ∧ (agePeers s).cfg = s.cfg := by
  refine ⟨?_, ?_, ?_, ?_, ?_, ?_, ?_, ?_, ?_, ?_, ?_, ?_⟩ <;>
    unfold agePeers <;> (try dsimp only) <;> simp

@[simp] theorem recomputeShare_frame (s : State) :
    (recomputeShare s).lane = s.lane ∧ (recomputeShare s).scan = s.scan ∧
    (recomputeShare s).tracker = s.tracker ∧ (recomputeShare s).window = s.window ∧
    (recomputeShare s).launch = s.launch ∧ (recomputeShare s).pace = s.pace ∧
    (recomputeShare s).line = s.line ∧ (recomputeShare s).station = s.station ∧
    (recomputeShare s).report = s.report ∧ (recomputeShare s).loader = s.loader ∧
    (recomputeShare s).pending = s.pending ∧ (recomputeShare s).cfg = s.cfg := by
  refine ⟨?_, ?_, ?_, ?_, ?_, ?_, ?_, ?_, ?_, ?_, ?_, ?_⟩ <;>
    unfold recomputeShare <;> (try dsimp only) <;> simp

@[simp] theorem recomputeInterval_frame (s : State) :
    (recomputeInterval s).lane = s.lane ∧ (recomputeInterval s).scan = s.scan ∧
    (recomputeInterval s).tracker = s.tracker ∧ (recomputeInterval s).window = s.window ∧
    (recomputeInterval s).share = s.share ∧ (recomputeInterval s).launch = s.launch ∧
    (recomputeInterval s).line = s.line ∧ (recomputeInterval s).station = s.station ∧
    (recomputeInterval s).report = s.report ∧ (recomputeInterval s).loader = s.loader ∧
    (recomputeInterval s).pending = s.pending ∧ (recomputeInterval s).cfg = s.cfg := by
  refine ⟨?_, ?_, ?_, ?_, ?_, ?_, ?_, ?_, ?_, ?_, ?_, ?_⟩ <;>
    unfold recomputeInterval <;> (try dsimp only) <;> simp

@[simp] theorem statInterval_frame (s : State) :
    (statInterval s).lane = s.lane ∧ (statInterval s).scan = s.scan ∧
    (statInterval s).tracker = s.tracker ∧ (statInterval s).window = s.window ∧
    (statInterval s).share = s.share ∧ (statInterval s).launch = s.launch ∧
    (statInterval s).pace = s.pace ∧ (statInterval s).station = s.station ∧
    (statInterval s).loader = s.loader ∧ (statInterval s).pending = s.pending ∧
    (statInterval s).cfg = s.cfg := by
  refine ⟨?_, ?_, ?_, ?_, ?_, ?_, ?_, ?_, ?_, ?_, ?_⟩ <;>
    unfold statInterval <;> (try dsimp only) <;> (repeat' split) <;> simp

@[simp] theorem epochBoundary_frame (s : State) :
    (epochBoundary s).scan = s.scan ∧ (epochBoundary s).tracker = s.tracker ∧
    (epochBoundary s).window = s.window ∧ (epochBoundary s).loader = s.loader ∧
    (epochBoundary s).pending = s.pending ∧ (epochBoundary s).cfg = s.cfg := by
  refine ⟨?_, ?_, ?_, ?_, ?_, ?_⟩ <;> unfold epochBoundary <;> simp

@[simp] theorem epochEvent_frame (s : State) :
    (epochEvent s).scan = s.scan ∧ (epochEvent s).tracker = s.tracker ∧ (epochEvent s).window = s.window ∧
    (epochEvent s).loader = s.loader ∧ (epochEvent s).pending = s.pending ∧ (epochEvent s).cfg = s.cfg := by
  refine ⟨?_, ?_, ?_, ?_, ?_, ?_⟩ <;> unfold epochEvent <;> (try dsimp only) <;> (repeat' split) <;> simp

@[simp] theorem passOver_frame (e h0 : Nat) (s : State) :
    (passOver e h0 s).lane = s.lane ∧ (passOver e h0 s).scan = s.scan ∧
    (passOver e h0 s).tracker = s.tracker ∧ (passOver e h0 s).share = s.share ∧
    (passOver e h0 s).launch = s.launch ∧ (passOver e h0 s).pace = s.pace ∧
    (passOver e h0 s).line = s.line ∧ (passOver e h0 s).station = s.station ∧
    (passOver e h0 s).report = s.report ∧ (passOver e h0 s).loader = s.loader ∧
    (passOver e h0 s).pending = s.pending ∧ (passOver e h0 s).cfg = s.cfg := by
  refine ⟨?_, ?_, ?_, ?_, ?_, ?_, ?_, ?_, ?_, ?_, ?_, ?_⟩ <;>
    unfold passOver <;> simp [*, foldl_lane, foldl_scan,
      foldl_tracker, foldl_share, foldl_launch, foldl_pace, foldl_line, foldl_station, foldl_report,
      foldl_loader, foldl_pending, foldl_cfg]

@[simp] theorem placeHold_frame (t : Tray) (c : Choice) (s : State) :
    (placeHold t c s).lane = s.lane ∧ (placeHold t c s).scan = s.scan ∧
    (placeHold t c s).tracker = s.tracker ∧ (placeHold t c s).launch = s.launch ∧
    (placeHold t c s).pace = s.pace ∧ (placeHold t c s).station = s.station ∧
    (placeHold t c s).loader = s.loader ∧ (placeHold t c s).pending = s.pending ∧
    (placeHold t c s).cfg = s.cfg := by
  refine ⟨?_, ?_, ?_, ?_, ?_, ?_, ?_, ?_, ?_⟩ <;>
    unfold placeHold <;> (try dsimp only) <;> (repeat' split) <;> simp

@[simp] theorem yieldTray_frame (t : Tray) (s : State) :
    (yieldTray t s).lane = s.lane ∧ (yieldTray t s).scan = s.scan ∧ (yieldTray t s).tracker = s.tracker ∧
    (yieldTray t s).launch = s.launch ∧ (yieldTray t s).pace = s.pace ∧
    (yieldTray t s).station = s.station ∧ (yieldTray t s).loader = s.loader ∧
    (yieldTray t s).pending = s.pending ∧ (yieldTray t s).cfg = s.cfg := by
  refine ⟨?_, ?_, ?_, ?_, ?_, ?_, ?_, ?_, ?_⟩ <;>
    unfold yieldTray <;> (repeat' split) <;> simp

@[simp] theorem makeClaim_frame (e t : Tray) (r : Parcel) (s : State) :
    (makeClaim e t r s).scan = s.scan ∧ (makeClaim e t r s).tracker = s.tracker ∧
    (makeClaim e t r s).pace = s.pace ∧ (makeClaim e t r s).station = s.station ∧
    (makeClaim e t r s).report = s.report ∧ (makeClaim e t r s).loader = s.loader ∧
    (makeClaim e t r s).pending = s.pending ∧ (makeClaim e t r s).cfg = s.cfg := by
  refine ⟨?_, ?_, ?_, ?_, ?_, ?_, ?_, ?_⟩ <;>
    unfold makeClaim <;> (try dsimp only) <;> simp [*, foldl_scan, foldl_tracker,
      foldl_pace, foldl_station, foldl_report, foldl_loader, foldl_pending, foldl_cfg]

@[simp] theorem raiseStarve_frame (s : State) :
    (raiseStarve s).lane = s.lane ∧ (raiseStarve s).scan = s.scan ∧ (raiseStarve s).tracker = s.tracker ∧
    (raiseStarve s).window = s.window ∧ (raiseStarve s).launch = s.launch ∧ (raiseStarve s).pace = s.pace ∧
    (raiseStarve s).line = s.line ∧ (raiseStarve s).station = s.station ∧
    (raiseStarve s).report = s.report ∧ (raiseStarve s).loader = s.loader ∧
    (raiseStarve s).pending = s.pending ∧ (raiseStarve s).cfg = s.cfg := by
  refine ⟨?_, ?_, ?_, ?_, ?_, ?_, ?_, ?_, ?_, ?_, ?_, ?_⟩ <;>
    unfold raiseStarve <;> (try dsimp only) <;> simp

@[simp] theorem starveSecond_frame (t : Tray) (r : Parcel) (s : State) :
    (starveSecond t r s).lane = s.lane ∧ (starveSecond t r s).scan = s.scan ∧
    (starveSecond t r s).tracker = s.tracker ∧ (starveSecond t r s).window = s.window ∧
    (starveSecond t r s).launch = s.launch ∧ (starveSecond t r s).pace = s.pace ∧
    (starveSecond t r s).line = s.line ∧ (starveSecond t r s).station = s.station ∧
    (starveSecond t r s).report = s.report ∧ (starveSecond t r s).loader = s.loader ∧
    (starveSecond t r s).pending = s.pending ∧ (starveSecond t r s).cfg = s.cfg := by
  refine ⟨?_, ?_, ?_, ?_, ?_, ?_, ?_, ?_, ?_, ?_, ?_, ?_⟩ <;>
    unfold starveSecond <;> (repeat' split) <;> simp

@[simp] theorem decideTray_frame (e t : Tray) (s : State) :
    (decideTray e t s).scan = s.scan ∧ (decideTray e t s).tracker = s.tracker ∧
    (decideTray e t s).pace = s.pace ∧ (decideTray e t s).station = s.station ∧
    (decideTray e t s).loader = s.loader ∧ (decideTray e t s).pending = s.pending ∧
    (decideTray e t s).cfg = s.cfg := by
  refine ⟨?_, ?_, ?_, ?_, ?_, ?_, ?_⟩ <;>
    unfold decideTray <;> (try dsimp only) <;> (repeat' split) <;> simp

@[simp] theorem recordLapse_frame (j : LaneOrdinal) (s : State) :
    (recordLapse j s).lane = s.lane ∧ (recordLapse j s).scan = s.scan ∧
    (recordLapse j s).tracker = s.tracker ∧ (recordLapse j s).window = s.window ∧
    (recordLapse j s).launch = s.launch ∧ (recordLapse j s).pace = s.pace ∧
    (recordLapse j s).line = s.line ∧ (recordLapse j s).station = s.station ∧
    (recordLapse j s).loader = s.loader ∧ (recordLapse j s).pending = s.pending ∧
    (recordLapse j s).cfg = s.cfg := by
  refine ⟨?_, ?_, ?_, ?_, ?_, ?_, ?_, ?_, ?_, ?_, ?_⟩ <;>
    unfold recordLapse <;> (try dsimp only) <;> (repeat' split) <;> simp

@[simp] theorem expireHolds_frame (e : Tray) (s : State) :
    (expireHolds e s).lane = s.lane ∧ (expireHolds e s).scan = s.scan ∧
    (expireHolds e s).tracker = s.tracker ∧ (expireHolds e s).window = s.window ∧
    (expireHolds e s).launch = s.launch ∧ (expireHolds e s).pace = s.pace ∧
    (expireHolds e s).line = s.line ∧ (expireHolds e s).station = s.station ∧
    (expireHolds e s).loader = s.loader ∧ (expireHolds e s).pending = s.pending ∧
    (expireHolds e s).cfg = s.cfg := by
  refine ⟨?_, ?_, ?_, ?_, ?_, ?_, ?_, ?_, ?_, ?_, ?_⟩ <;>
    unfold expireHolds <;> (try dsimp only) <;> simp [*, foldl_lane, foldl_scan,
      foldl_tracker, foldl_window, foldl_launch, foldl_pace, foldl_line, foldl_station, foldl_loader,
      foldl_pending, foldl_cfg]

@[simp] theorem takeDownstreamClaim_frame (j : LaneOrdinal) (ts : List Tray) (s : State) :
    (takeDownstreamClaim j ts s).lane = s.lane ∧ (takeDownstreamClaim j ts s).scan = s.scan ∧
    (takeDownstreamClaim j ts s).tracker = s.tracker ∧ (takeDownstreamClaim j ts s).window = s.window ∧
    (takeDownstreamClaim j ts s).launch = s.launch ∧ (takeDownstreamClaim j ts s).pace = s.pace ∧
    (takeDownstreamClaim j ts s).line = s.line ∧ (takeDownstreamClaim j ts s).station = s.station ∧
    (takeDownstreamClaim j ts s).report = s.report ∧ (takeDownstreamClaim j ts s).loader = s.loader ∧
    (takeDownstreamClaim j ts s).pending = s.pending ∧ (takeDownstreamClaim j ts s).cfg = s.cfg := by
  refine ⟨?_, ?_, ?_, ?_, ?_, ?_, ?_, ?_, ?_, ?_, ?_, ?_⟩ <;>
    unfold takeDownstreamClaim <;> (try dsimp only) <;> (repeat' split) <;> simp

@[simp] theorem markHoldSent_frame (t : Tray) (s : State) :
    (markHoldSent t s).lane = s.lane ∧ (markHoldSent t s).scan = s.scan ∧
    (markHoldSent t s).tracker = s.tracker ∧ (markHoldSent t s).window = s.window ∧
    (markHoldSent t s).launch = s.launch ∧ (markHoldSent t s).pace = s.pace ∧
    (markHoldSent t s).line = s.line ∧ (markHoldSent t s).station = s.station ∧
    (markHoldSent t s).report = s.report ∧ (markHoldSent t s).loader = s.loader ∧
    (markHoldSent t s).pending = s.pending ∧ (markHoldSent t s).cfg = s.cfg := by
  refine ⟨?_, ?_, ?_, ?_, ?_, ?_, ?_, ?_, ?_, ?_, ?_, ?_⟩ <;>
    unfold markHoldSent <;> (try dsimp only) <;> simp

@[simp] theorem countFree_frame (t : Tray) (s : State) :
    (countFree t s).lane = s.lane ∧ (countFree t s).scan = s.scan ∧ (countFree t s).tracker = s.tracker ∧
    (countFree t s).window = s.window ∧ (countFree t s).launch = s.launch ∧ (countFree t s).pace = s.pace ∧
    (countFree t s).line = s.line ∧ (countFree t s).station = s.station ∧
    (countFree t s).report = s.report ∧ (countFree t s).loader = s.loader ∧
    (countFree t s).pending = s.pending ∧ (countFree t s).cfg = s.cfg := by
  refine ⟨?_, ?_, ?_, ?_, ?_, ?_, ?_, ?_, ?_, ?_, ?_, ?_⟩ <;>
    unfold countFree <;> (try dsimp only) <;> (repeat' split) <;> simp

@[simp] theorem shareEvent_frame (s : State) :
    (shareEvent s).scan = s.scan ∧ (shareEvent s).tracker = s.tracker ∧ (shareEvent s).loader = s.loader ∧
    (shareEvent s).pending = s.pending ∧ (shareEvent s).cfg = s.cfg := by
  refine ⟨?_, ?_, ?_, ?_, ?_⟩ <;> unfold shareEvent <;> (try dsimp only) <;> (repeat' split) <;> simp

@[simp] theorem awaitStart_frame (s : State) :
    (awaitStart s).lane = s.lane ∧ (awaitStart s).scan = s.scan ∧ (awaitStart s).tracker = s.tracker ∧
    (awaitStart s).window = s.window ∧ (awaitStart s).share = s.share ∧ (awaitStart s).launch = s.launch ∧
    (awaitStart s).pace = s.pace ∧ (awaitStart s).station = s.station ∧ (awaitStart s).report = s.report ∧
    (awaitStart s).loader = s.loader ∧ (awaitStart s).pending = s.pending ∧ (awaitStart s).cfg = s.cfg := by
  refine ⟨?_, ?_, ?_, ?_, ?_, ?_, ?_, ?_, ?_, ?_, ?_, ?_⟩ <;>
    unfold awaitStart <;> (try dsimp only) <;> simp

@[simp] theorem assemble_frame (bits : Bits) (s : State) :
    (assemble bits s).lane = s.lane ∧ (assemble bits s).scan = s.scan ∧
    (assemble bits s).tracker = s.tracker ∧ (assemble bits s).window = s.window ∧
    (assemble bits s).share = s.share ∧ (assemble bits s).launch = s.launch ∧
    (assemble bits s).pace = s.pace ∧ (assemble bits s).station = s.station ∧
    (assemble bits s).report = s.report ∧ (assemble bits s).loader = s.loader ∧
    (assemble bits s).pending = s.pending ∧ (assemble bits s).cfg = s.cfg := by
  refine ⟨?_, ?_, ?_, ?_, ?_, ?_, ?_, ?_, ?_, ?_, ?_, ?_⟩ <;>
    unfold assemble <;> (try dsimp only) <;> simp

@[simp] theorem beginFrame_frame (f : TxFrame) (s : State) :
    (beginFrame f s).lane = s.lane ∧ (beginFrame f s).scan = s.scan ∧
    (beginFrame f s).tracker = s.tracker ∧ (beginFrame f s).window = s.window ∧
    (beginFrame f s).share = s.share ∧ (beginFrame f s).launch = s.launch ∧
    (beginFrame f s).pace = s.pace ∧ (beginFrame f s).station = s.station ∧
    (beginFrame f s).report = s.report ∧ (beginFrame f s).loader = s.loader ∧
    (beginFrame f s).pending = s.pending ∧ (beginFrame f s).cfg = s.cfg := by
  refine ⟨?_, ?_, ?_, ?_, ?_, ?_, ?_, ?_, ?_, ?_, ?_, ?_⟩ <;>
    unfold beginFrame <;> (try dsimp only) <;> simp

@[simp] theorem afterBitError_frame (sent : Bits) (cause : BitErrorCause) (s : State) :
    (afterBitError sent cause s).lane = s.lane ∧ (afterBitError sent cause s).scan = s.scan ∧
    (afterBitError sent cause s).tracker = s.tracker ∧ (afterBitError sent cause s).window = s.window ∧
    (afterBitError sent cause s).share = s.share ∧ (afterBitError sent cause s).launch = s.launch ∧
    (afterBitError sent cause s).pace = s.pace ∧ (afterBitError sent cause s).station = s.station ∧
    (afterBitError sent cause s).report = s.report ∧ (afterBitError sent cause s).loader = s.loader ∧
    (afterBitError sent cause s).pending = s.pending ∧ (afterBitError sent cause s).cfg = s.cfg := by
  refine ⟨?_, ?_, ?_, ?_, ?_, ?_, ?_, ?_, ?_, ?_, ?_, ?_⟩ <;>
    unfold afterBitError <;> (repeat' split) <;> simp

@[simp] theorem stopAssembling_frame (s : State) :
    (stopAssembling s).lane = s.lane ∧ (stopAssembling s).scan = s.scan ∧
    (stopAssembling s).tracker = s.tracker ∧ (stopAssembling s).window = s.window ∧
    (stopAssembling s).share = s.share ∧ (stopAssembling s).launch = s.launch ∧
    (stopAssembling s).pace = s.pace ∧ (stopAssembling s).station = s.station ∧
    (stopAssembling s).report = s.report ∧ (stopAssembling s).loader = s.loader ∧
    (stopAssembling s).pending = s.pending ∧ (stopAssembling s).cfg = s.cfg := by
  refine ⟨?_, ?_, ?_, ?_, ?_, ?_, ?_, ?_, ?_, ?_, ?_, ?_⟩ <;>
    unfold stopAssembling <;> (repeat' split) <;> simp

@[simp] theorem releasePassage_frame (s : State) :
    (releasePassage s).lane = s.lane ∧ (releasePassage s).scan = s.scan ∧
    (releasePassage s).tracker = s.tracker ∧ (releasePassage s).window = s.window ∧
    (releasePassage s).share = s.share ∧ (releasePassage s).launch = s.launch ∧
    (releasePassage s).pace = s.pace ∧ (releasePassage s).station = s.station ∧
    (releasePassage s).report = s.report ∧ (releasePassage s).loader = s.loader ∧
    (releasePassage s).pending = s.pending ∧ (releasePassage s).cfg = s.cfg := by
  refine ⟨?_, ?_, ?_, ?_, ?_, ?_, ?_, ?_, ?_, ?_, ?_, ?_⟩ <;>
    unfold releasePassage <;> (try dsimp only) <;> simp

@[simp] theorem completePassage_frame (s : State) :
    (completePassage s).lane = s.lane ∧ (completePassage s).scan = s.scan ∧
    (completePassage s).tracker = s.tracker ∧ (completePassage s).window = s.window ∧
    (completePassage s).share = s.share ∧ (completePassage s).launch = s.launch ∧
    (completePassage s).pace = s.pace ∧ (completePassage s).station = s.station ∧
    (completePassage s).report = s.report ∧ (completePassage s).loader = s.loader ∧
    (completePassage s).pending = s.pending ∧ (completePassage s).cfg = s.cfg := by
  refine ⟨?_, ?_, ?_, ?_, ?_, ?_, ?_, ?_, ?_, ?_, ?_, ?_⟩ <;>
    unfold completePassage <;> (try dsimp only) <;> simp

@[simp] theorem advanceGroup_frame (s : State) :
    (advanceGroup s).lane = s.lane ∧ (advanceGroup s).scan = s.scan ∧
    (advanceGroup s).tracker = s.tracker ∧ (advanceGroup s).window = s.window ∧
    (advanceGroup s).share = s.share ∧ (advanceGroup s).launch = s.launch ∧
    (advanceGroup s).pace = s.pace ∧ (advanceGroup s).line = s.line ∧
    (advanceGroup s).station = s.station ∧ (advanceGroup s).loader = s.loader ∧
    (advanceGroup s).pending = s.pending ∧ (advanceGroup s).cfg = s.cfg := by
  refine ⟨?_, ?_, ?_, ?_, ?_, ?_, ?_, ?_, ?_, ?_, ?_, ?_⟩ <;>
    unfold advanceGroup <;> (try dsimp only) <;> simp

@[simp] theorem ageVacates_frame (s : State) :
    (ageVacates s).lane = s.lane ∧ (ageVacates s).scan = s.scan ∧ (ageVacates s).tracker = s.tracker ∧
    (ageVacates s).window = s.window ∧ (ageVacates s).share = s.share ∧ (ageVacates s).launch = s.launch ∧
    (ageVacates s).pace = s.pace ∧ (ageVacates s).station = s.station ∧ (ageVacates s).report = s.report ∧
    (ageVacates s).loader = s.loader ∧ (ageVacates s).pending = s.pending ∧ (ageVacates s).cfg = s.cfg := by
  refine ⟨?_, ?_, ?_, ?_, ?_, ?_, ?_, ?_, ?_, ?_, ?_, ?_⟩ <;>
    unfold ageVacates <;> simp

@[simp] theorem reportDeadline_frame (s : State) (f : TxFrame) :
    (reportDeadline s f).scan = s.scan ∧ (reportDeadline s f).tracker = s.tracker ∧
    (reportDeadline s f).pace = s.pace ∧ (reportDeadline s f).station = s.station ∧
    (reportDeadline s f).loader = s.loader ∧ (reportDeadline s f).pending = s.pending ∧
    (reportDeadline s f).cfg = s.cfg := by
  refine ⟨?_, ?_, ?_, ?_, ?_, ?_, ?_⟩ <;>
    unfold reportDeadline <;> (repeat' split) <;> simp

@[simp] theorem lineEvent_frame (lastBit : Bool) (s : State) :
    (lineEvent lastBit s).scan = s.scan ∧ (lineEvent lastBit s).tracker = s.tracker ∧
    (lineEvent lastBit s).pace = s.pace ∧ (lineEvent lastBit s).station = s.station ∧
    (lineEvent lastBit s).loader = s.loader ∧ (lineEvent lastBit s).pending = s.pending ∧
    (lineEvent lastBit s).cfg = s.cfg := by
  refine ⟨?_, ?_, ?_, ?_, ?_, ?_, ?_⟩ <;>
    unfold lineEvent <;> (try dsimp only) <;> (repeat' split) <;> simp [*, foldl_scan, foldl_tracker,
      foldl_pace, foldl_station, foldl_loader, foldl_pending, foldl_cfg]

@[simp] theorem frameError_frame (s : State) :
    (frameError s).lane = s.lane ∧ (frameError s).scan = s.scan ∧ (frameError s).tracker = s.tracker ∧
    (frameError s).window = s.window ∧ (frameError s).share = s.share ∧ (frameError s).launch = s.launch ∧
    (frameError s).pace = s.pace ∧ (frameError s).station = s.station ∧ (frameError s).loader = s.loader ∧
    (frameError s).pending = s.pending ∧ (frameError s).cfg = s.cfg := by
  refine ⟨?_, ?_, ?_, ?_, ?_, ?_, ?_, ?_, ?_, ?_, ?_⟩ <;>
    unfold frameError <;> simp

@[simp] theorem loseTracking_frame (s : State) :
    (loseTracking s).lane = s.lane ∧ (loseTracking s).scan = s.scan ∧ (loseTracking s).window = s.window ∧
    (loseTracking s).share = s.share ∧ (loseTracking s).launch = s.launch ∧
    (loseTracking s).pace = s.pace ∧ (loseTracking s).line = s.line ∧
    (loseTracking s).station = s.station ∧ (loseTracking s).report = s.report ∧
    (loseTracking s).loader = s.loader ∧ (loseTracking s).pending = s.pending ∧
    (loseTracking s).cfg = s.cfg := by
  refine ⟨?_, ?_, ?_, ?_, ?_, ?_, ?_, ?_, ?_, ?_, ?_, ?_⟩ <;>
    unfold loseTracking <;> (try dsimp only) <;> simp

@[simp] theorem enterFilling_frame (s : State) :
    (enterFilling s).lane = s.lane ∧ (enterFilling s).scan = s.scan ∧ (enterFilling s).share = s.share ∧
    (enterFilling s).launch = s.launch ∧ (enterFilling s).pace = s.pace ∧ (enterFilling s).line = s.line ∧
    (enterFilling s).station = s.station ∧ (enterFilling s).report = s.report ∧
    (enterFilling s).loader = s.loader ∧ (enterFilling s).pending = s.pending ∧
    (enterFilling s).cfg = s.cfg := by
  refine ⟨?_, ?_, ?_, ?_, ?_, ?_, ?_, ?_, ?_, ?_, ?_⟩ <;>
    unfold enterFilling <;> (try dsimp only) <;> simp

@[simp] theorem resyncHold_frame (s : State) :
    (resyncHold s).scan = s.scan ∧ (resyncHold s).tracker = s.tracker ∧ (resyncHold s).pace = s.pace ∧
    (resyncHold s).report = s.report ∧ (resyncHold s).loader = s.loader ∧
    (resyncHold s).pending = s.pending ∧ (resyncHold s).cfg = s.cfg := by
  refine ⟨?_, ?_, ?_, ?_, ?_, ?_, ?_⟩ <;>
    unfold resyncHold <;> simp

@[simp] theorem implausibleInterval_frame (s : State) :
    (implausibleInterval s).scan = s.scan ∧ (implausibleInterval s).pace = s.pace ∧
    (implausibleInterval s).loader = s.loader ∧ (implausibleInterval s).pending = s.pending ∧
    (implausibleInterval s).cfg = s.cfg := by
  refine ⟨?_, ?_, ?_, ?_, ?_⟩ <;>
    unfold implausibleInterval <;> (try dsimp only) <;> (repeat' split) <;> simp

@[simp] theorem advanceCount_frame (count sinceHome : Nat) (loaded : Bool) (s : State) :
    (advanceCount count sinceHome loaded s).lane = s.lane ∧
    (advanceCount count sinceHome loaded s).scan = s.scan ∧
    (advanceCount count sinceHome loaded s).share = s.share ∧
    (advanceCount count sinceHome loaded s).launch = s.launch ∧
    (advanceCount count sinceHome loaded s).pace = s.pace ∧
    (advanceCount count sinceHome loaded s).report = s.report ∧
    (advanceCount count sinceHome loaded s).loader = s.loader ∧
    (advanceCount count sinceHome loaded s).pending = s.pending ∧
    (advanceCount count sinceHome loaded s).cfg = s.cfg := by
  refine ⟨?_, ?_, ?_, ?_, ?_, ?_, ?_, ?_, ?_⟩ <;>
    unfold advanceCount <;> (try dsimp only) <;> (repeat' split) <;> simp

@[simp] theorem takeTurn_frame (turn : TrayTurn) (loaded : Bool) (s : State) :
    (takeTurn turn loaded s).scan = s.scan ∧ (takeTurn turn loaded s).pace = s.pace ∧
    (takeTurn turn loaded s).loader = s.loader ∧ (takeTurn turn loaded s).pending = s.pending ∧
    (takeTurn turn loaded s).cfg = s.cfg := by
  refine ⟨?_, ?_, ?_, ?_, ?_⟩ <;> unfold takeTurn <;> (repeat' split) <;> simp

@[simp] theorem trackerTimes_frame (confirm : Bool) (s : State) :
    (trackerTimes confirm s).lane = s.lane ∧ (trackerTimes confirm s).scan = s.scan ∧
    (trackerTimes confirm s).window = s.window ∧ (trackerTimes confirm s).share = s.share ∧
    (trackerTimes confirm s).launch = s.launch ∧ (trackerTimes confirm s).pace = s.pace ∧
    (trackerTimes confirm s).line = s.line ∧ (trackerTimes confirm s).station = s.station ∧
    (trackerTimes confirm s).report = s.report ∧ (trackerTimes confirm s).loader = s.loader ∧
    (trackerTimes confirm s).pending = s.pending ∧ (trackerTimes confirm s).cfg = s.cfg := by
  refine ⟨?_, ?_, ?_, ?_, ?_, ?_, ?_, ?_, ?_, ?_, ?_, ?_⟩ <;>
    unfold trackerTimes <;> (try dsimp only) <;> (repeat' split) <;> simp

@[simp] theorem trackerTimesOut_frame (s : State) :
    (trackerTimesOut s).lane = s.lane ∧ (trackerTimesOut s).scan = s.scan ∧
    (trackerTimesOut s).window = s.window ∧ (trackerTimesOut s).share = s.share ∧
    (trackerTimesOut s).launch = s.launch ∧ (trackerTimesOut s).pace = s.pace ∧
    (trackerTimesOut s).line = s.line ∧ (trackerTimesOut s).station = s.station ∧
    (trackerTimesOut s).report = s.report ∧ (trackerTimesOut s).loader = s.loader ∧
    (trackerTimesOut s).pending = s.pending ∧ (trackerTimesOut s).cfg = s.cfg := by
  refine ⟨?_, ?_, ?_, ?_, ?_, ?_, ?_, ?_, ?_, ?_, ?_, ?_⟩ <;>
    unfold trackerTimesOut <;> (repeat' split) <;> simp

@[simp] theorem launchEvent_frame (reading : Option Bool) (s : State) :
    (launchEvent reading s).scan = s.scan ∧ (launchEvent reading s).tracker = s.tracker ∧
    (launchEvent reading s).pace = s.pace ∧ (launchEvent reading s).loader = s.loader ∧
    (launchEvent reading s).pending = s.pending ∧ (launchEvent reading s).cfg = s.cfg := by
  refine ⟨?_, ?_, ?_, ?_, ?_, ?_⟩ <;> unfold launchEvent <;> (try dsimp only) <;> simp

@[simp] theorem leaveMeasured_frame (n : SeqNo) (destination : Nat) (s : State) :
    (leaveMeasured n destination s).scan = s.scan ∧ (leaveMeasured n destination s).tracker = s.tracker ∧
    (leaveMeasured n destination s).window = s.window ∧ (leaveMeasured n destination s).share = s.share ∧
    (leaveMeasured n destination s).launch = s.launch ∧ (leaveMeasured n destination s).pace = s.pace ∧
    (leaveMeasured n destination s).line = s.line ∧ (leaveMeasured n destination s).station = s.station ∧
    (leaveMeasured n destination s).loader = s.loader ∧
    (leaveMeasured n destination s).pending = s.pending ∧ (leaveMeasured n destination s).cfg = s.cfg := by
  refine ⟨?_, ?_, ?_, ?_, ?_, ?_, ?_, ?_, ?_, ?_, ?_⟩ <;>
    unfold leaveMeasured <;> (try dsimp only) <;> (repeat' split) <;> simp

@[simp] theorem bindRecord_frame (d : ScanData) (s : State) :
    (bindRecord d s).tracker = s.tracker ∧ (bindRecord d s).window = s.window ∧
    (bindRecord d s).share = s.share ∧ (bindRecord d s).launch = s.launch ∧
    (bindRecord d s).pace = s.pace ∧ (bindRecord d s).line = s.line ∧
    (bindRecord d s).station = s.station ∧ (bindRecord d s).loader = s.loader ∧
    (bindRecord d s).pending = s.pending ∧ (bindRecord d s).cfg = s.cfg := by
  refine ⟨?_, ?_, ?_, ?_, ?_, ?_, ?_, ?_, ?_, ?_⟩ <;>
    unfold bindRecord <;> (try dsimp only) <;> (repeat' split) <;> simp

@[simp] theorem takeScan_frame (d : ScanData) (s : State) :
    (takeScan d s).tracker = s.tracker ∧ (takeScan d s).window = s.window ∧
    (takeScan d s).share = s.share ∧ (takeScan d s).launch = s.launch ∧ (takeScan d s).pace = s.pace ∧
    (takeScan d s).line = s.line ∧ (takeScan d s).station = s.station ∧ (takeScan d s).loader = s.loader ∧
    (takeScan d s).pending = s.pending ∧ (takeScan d s).cfg = s.cfg := by
  refine ⟨?_, ?_, ?_, ?_, ?_, ?_, ?_, ?_, ?_, ?_⟩ <;>
    unfold takeScan <;> (try dsimp only) <;> (repeat' split) <;> simp

@[simp] theorem measuredArrives_frame (n : SeqNo) (s : State) :
    (measuredArrives n s).tracker = s.tracker ∧ (measuredArrives n s).window = s.window ∧
    (measuredArrives n s).share = s.share ∧ (measuredArrives n s).launch = s.launch ∧
    (measuredArrives n s).pace = s.pace ∧ (measuredArrives n s).line = s.line ∧
    (measuredArrives n s).station = s.station ∧ (measuredArrives n s).loader = s.loader ∧
    (measuredArrives n s).pending = s.pending ∧ (measuredArrives n s).cfg = s.cfg := by
  refine ⟨?_, ?_, ?_, ?_, ?_, ?_, ?_, ?_, ?_, ?_⟩ <;>
    unfold measuredArrives <;> (try dsimp only) <;> (repeat' split) <;> simp

@[simp] theorem closeRecord_frame (chars : List ScanChar) (s : State) :
    (closeRecord chars s).tracker = s.tracker ∧ (closeRecord chars s).window = s.window ∧
    (closeRecord chars s).share = s.share ∧ (closeRecord chars s).launch = s.launch ∧
    (closeRecord chars s).pace = s.pace ∧ (closeRecord chars s).line = s.line ∧
    (closeRecord chars s).station = s.station ∧ (closeRecord chars s).loader = s.loader ∧
    (closeRecord chars s).pending = s.pending ∧ (closeRecord chars s).cfg = s.cfg := by
  refine ⟨?_, ?_, ?_, ?_, ?_, ?_, ?_, ?_, ?_, ?_⟩ <;>
    unfold closeRecord <;> (try dsimp only) <;> (repeat' split) <;> simp

@[simp] theorem takeChar_frame (s : State) (c : ScanChar) :
    (takeChar s c).tracker = s.tracker ∧ (takeChar s c).window = s.window ∧
    (takeChar s c).share = s.share ∧ (takeChar s c).launch = s.launch ∧ (takeChar s c).pace = s.pace ∧
    (takeChar s c).line = s.line ∧ (takeChar s c).station = s.station ∧ (takeChar s c).loader = s.loader ∧
    (takeChar s c).pending = s.pending ∧ (takeChar s c).cfg = s.cfg := by
  refine ⟨?_, ?_, ?_, ?_, ?_, ?_, ?_, ?_, ?_, ?_⟩ <;>
    unfold takeChar <;> (try dsimp only) <;> (repeat' split) <;> simp

@[simp] theorem restartPace_frame (s : State) :
    (restartPace s).lane = s.lane ∧ (restartPace s).scan = s.scan ∧ (restartPace s).tracker = s.tracker ∧
    (restartPace s).window = s.window ∧ (restartPace s).share = s.share ∧
    (restartPace s).launch = s.launch ∧ (restartPace s).line = s.line ∧
    (restartPace s).station = s.station ∧ (restartPace s).report = s.report ∧
    (restartPace s).loader = s.loader ∧ (restartPace s).pending = s.pending ∧ (restartPace s).cfg = s.cfg := by
  refine ⟨?_, ?_, ?_, ?_, ?_, ?_, ?_, ?_, ?_, ?_, ?_, ?_⟩ <;>
    unfold restartPace <;> (try dsimp only) <;> simp

@[simp] theorem raisePlace_frame (s : State) :
    (raisePlace s).scan = s.scan ∧ (raisePlace s).tracker = s.tracker ∧ (raisePlace s).window = s.window ∧
    (raisePlace s).share = s.share ∧ (raisePlace s).launch = s.launch ∧ (raisePlace s).pace = s.pace ∧
    (raisePlace s).line = s.line ∧ (raisePlace s).station = s.station ∧ (raisePlace s).report = s.report ∧
    (raisePlace s).loader = s.loader ∧ (raisePlace s).pending = s.pending ∧ (raisePlace s).cfg = s.cfg := by
  refine ⟨?_, ?_, ?_, ?_, ?_, ?_, ?_, ?_, ?_, ?_, ?_, ?_⟩ <;>
    unfold raisePlace <;> (try dsimp only) <;> simp

@[simp] theorem createRecord_frame (s : State) :
    (createRecord s).scan = s.scan ∧ (createRecord s).tracker = s.tracker ∧
    (createRecord s).window = s.window ∧ (createRecord s).share = s.share ∧
    (createRecord s).launch = s.launch ∧ (createRecord s).pace = s.pace ∧ (createRecord s).line = s.line ∧
    (createRecord s).station = s.station ∧ (createRecord s).report = s.report ∧
    (createRecord s).loader = s.loader ∧ (createRecord s).pending = s.pending ∧
    (createRecord s).cfg = s.cfg := by
  refine ⟨?_, ?_, ?_, ?_, ?_, ?_, ?_, ?_, ?_, ?_, ?_, ?_⟩ <;>
    unfold createRecord <;> (try dsimp only) <;> simp

@[simp] theorem deleteNoise_frame (r : Parcel) (s : State) :
    (deleteNoise r s).scan = s.scan ∧ (deleteNoise r s).tracker = s.tracker ∧
    (deleteNoise r s).window = s.window ∧ (deleteNoise r s).share = s.share ∧
    (deleteNoise r s).launch = s.launch ∧ (deleteNoise r s).pace = s.pace ∧
    (deleteNoise r s).line = s.line ∧ (deleteNoise r s).station = s.station ∧
    (deleteNoise r s).loader = s.loader ∧ (deleteNoise r s).pending = s.pending ∧
    (deleteNoise r s).cfg = s.cfg := by
  refine ⟨?_, ?_, ?_, ?_, ?_, ?_, ?_, ?_, ?_, ?_, ?_⟩ <;>
    unfold deleteNoise <;> (try dsimp only) <;> (repeat' split) <;> simp

@[simp] theorem becomeMeasured_frame (length : Nat) (s : State) :
    (becomeMeasured length s).tracker = s.tracker ∧ (becomeMeasured length s).window = s.window ∧
    (becomeMeasured length s).share = s.share ∧ (becomeMeasured length s).launch = s.launch ∧
    (becomeMeasured length s).pace = s.pace ∧ (becomeMeasured length s).line = s.line ∧
    (becomeMeasured length s).station = s.station ∧ (becomeMeasured length s).loader = s.loader ∧
    (becomeMeasured length s).pending = s.pending ∧ (becomeMeasured length s).cfg = s.cfg := by
  refine ⟨?_, ?_, ?_, ?_, ?_, ?_, ?_, ?_, ?_, ?_⟩ <;>
    unfold becomeMeasured <;> (try dsimp only) <;> simp

@[simp] theorem reportRejected_frame (s : State) :
    (reportRejected s).lane = s.lane ∧ (reportRejected s).scan = s.scan ∧
    (reportRejected s).tracker = s.tracker ∧ (reportRejected s).window = s.window ∧
    (reportRejected s).share = s.share ∧ (reportRejected s).launch = s.launch ∧
    (reportRejected s).pace = s.pace ∧ (reportRejected s).line = s.line ∧
    (reportRejected s).station = s.station ∧ (reportRejected s).loader = s.loader ∧
    (reportRejected s).pending = s.pending ∧ (reportRejected s).cfg = s.cfg := by
  refine ⟨?_, ?_, ?_, ?_, ?_, ?_, ?_, ?_, ?_, ?_, ?_, ?_⟩ <;>
    unfold reportRejected <;> (repeat' split) <;> simp

@[simp] theorem leaveStage_frame (s : State) :
    (leaveStage s).scan = s.scan ∧ (leaveStage s).tracker = s.tracker ∧ (leaveStage s).window = s.window ∧
    (leaveStage s).share = s.share ∧ (leaveStage s).launch = s.launch ∧ (leaveStage s).pace = s.pace ∧
    (leaveStage s).line = s.line ∧ (leaveStage s).station = s.station ∧ (leaveStage s).report = s.report ∧
    (leaveStage s).loader = s.loader ∧ (leaveStage s).pending = s.pending ∧ (leaveStage s).cfg = s.cfg := by
  refine ⟨?_, ?_, ?_, ?_, ?_, ?_, ?_, ?_, ?_, ?_, ?_, ?_⟩ <;>
    unfold leaveStage <;> simp

@[simp] theorem giveBackStage_frame (s : State) :
    (giveBackStage s).scan = s.scan ∧ (giveBackStage s).tracker = s.tracker ∧
    (giveBackStage s).window = s.window ∧ (giveBackStage s).share = s.share ∧
    (giveBackStage s).launch = s.launch ∧ (giveBackStage s).pace = s.pace ∧
    (giveBackStage s).line = s.line ∧ (giveBackStage s).station = s.station ∧
    (giveBackStage s).report = s.report ∧ (giveBackStage s).loader = s.loader ∧
    (giveBackStage s).pending = s.pending ∧ (giveBackStage s).cfg = s.cfg := by
  refine ⟨?_, ?_, ?_, ?_, ?_, ?_, ?_, ?_, ?_, ?_, ?_, ?_⟩ <;>
    unfold giveBackStage <;> (try dsimp only) <;> simp

@[simp] theorem removeRejected_frame (s : State) :
    (removeRejected s).scan = s.scan ∧ (removeRejected s).tracker = s.tracker ∧
    (removeRejected s).window = s.window ∧ (removeRejected s).share = s.share ∧
    (removeRejected s).launch = s.launch ∧ (removeRejected s).pace = s.pace ∧
    (removeRejected s).line = s.line ∧ (removeRejected s).station = s.station ∧
    (removeRejected s).loader = s.loader ∧ (removeRejected s).pending = s.pending ∧
    (removeRejected s).cfg = s.cfg := by
  refine ⟨?_, ?_, ?_, ?_, ?_, ?_, ?_, ?_, ?_, ?_, ?_⟩ <;>
    unfold removeRejected <;> simp

@[simp] theorem giveBackLaunch_frame (s : State) :
    (giveBackLaunch s).scan = s.scan ∧ (giveBackLaunch s).tracker = s.tracker ∧
    (giveBackLaunch s).window = s.window ∧ (giveBackLaunch s).share = s.share ∧
    (giveBackLaunch s).launch = s.launch ∧ (giveBackLaunch s).pace = s.pace ∧
    (giveBackLaunch s).line = s.line ∧ (giveBackLaunch s).station = s.station ∧
    (giveBackLaunch s).report = s.report ∧ (giveBackLaunch s).loader = s.loader ∧
    (giveBackLaunch s).pending = s.pending ∧ (giveBackLaunch s).cfg = s.cfg := by
  refine ⟨?_, ?_, ?_, ?_, ?_, ?_, ?_, ?_, ?_, ?_, ?_, ?_⟩ <;>
    unfold giveBackLaunch <;> (try dsimp only) <;> simp

@[simp] theorem ordinalClash_frame (s : State) :
    (ordinalClash s).scan = s.scan ∧ (ordinalClash s).tracker = s.tracker ∧
    (ordinalClash s).window = s.window ∧ (ordinalClash s).pace = s.pace ∧
    (ordinalClash s).loader = s.loader ∧ (ordinalClash s).pending = s.pending ∧
    (ordinalClash s).cfg = s.cfg := by
  refine ⟨?_, ?_, ?_, ?_, ?_, ?_, ?_⟩ <;>
    unfold ordinalClash <;> simp

@[simp] theorem setPaceLimit_frame (limit : Nat) (s : State) :
    (setPaceLimit limit s).lane = s.lane ∧ (setPaceLimit limit s).scan = s.scan ∧
    (setPaceLimit limit s).tracker = s.tracker ∧ (setPaceLimit limit s).window = s.window ∧
    (setPaceLimit limit s).share = s.share ∧ (setPaceLimit limit s).launch = s.launch ∧
    (setPaceLimit limit s).line = s.line ∧ (setPaceLimit limit s).station = s.station ∧
    (setPaceLimit limit s).report = s.report ∧ (setPaceLimit limit s).loader = s.loader ∧
    (setPaceLimit limit s).pending = s.pending ∧ (setPaceLimit limit s).cfg = s.cfg := by
  refine ⟨?_, ?_, ?_, ?_, ?_, ?_, ?_, ?_, ?_, ?_, ?_, ?_⟩ <;>
    unfold setPaceLimit <;> (try dsimp only) <;> simp

@[simp] theorem readEyes_frame (eyes : LaneEyes) (s : State) :
    (readEyes eyes s).scan = s.scan ∧ (readEyes eyes s).tracker = s.tracker ∧
    (readEyes eyes s).window = s.window ∧ (readEyes eyes s).share = s.share ∧
    (readEyes eyes s).launch = s.launch ∧ (readEyes eyes s).pace = s.pace ∧
    (readEyes eyes s).line = s.line ∧ (readEyes eyes s).station = s.station ∧
    (readEyes eyes s).report = s.report ∧ (readEyes eyes s).loader = s.loader ∧
    (readEyes eyes s).pending = s.pending ∧ (readEyes eyes s).cfg = s.cfg := by
  refine ⟨?_, ?_, ?_, ?_, ?_, ?_, ?_, ?_, ?_, ?_, ?_, ?_⟩ <;>
    unfold readEyes <;> (try dsimp only) <;> simp

@[simp] theorem clearLane_frame (s : State) :
    (clearLane s).scan = s.scan ∧ (clearLane s).tracker = s.tracker ∧ (clearLane s).window = s.window ∧
    (clearLane s).share = s.share ∧ (clearLane s).launch = s.launch ∧ (clearLane s).pace = s.pace ∧
    (clearLane s).line = s.line ∧ (clearLane s).station = s.station ∧ (clearLane s).report = s.report ∧
    (clearLane s).loader = s.loader ∧ (clearLane s).pending = s.pending ∧ (clearLane s).cfg = s.cfg := by
  refine ⟨?_, ?_, ?_, ?_, ?_, ?_, ?_, ?_, ?_, ?_, ?_, ?_⟩ <;>
    unfold clearLane <;> (try dsimp only) <;> simp

@[simp] theorem clearMarks_frame (s : State) :
    (clearMarks s).lane = s.lane ∧ (clearMarks s).scan = s.scan ∧ (clearMarks s).tracker = s.tracker ∧
    (clearMarks s).share = s.share ∧ (clearMarks s).launch = s.launch ∧ (clearMarks s).pace = s.pace ∧
    (clearMarks s).line = s.line ∧ (clearMarks s).station = s.station ∧ (clearMarks s).report = s.report ∧
    (clearMarks s).loader = s.loader ∧ (clearMarks s).pending = s.pending ∧ (clearMarks s).cfg = s.cfg := by
  refine ⟨?_, ?_, ?_, ?_, ?_, ?_, ?_, ?_, ?_, ?_, ?_, ?_⟩ <;>
    unfold clearMarks <;> simp

@[simp] theorem acceptClear_frame (s : State) :
    (acceptClear s).tracker = s.tracker ∧ (acceptClear s).loader = s.loader ∧
    (acceptClear s).pending = s.pending ∧ (acceptClear s).cfg = s.cfg := by
  refine ⟨?_, ?_, ?_, ?_⟩ <;> unfold acceptClear <;> (try dsimp only) <;> simp

@[simp] theorem clearTogether_frame (s : State) :
    (clearTogether s).tracker = s.tracker ∧ (clearTogether s).loader = s.loader ∧
    (clearTogether s).pending = s.pending ∧ (clearTogether s).cfg = s.cfg := by
  refine ⟨?_, ?_, ?_, ?_⟩ <;>
    unfold clearTogether <;> (repeat' split) <;> simp

@[simp] theorem startBlink_frame (s : State) :
    (startBlink s).lane = s.lane ∧ (startBlink s).scan = s.scan ∧ (startBlink s).tracker = s.tracker ∧
    (startBlink s).window = s.window ∧ (startBlink s).share = s.share ∧ (startBlink s).launch = s.launch ∧
    (startBlink s).line = s.line ∧ (startBlink s).station = s.station ∧ (startBlink s).report = s.report ∧
    (startBlink s).loader = s.loader ∧ (startBlink s).pending = s.pending ∧ (startBlink s).cfg = s.cfg := by
  refine ⟨?_, ?_, ?_, ?_, ?_, ?_, ?_, ?_, ?_, ?_, ?_, ?_⟩ <;>
    unfold startBlink <;> (try dsimp only) <;> simp

@[simp] theorem setPort_frame (acts : List PortAct) (s : State) :
    (setPort acts s).lane = s.lane ∧ (setPort acts s).scan = s.scan ∧
    (setPort acts s).tracker = s.tracker ∧ (setPort acts s).window = s.window ∧
    (setPort acts s).share = s.share ∧ (setPort acts s).launch = s.launch ∧
    (setPort acts s).pace = s.pace ∧ (setPort acts s).line = s.line ∧
    (setPort acts s).station = s.station ∧ (setPort acts s).report = s.report ∧
    (setPort acts s).pending = s.pending := by
  refine ⟨?_, ?_, ?_, ?_, ?_, ?_, ?_, ?_, ?_, ?_, ?_⟩ <;>
    unfold setPort <;> (try dsimp only) <;> simp

@[simp] theorem setPort_cfg (acts : List PortAct) (s : State) : (setPort acts s).cfg = s.cfg := rfl

@[simp] theorem failLoad_frame (s : State) :
    (failLoad s).lane = s.lane ∧ (failLoad s).scan = s.scan ∧ (failLoad s).tracker = s.tracker ∧
    (failLoad s).window = s.window ∧ (failLoad s).share = s.share ∧ (failLoad s).launch = s.launch ∧
    (failLoad s).pace = s.pace ∧ (failLoad s).line = s.line ∧ (failLoad s).pending = s.pending := by
  refine ⟨?_, ?_, ?_, ?_, ?_, ?_, ?_, ?_, ?_⟩ <;>
    unfold failLoad <;> (try dsimp only) <;> simp

@[simp] theorem handOver_frame (conf : Clamped Settings) (s : State) :
    (handOver conf s).lane = s.lane ∧ (handOver conf s).scan = s.scan ∧
    (handOver conf s).tracker = s.tracker ∧ (handOver conf s).window = s.window ∧
    (handOver conf s).share = s.share ∧ (handOver conf s).line = s.line ∧
    (handOver conf s).station = s.station ∧ (handOver conf s).pending = s.pending := by
  refine ⟨?_, ?_, ?_, ?_, ?_, ?_, ?_, ?_⟩ <;>
    unfold handOver <;> (try dsimp only) <;> (repeat' split) <;> simp

@[simp] theorem endLoading_frame (eyes : LaneEyes) (s : State) :
    (endLoading eyes s).scan = s.scan ∧ (endLoading eyes s).tracker = s.tracker ∧
    (endLoading eyes s).window = s.window ∧ (endLoading eyes s).share = s.share ∧
    (endLoading eyes s).pace = s.pace ∧ (endLoading eyes s).report = s.report ∧
    (endLoading eyes s).loader = s.loader ∧ (endLoading eyes s).pending = s.pending ∧
    (endLoading eyes s).cfg = s.cfg := by
  refine ⟨?_, ?_, ?_, ?_, ?_, ?_, ?_, ?_, ?_⟩ <;>
    unfold endLoading <;> (try dsimp only) <;> (repeat' split) <;> simp

@[simp] theorem elapse_frame (s : State) :
    (elapse s).window = s.window ∧ (elapse s).share = s.share ∧ (elapse s).line = s.line ∧
    (elapse s).station = { s.station with again := none } ∧ (elapse s).report = s.report ∧ (elapse s).loader = s.loader ∧
    (elapse s).pending = s.pending ∧ (elapse s).cfg = s.cfg := by
  refine ⟨?_, ?_, ?_, ?_, ?_, ?_, ?_, ?_⟩ <;>
    unfold elapse <;> simp [tickStation]

@[simp] theorem tick_frame (s : State) :
    (tick s).window = s.window ∧ (tick s).share = s.share ∧ (tick s).line = s.line ∧
    (tick s).station = { s.station with again := none } ∧ (tick s).report = s.report ∧ (tick s).loader = s.loader ∧
    (tick s).cfg = s.cfg := by
  refine ⟨?_, ?_, ?_, ?_, ?_, ?_, ?_⟩ <;> unfold tick <;> (try dsimp only) <;> simp

end Sys2Proof.Machine
end

