-- ==== Sys2Proof/Laws/Lists.lean ====
section
/-! SUPPORT. What the list operations of the model do: the first member that satisfies a test, changed or
erased, in a list split at that member. -/

namespace Sys2Proof.Machine

variable {α : Type}

theorem modifyFirst_split (p : α → Bool) (f : α → α) (before after : List α) (x : α)
    (hb : ∀ y ∈ before, p y = false) (hx : p x = true) :
    modifyFirst p f (before ++ x :: after) = before ++ f x :: after := by
  induction before with
  | nil => simp [modifyFirst, hx]
  | cons y ys ih =>
    simp only [List.cons_append, modifyFirst, hb y (by simp), Bool.false_eq_true, if_false]
    rw [ih fun z hz => hb z (by simp [hz])]

theorem modifyFirst_none (p : α → Bool) (f : α → α) (l : List α) (h : ∀ y ∈ l, p y = false) :
    modifyFirst p f l = l := by
  induction l with
  | nil => rfl
  | cons y ys ih => simp only [modifyFirst, h y (by simp), Bool.false_eq_true, if_false,
      ih fun z hz => h z (by simp [hz])]

@[simp] theorem modifyFirst_length (p : α → Bool) (f : α → α) (l : List α) :
    (modifyFirst p f l).length = l.length := by
  induction l with
  | nil => rfl
  | cons y ys ih => unfold modifyFirst; split <;> simp [ih]

theorem modifyFirst_map {β : Type} (p : α → Bool) (f : α → α) (g : α → β) (h : ∀ x, g (f x) = g x)
    (l : List α) : (modifyFirst p f l).map g = l.map g := by
  induction l with
  | nil => rfl
  | cons y ys ih => unfold modifyFirst; split <;> simp [ih, h]

/-- Where a key names at most one member, changing the first member with a key changes each one with it. -/
theorem modifyFirst_unique {β : Type} [BEq β] [LawfulBEq β] (key : α → β) (b : β) (f : α → α) (l : List α)
    (h : (l.map key).Nodup) :
    modifyFirst (key · == b) f l = l.map (fun x => if key x == b then f x else x) := by
  induction l with
  | nil => rfl
  | cons y ys ih =>
    have hn := List.nodup_cons.mp h
    by_cases hy : key y == b
    · have hs : ∀ x ∈ ys, (key x == b) = false := fun x hx => by
        rw [← eq_of_beq hy]
        exact beq_eq_false_iff_ne.mpr fun e => hn.1 (e ▸ List.mem_map_of_mem hx)
      have he : ys.map (fun x => if key x == b then f x else x) = ys.map id :=
        List.map_congr_left fun x hx => by simp [hs x hx]
      simp only [modifyFirst, List.map_cons, hy, if_true, he, List.map_id]
    · simp only [modifyFirst, List.map_cons, hy, Bool.false_eq_true, if_false, ih hn.2]

/-- A list with a member that satisfies a test, split at the first such member. -/
theorem exists_split_first (p : α → Bool) (l : List α) (h : ∃ x ∈ l, p x = true) :
    ∃ before x after, l = before ++ x :: after ∧ p x = true ∧ ∀ y ∈ before, p y = false := by
  induction l with
  | nil => simp at h
  | cons y ys ih =>
    by_cases hy : p y = true
    · exact ⟨[], y, ys, rfl, hy, by simp⟩
    · obtain ⟨b, x, a, e, hx, hb⟩ := ih (by
        obtain ⟨x, hx, px⟩ := h
        rcases List.mem_cons.mp hx with rfl | hx
        · exact absurd px hy
        · exact ⟨x, hx, px⟩)
      refine ⟨y :: b, x, a, by simp [e], hx, fun z hz => ?_⟩
      rcases List.mem_cons.mp hz with rfl | hz
      · simpa using hy
      · exact hb z hz

theorem find?_split (p : α → Bool) (before after : List α) (x : α)
    (hb : ∀ y ∈ before, p y = false) (hx : p x = true) :
    (before ++ x :: after).find? p = some x := by
  rw [List.find?_append, List.find?_eq_none.mpr (fun y hy => by simp [hb y hy])]
  simp [hx]

theorem eraseP_split (p : α → Bool) (before after : List α) (x : α)
    (hb : ∀ y ∈ before, p y = false) (hx : p x = true) :
    (before ++ x :: after).eraseP p = before ++ after := by
  rw [List.eraseP_append_right _ (fun y hy => by simp [hb y hy])]
  simp [hx]

/-- Changing the first member that satisfies a test leaves a count that the change does not touch. -/
theorem modifyFirst_countP (p q : α → Bool) (f : α → α) (h : ∀ x, q (f x) = q x) (l : List α) :
    (modifyFirst p f l).countP q = l.countP q := by
  induction l with
  | nil => rfl
  | cons y ys ih => unfold modifyFirst; split <;> simp [List.countP_cons, ih, h]

end Sys2Proof.Machine
end

