-- ==== Sys2Proof/Laws/Ops.lean ====
section
/-! SUPPORT. For each shared operation what it does, said once as one equation or as what holds afterwards, so
that a proof about a command cites it and does not unfold the operation. -/

namespace Sys2Proof.Machine

/-! ## Flags, counters and the hold set (R156, R176, R178) -/

@[simp] theorem EventFlags.get_put (e : EventFlags) (f g : Flag) (b : Bool) :
    (e.put f b).get g = if g = f then b else e.get g := by
  cases f <;> cases g <;> rfl

@[simp] theorem EventFlags.get_keep (e : EventFlags) (p : Flag → Bool) (f : Flag) :
    (e.keep p).get f = (e.get f && p f) := by
  cases f <;> rfl

@[simp] theorem Counters.get_raise (c : Counters) (k l : Counter) :
    (c.raise k).get l = if l = k then min (c.get l + 1) 65535 else c.get l := by
  cases k <;> cases l <;> rfl

theorem Counters.get_le_raise (c : Counters) (k l : Counter) (h : c.get l ≤ 65535) :
    c.get l ≤ (c.raise k).get l := by
  rw [Counters.get_raise]
  split <;> omega

@[simp] theorem HoldSet.has_put (h : HoldSet) (b : Bool) (c d : HoldCause) :
    (h.put b c).has d = if d = c then b else h.has d := by
  cases c <;> cases d <;> rfl

theorem HoldSet.isEmpty_iff (h : HoldSet) : h.isEmpty = true ↔ ∀ c, h.has c = false := by
  constructor
  · intro e c
    cases c <;> simp_all [HoldSet.isEmpty, HoldSet.has]
  · intro e
    have := e .bank; have := e .tracking; have := e .line; have := e .horizon
    simp_all [HoldSet.isEmpty, HoldSet.has]

theorem HoldSet.isEmpty_put_true (h : HoldSet) (c : HoldCause) : (h.put true c).isEmpty = false := by
  cases c <;> simp [HoldSet.isEmpty, HoldSet.put]

/-! ## The parcel queue (R12, R14) -/

variable {s : State} {n : SeqNo} {before after : List Parcel} {r : Parcel}

theorem FirstRecord.isSeq {among : Phase → Bool} (h : FirstRecord s among n before r after) :
    (∀ q ∈ before, Parcel.isSeq among n q = false) ∧ Parcel.isSeq among n r = true := by
  refine ⟨fun q hq => ?_, by simp [Parcel.isSeq, h.phase, h.seq]⟩
  by_cases hp : among q.phase = true
  · simpa [Parcel.isSeq, hp] using h.first q hq hp
  · simp [Parcel.isSeq, hp]

theorem FirstRecord.recordOf {among : Phase → Bool} (h : FirstRecord s among n before r after) :
    recordOf among s n = some r := by
  show List.find? _ s.lane.queue = _
  rw [h.queue, find?_split _ _ _ _ h.isSeq.1 h.isSeq.2]

theorem FirstRecord.phaseOf (h : FirstRecord s Phase.isClaim n before r after) :
    phaseOf s n = some r.phase := by
  simp [Machine.phaseOf, h.recordOf]

theorem FirstRecord.updateRecord {among : Phase → Bool} (f : Parcel → Parcel)
    (h : FirstRecord s among n before r after) :
    updateRecord among n f s = { s with lane := { s.lane with queue := before ++ f r :: after } } := by
  simp only [Machine.updateRecord, withQueue, h.queue, modifyFirst_split _ _ _ _ _ h.isSeq.1 h.isSeq.2]
  rfl

theorem FirstRecord.deleteRecord {among : Phase → Bool} (h : FirstRecord s among n before r after) :
    deleteRecord among n s = { s with lane := { s.lane with queue := before ++ after } } := by
  simp only [Machine.deleteRecord, withQueue, h.queue, eraseP_split _ _ _ _ h.isSeq.1 h.isSeq.2]
  rfl

theorem updateRecord_length (among : Phase → Bool) (f : Parcel → Parcel) (s : State) (n : SeqNo) :
    (updateRecord among n f s).lane.queue.length = s.lane.queue.length := by
  simp [updateRecord, withQueue]

theorem deleteRecord_length_le (among : Phase → Bool) (s : State) (n : SeqNo) :
    (deleteRecord among n s).lane.queue.length ≤ s.lane.queue.length := by
  simpa [deleteRecord, withQueue] using List.length_eraseP_le

/-- The record of a commitment goes back to Staged and the commitment is gone. -/
theorem FirstRecord.discardCommitment {k : Commitment}
    (h : FirstRecord s Phase.isClaim k.seq before r after) :
    discardCommitment k s =
      { s with
        lane := { s.lane with queue := before ++ { r with phase := .staged, placement := none } :: after }
        launch := { s.launch with commitment := none } } := by
  simp only [Machine.discardCommitment, h.updateRecord]
  rfl

/-! ## Acceptance and the stall timers (R5, R19) -/

theorem stallCondition_withStall (s : State) (t : StallTimers) (z : Zone) :
    stallCondition (s.withLane { s.lane with stall := t }) z = stallCondition s z := by
  cases z <;> rfl

theorem accepts_withStall (s : State) (t : StallTimers) :
    accepts (s.withLane { s.lane with stall := t }) = accepts s := rfl

theorem transferBlocked_withStall (s : State) (t : StallTimers) :
    transferBlocked (s.withLane { s.lane with stall := t }) = transferBlocked s := rfl

/-- At a clear transfer eye no parcel blocks the measure belt (R4). -/
theorem transferBlocked_of_clear (s : State) (h : s.lane.transferEye = false) : transferBlocked s = false := by
  simp [transferBlocked, waitsAtTransfer, strayAtTransfer, h]

/-- The lane after the deletion of noise (R1, R9). -/
theorem deleteNoise_lane (r : Parcel) (s : State) :
    (deleteNoise r s).lane = { s.lane with
      queue := s.lane.queue.eraseP (·.phase == .measuring)
      transferStray := s.lane.transferStray || (s.lane.transferEye && r.atTransfer)
      placeCount :=
        if r.loweredCount then min (s.lane.placeCount + 1) Config.placeCountMax else s.lane.placeCount } := rfl

theorem stageOccupied_acceptWaiting (s : State) (h : accepts s = true) :
    stageOccupied (acceptWaiting s) = true := by
  have hw : ∃ x ∈ s.lane.queue, Parcel.inZone .measure x = true := by
    have : (measureFront s).isSome = true := by
      simp only [accepts, frontIsDecided, Bool.and_eq_true] at h
      cases hm : measureFront s <;> simp_all
    simpa [measureFront] using this
  obtain ⟨b, x, a, e, hx, hb⟩ := exists_split_first _ _ hw
  simp [acceptWaiting, h, stageOccupied, withQueue, e, modifyFirst_split _ _ _ _ _ hb hx, Parcel.inZone]

/-- After what follows at once from the lane's conditions, no acceptance is outstanding. -/
@[simp] theorem accepts_settleLane (s : State) : accepts (settleLane s) = false := by
  show accepts (updateStall (acceptWaiting s)) = false
  rw [updateStall, accepts_withStall]
  by_cases h : accepts s = true
  · simp [accepts, stageOccupied_acceptWaiting s h]
  · simp [acceptWaiting, h]

/-- After it, each stall timer runs exactly while its start condition holds. -/
theorem settleLane_stall (s : State) (z : Zone) :
    ((settleLane s).lane.stall.get z).isSome = stallCondition (settleLane s) z := by
  show ((updateStall (acceptWaiting s)).lane.stall.get z).isSome = stallCondition (updateStall (acceptWaiting s)) z
  generalize acceptWaiting s = t
  rw [updateStall, stallCondition_withStall]
  cases z <;> simp only [StallTimers.get, State.withLane_lane, stallTimer] <;> split <;> simp_all

/-- It changes the queue and the stall timers alone. -/
theorem settleLane_eq (s : State) :
    settleLane s = { s with lane := { s.lane with
      queue := (settleLane s).lane.queue, stall := (settleLane s).lane.stall } } := by
  simp only [settleLane, acceptWaiting, updateStall]
  split <;> rfl

theorem settleLane_queue_of_not_accepts (s : State) (h : accepts s = false) :
    (settleLane s).lane.queue = s.lane.queue := by
  simp [settleLane, acceptWaiting, h, updateStall]

theorem settleLane_queue_of_accepts (s : State) (hq : s.lane.queue = before ++ r :: after)
    (hb : ∀ q ∈ before, q.zone ≠ .measure) (hr : r.zone = .measure) (h : accepts s = true) :
    (settleLane s).lane.queue = before ++ { r with zone := .stage } :: after := by
  simp only [settleLane, acceptWaiting, h, if_true, updateStall, State.withLane_lane, withQueue, hq]
  exact modifyFirst_split _ _ _ _ _ (fun q m => by simpa [Parcel.inZone] using hb q m)
    (by simp [Parcel.inZone, hr])

theorem settleLane_queue_length (s : State) :
    (settleLane s).lane.queue.length = s.lane.queue.length := by
  simp only [settleLane, acceptWaiting, updateStall]
  split <;> simp [withQueue]

/-! ## The transmit queue (R68 to R71) -/

/-- The transmit queue after a DEMAND or STAT has been offered (R70). -/
def requested (b : TxBody) (q : List TxFrame) : List TxFrame :=
  if q.any (·.body == b) then
    modifyFirst (·.body == b) (fun f => { f with renewed := f.renewed || f.inPassage }) q
  else q ++ [.fresh b]

theorem request_eq (b : TxBody) (s : State) :
    request b s = { s with line := { s.line with queue := requested b s.line.queue } } := by
  simp only [request, requested, enqueue, withTxQueue, State.withLine]
  split <;> rfl

theorem offerStat_eq (s : State) :
    offerStat s = if active s then
      { s with line := { s.line with queue := requested .stat s.line.queue } } else s := by
  simp only [offerStat, request_eq]

/-- An offer of a DEMAND or STAT leaves one in the queue. -/
theorem exists_requested (b : TxBody) (q : List TxFrame) : ∃ f ∈ requested b q, f.body = b := by
  unfold requested
  split
  · rename_i h
    obtain ⟨bf, x, a, e, hx, hb⟩ := exists_split_first (·.body == b) q (by simpa using h)
    rw [e, modifyFirst_split _ _ _ _ _ hb hx]
    exact ⟨_, List.mem_append_right _ (List.mem_cons_self), by simpa using hx⟩
  · exact ⟨.fresh b, by simp, rfl⟩

/-- An offer adds no frame of another body to a count. -/
theorem requested_countP (b : TxBody) (p : TxBody → Bool) (q : List TxFrame) :
    (requested b q).countP (fun f => p f.body) =
      q.countP (fun f => p f.body) + if q.any (·.body == b) = false ∧ p b = true then 1 else 0 := by
  unfold requested
  split
  · rename_i h
    rw [modifyFirst_countP]
    · simp [h]
    · intro x; rfl
  · rename_i h
    simp only [Bool.not_eq_true] at h
    simp [List.countP_append, List.countP_cons, TxFrame.fresh, h]

theorem enqueue_countP (b : TxBody) (p : TxBody → Bool) (s : State) :
    (enqueue b s).line.queue.countP (fun f => p f.body) =
      s.line.queue.countP (fun f => p f.body) + if p b = true then 1 else 0 := by
  simp [enqueue, withTxQueue, List.countP_append, List.countP_cons, TxFrame.fresh]

/-- Which frames stay when removal is asked: those not asked for, and those in passage, marked. -/
theorem mem_askRemoval (p : TxBody → Bool) (s : State) (f : TxFrame) :
    f ∈ (askRemoval p s).line.queue ↔
      (f ∈ s.line.queue ∧ p f.body = false) ∨
      (∃ g ∈ s.line.queue, p g.body = true ∧ g.inPassage = true ∧ f = { g with removalAsked := true }) := by
  show f ∈ List.map _ _ ↔ _
  rw [List.mem_map]
  constructor
  · rintro ⟨g, hg, rfl⟩
    obtain ⟨hg, hk⟩ := List.mem_filter.mp hg
    by_cases hp : p g.body = true
    · exact .inr ⟨g, hg, hp, by simpa [hp] using hk, if_pos hp⟩
    · exact .inl ⟨by simp [hp, hg], by simp [hp]⟩
  · rintro (⟨hf, hp⟩ | ⟨g, hg, hp, hi, rfl⟩)
    · exact ⟨f, List.mem_filter.mpr ⟨hf, by simp [hp]⟩, by simp [hp]⟩
    · exact ⟨g, List.mem_filter.mpr ⟨hg, by simp [hi]⟩, by simp [hp]⟩

theorem askRemoval_countP_le (p q : TxBody → Bool) (s : State) :
    (askRemoval p s).line.queue.countP (fun f => q f.body) ≤ s.line.queue.countP (fun f => q f.body) := by
  show List.countP _ (List.map _ _) ≤ _
  rw [List.countP_map]
  refine Nat.le_trans (Nat.le_of_eq (List.countP_congr fun f _ => ?_))
    (List.Sublist.countP_le List.filter_sublist)
  show q (if p f.body then { f with removalAsked := true } else f).body = true ↔ _
  split <;> rfl

/-! ## The receive frame assembler (R56, R61) -/

theorem awaitStart_eq (s : State) : awaitStart s = s.waiting := rfl

theorem frameError_eq (s : State) : frameError s = s.errored := rfl

theorem startRecognised_iff (run : Nat) : startRecognised run = true ↔ 96 ≤ run ∧ run < 256 := by
  simp only [startRecognised, Bool.and_eq_true, decide_eq_true_eq]
  simp only [Config.tb]
  omega

theorem receives_iff (a : Arrival) (s : State) : receives a s = true ↔ LineTakes s a := by
  cases a <;> simp [receives, LineTakes, startRecognised_iff, and_assoc]

/-- A frame completes exactly where it arrives: what every notice command asks. -/
theorem completes_iff (a : Arrival) (bits : Bits) (s : State) :
    completes a bits s = true ↔ FrameArrives s a bits := by
  cases a <;> simp [completes, FrameArrives, receives_iff, continues, beginsWith]

/-! ## The window (R76, R81) -/

theorem entryOf_split {t : Tray} {near far : List Entry} {x : Entry} (hw : s.window.entries = near ++ x :: far)
    (hx : x.tray = t) (hn : ∀ y ∈ near, y.tray ≠ t) : entryOf s t = some x := by
  show List.find? _ s.window.entries = _
  rw [hw]
  exact find?_split _ _ _ _ (fun y hy => by simpa using hn y hy) (by simp [hx])

theorem updateEntry_split {t : Tray} {near far : List Entry} {x : Entry} (f : Entry → Entry)
    (hw : s.window.entries = near ++ x :: far) (hx : x.tray = t) (hn : ∀ y ∈ near, y.tray ≠ t) :
    updateEntry t f s = { s with window := { s.window with entries := near ++ f x :: far } } := by
  simp only [updateEntry, withEntries, hw]
  rw [modifyFirst_split _ _ _ _ _ (fun y hy => by simpa using hn y hy) (by simp [hx])]
  rfl

theorem setMark_trays (m : OwnMark) (t : Tray) (s : State) :
    (setMark m t s).window.entries.map (·.tray) = s.window.entries.map (·.tray) := by
  show (modifyFirst _ _ _).map _ = _
  exact modifyFirst_map _ (fun e : Entry => { e with mark := m }) (·.tray) (fun _ => rfl) _

theorem setMarks_trays (m : OwnMark) (ts : List Tray) (s : State) :
    (setMarks m ts s).window.entries.map (·.tray) = s.window.entries.map (·.tray) := by
  induction ts generalizing s with
  | nil => rfl
  | cons t ts ih => exact (ih _).trans (setMark_trays m t s)

theorem setDecided_entries (t : Tray) (s : State) (h : (s.window.entries.map (·.tray)).Nodup) :
    setDecided t s = { s with window := { s.window with
      entries := s.window.entries.map (fun x => if x.tray == t then { x with decided := true } else x) } } :=
  congrArg (withEntries s) (modifyFirst_unique Entry.tray t _ _ h)

/-- The decided flags of several trays (R108). -/
theorem foldl_setDecided (ts : List Tray) (s : State) (h : (s.window.entries.map (·.tray)).Nodup) :
    ts.foldl (fun s t => setDecided t s) s = { s with window := { s.window with
      entries := s.window.entries.map (fun x => if x.tray ∈ ts then { x with decided := true } else x) } } := by
  induction ts generalizing s with
  | nil => simp
  | cons t ts ih =>
    have e := setDecided_entries t s h
    rw [List.foldl_cons, ih _ (by rw [e]; simpa [Function.comp_def, apply_ite] using h), e]
    simp only [List.map_map, Function.comp_def]
    congr 2
    refine List.map_congr_left fun x _ => ?_
    by_cases h1 : x.tray = t <;> by_cases h2 : x.tray ∈ ts <;> simp [h1, h2]

theorem passOver_eq (e h0 : Nat) (s : State) (h : (s.window.entries.map (·.tray)).Nodup) :
    passOver e h0 s = { s with window := { s.window with
      entries := s.window.entries.map (fun x =>
        if x.tray ∈ (List.range (s.launch.horizon - h0)).map (fun i => trayAdd s.cfg.trays e (h0 + i))
          then { x with decided := true } else x) } } := by
  have hc : ∀ ts : List Nat, ∀ u : State, u.cfg = s.cfg →
      ts.foldl (fun s i => setDecided (trayAdd s.cfg.trays e (h0 + i)) s) u =
        (ts.map (fun i => trayAdd s.cfg.trays e (h0 + i))).foldl (fun s t => setDecided t s) u := by
    intro ts
    induction ts with
    | nil => intro u _; rfl
    | cons t ts ih => intro u hu; simp only [List.foldl_cons, List.map_cons, hu]; exact ih _ (by simp [hu])
  exact (hc _ s rfl).trans (foldl_setDecided _ s h)

/-! ## The interval timer at a timeout (R39, R41, R53) -/

/-- A timeout stops the timer; in Filling or Locked it draws the confirm eye's level where the latch is set. -/
theorem trackerTimesOut_tracker (s : State) :
    (trackerTimesOut s).tracker = if tracked s then
      { s.tracker with
        timer := none
        latch := s.tracker.latch && Config.confirmEyeStaysBlocked s.tracker.timeouts
        timeouts := s.tracker.timeouts + 1 }
    else { s.tracker with timer := none } := by
  unfold trackerTimesOut
  split <;> simp

/-- An eye that was not seen blocked since the last event leaves the latch clear (R39). -/
theorem trackerTimesOut_latch (s : State) (h : s.tracker.latch = false) :
    (trackerTimesOut s).tracker.latch = false := by
  rw [trackerTimesOut_tracker]
  split <;> simp [h]

/-! ## Station control (R156, R157, R160) -/

theorem leaveRunning_of_no_commitment (h : s.launch.commitment = none) : leaveRunning s = s := by
  simp [leaveRunning, h]

theorem leaveRunning_of_announced {k : Commitment} (h : s.launch.commitment = some k)
    (hp : phaseOf s k.seq = some .announced) : leaveRunning s = s := by
  simp [leaveRunning, h, hp]

theorem addHold_of_has {c : HoldCause} (h : s.station.holds.has c = true) : addHold c s = s := by
  simp [addHold, h]

theorem removeHold_of_not_has {c : HoldCause} (h : s.station.holds.has c = false) : removeHold c s = s := by
  simp [removeHold, h]

/-- The station after a cause has been added to the hold set. -/
theorem addHold_station (c : HoldCause) (s : State) (h : s.station.holds.has c = false) :
    (addHold c s).station =
      { s.station with
        holds := s.station.holds.put true c
        mode := if s.station.mode = .running ∧ s.station.holds.isEmpty = true then .holding
          else s.station.mode } := by
  simp only [addHold, h, Bool.false_eq_true, if_false]
  by_cases hm : s.station.mode = .running <;> by_cases he : s.station.holds.isEmpty = true <;>
    simp [hm, he, setHolds, setMode]

/-- The station after a cause has been removed from the hold set. -/
theorem removeHold_station (c : HoldCause) (s : State) (h : s.station.holds.has c = true) :
    (removeHold c s).station =
      { s.station with
        holds := s.station.holds.put false c
        mode := if s.station.mode = .holding ∧ (s.station.holds.put false c).isEmpty = true then .running
          else s.station.mode } := by
  simp only [removeHold, h, if_true]
  by_cases hm : s.station.mode = .holding <;> by_cases he : (s.station.holds.put false c).isEmpty = true <;>
    simp [hm, he, setHolds, setMode]

/-- Entry into Faulted leaves Faulted with its cause. -/
@[simp] theorem enterFaulted_station (cause : FaultCause) (s : State) :
    (enterFaulted cause s).station.mode = .faulted ∧ (enterFaulted cause s).station.cause = cause := by
  simp [enterFaulted]

end Sys2Proof.Machine
end

