-- ==== Sys2Proof/WellFormed.lean ====
section
/-! DEFINITION. Which commands say what their row of spec/opcode_table.json says. A command that fails the
check is no event of its row: all but the BANK rows' leave the part unchanged or are counted as the frame
they carry says, and a BANK frame that carries another row's order is refused by name (log entry 8). -/

namespace Sys2Proof

/-- Whether a BANK row's frame carries the row's order, or the code that names none, or does not fit the
length of its kind (R62, R64, R183). -/
def bankRowFits (order : Nat) (rest : Bits) : Bool :=
  let bits := Machine.natBits 3 3 ++ rest
  bits.length != Machine.Kind.bank.length || Machine.bankOrderOf bits == order ||
    Machine.bankOrderOf bits == 3

/-- Whether the input was negated for long enough for a press (R151). -/
def Quiet.debounced : Quiet → Bool
  | .sinceLoading => true
  | .ticks n => Config.debounceTicks ≤ n

/-- Whether a cause can be a bit error (R59). -/
def BitErrorCause.fits : BitErrorCause → Bool
  | .readZero bit => 7 ≤ bit
  | .readOne _ => true
  | .timing seen => Machine.breaksWindow seen
  | .startHeld run => 4 * Config.tb ≤ run

/-- Whether a frame can come to the assembler in this way: its start is one (R56). -/
def Arrival.fits : Arrival → Bool
  | .fromStart run => Machine.startRecognised run
  | .goesOn => true

/-- Whether the sender would begin here: after 4 Tb of recessive line (R57). -/
def LineAtBegin.fits : LineAtBegin → Bool
  | .idle recessive | .driven recessive _ => 4 * Config.tb ≤ recessive

/-- Whether an attempt can end so: the clock line is found low before the transfer's stop condition (R169,
R170). -/
def RefusalCause.fits : RefusalCause → Bool
  | .addressForWriting | .wordAddress | .addressForReading => true
  | .clockHeldLow passed => passed < Machine.transferActs.length

/-- A command that is an event of its row. -/
def Instr.WellFormed : Instr → Bool
  | .powerOnReset => true
  | .lineRecovery samples => Machine.recoverLine samples != .unfinished
  | .refusal cause => cause.fits
  | .transfer _ _ => true
  | .placeEyeFrontEdge => true
  | .measureEyeFrontEdge => true
  | .measureEyeClearing => true
  | .transferEyeFrontEdge => true
  | .transferEyeClearing => true
  | .stageEyeFrontEdge => true
  | .stageEyeClearing => true
  | .exitEyeFrontEdge => true
  | .exitEyeClearing => true
  | .stallTimerRunsOut _ => true
  | .scanRecord chars => !chars.isEmpty
  | .scanWindowRunsOut _ => true
  | .trayEdgeEvent _ _ _ _ => true
  | .confirmEyeBlocked => true
  | .timeout => true
  | .launchMoment => true
  | .exitWindowClosing => true
  | .joiningEnds recessive => 4 * Config.tb ≤ recessive
  | .frameBegin line => line.fits
  | .lostArbitration bit => bit < 7
  | .bitError cause => cause.fits
  | .bitTimingError seen => seen.arrival.fits && Machine.breaksWindow seen.what
  | .lineFault dominant => 4 * Config.tb ≤ dominant
  | .lineConditionNormal recessive => 16 * Config.tb ≤ recessive
  | .claimCompletion => true
  | .holdCompletion => true
  | .frameCompletion => true
  | .claimNotice frame => frame.arrival.fits
  | .holdNotice frame => frame.arrival.fits
  | .vacateNotice frame => frame.arrival.fits
  | .demandNotice frame => frame.arrival.fits
  | .statNotice frame => frame.arrival.fits
  | .bankHold frame => frame.arrival.fits && bankRowFits 0 frame.what
  | .bankResume frame => frame.arrival.fits && bankRowFits 1 frame.what
  | .bankPace frame => frame.arrival.fits && bankRowFits 2 frame.what
  | .start quiet => quiet.debounced
  | .stop quiet => quiet.debounced
  | .clear quiet _ => quiet.debounced
  | .paceTimerRunsOut => true
  | .faultBlinkPhase => true
  | .faultBlinkEnd => true
  | .unknownKindFrame frame => frame.arrival.fits

end Sys2Proof
end

