-- ==== Sys2Proof/Tests/Slice0.lean ====
section
/-! SUPPORT. Tests of the model's author: a smoke test of every check of `Instr.WellFormed`, one or two tests of
each command with results taken from the rules and the worked sequences of spec/, and for every statement of
Certificates/Slice0/Obligations.lean that has hypotheses a state that meets them. -/

namespace Sys2Proof.Tests

open Sys2Proof.Machine

/-! ## A small station -/

/-- The settings of the worked cases (chapter Commit, Launch and Merge, Worked Case: Launch Timing): ordinal 4,
N 200, offset 30, pitch 800, W 20, c 2, d_path 2600, a 8000; v_conv 600 and noise floor 30. -/
def settings : Settings :=
  { Settings.blank with
    ordinal := 4
    offset := 30
    trays := 200
    pitch := 800
    window := 20
    margin := 2
    path := 2600
    accel := 8000
    conveying := 600
    noiseFloor := 30
    minLength := 80
    stallTime := 6
    scanWindow := 400
    filters := [⟨false, 0, 0⟩, ⟨true, 0x7000, 0xF000⟩, ⟨false, 0, 0⟩, ⟨true, 0x04D2, 0xFFFF⟩]
    floorShare := 4
    starveThreshold := 8
    intervalMin := 1200
    intervalMax := 10000
    alerts := List.replicate 14 none }

/-- Locked at tray 100 with P̄ = 4000 and the twenty entries ahead read Empty, in a given station state. -/
def station (m : Mode) : State :=
  { State.reset with
    station := { mode := m, holds := ⟨false, false, false, false⟩, cause := .none, again := none }
    line := { State.reset.line with assembler := .waiting }
    launch := { State.reset.launch with horizon := 6 }
    pace := { State.reset.pace with interval := 2560 }
    tracker :=
      { tracking := .locked
        count := some 100
        sinceHome := 100
        fillEvents := 20
        history := List.replicate 8 4000
        timer := some 4000
        latch := false
        latchBegun := true
        timeouts := 0 }
    window := { entries := (List.range 20).map (fun i => .fresh (101 + i) .empty), pending := [] }
    loader := { conf := some settings, locked := true, phase := .released, port := [] } }

/-- A parcel of 500 mm and span 1 with sequence number 18. -/
def parcel (p : Phase) (z : Zone) : Parcel :=
  { seq := some 18
    length := some 500
    span := some .one
    phase := p
    zone := z
    placement := none
    blockedTicks := none
    scanTimer := none
    loweredCount := false
    atTransfer := true
    atStage := z == .stage }

/-- The station with one record in its queue. -/
def holding (m : Mode) (r : Parcel) : State :=
  let s := station m
  s.withLane { s.lane with queue := [r] }

/-- The station with frames in its transmit queue. -/
def sending (m : Mode) (fs : List TxFrame) : State :=
  let s := station m
  s.withLine { s.line with queue := fs }

/-- Ordinal `k` heard, Active and running, with a merge offset, a starve count and a backlog of 2. -/
def hearing (k offset starve : Nat) (s : State) : State :=
  let p : Peer := ⟨.active, .standard, some offset, 2, starve, true, 0, 0⟩
  s.withShare { s.share with peers := s.share.peers.set k p }

/-- The claim of record 18 on tray 106, reckoned at P̄ = 4000. -/
def claim : Commitment := reckon settings 4000 18 500 106 .one 16

/-- The station with that claim, its record in a phase, and the time since its launch edge. -/
def claiming (p : Phase) (timing : Option EdgeTiming) : State :=
  let s := holding .running (parcel p .stage)
  { s with
    launch := { s.launch with commitment := some { claim with timing := timing } }
    window := (setMark .claimedByMe 106 s).window }

/-- The launch in flight of that claim, `n` tray edge events after its launch edge. -/
def flight (n : Nat) : Flight :=
  { flightOf (claiming .announced none) claim ⟨2500, []⟩ with
    timing := { clock := 4000 * n, edges := (List.range n).map (fun i => 4000 * (i + 1)) } }

/-- The station with that launch in flight and its record Launching; `held` tells whether it is in progress. -/
def launching (n : Nat) (held : Bool) : State :=
  let s := holding .running (parcel .launching .launch)
  let h : Holder := if held then .launchUnit else .sequencer
  { s with
    lane := { s.lane with exitEye := held, stageHolder := h, launchHolder := h }
    launch := { s.launch with flight := some (flight n) } }

/-- The state after a command, where it answers one. -/
def after (c : Instr) (s : State) : Option State :=
  match exec c s with
  | .next t => some t
  | .fault _ => none
  | .refused _ => none

/-- A frame that comes from its start, a dominant run of 2 Tb. -/
def heard : Arrival := .fromStart 128

/-! ## Ill-formed commands (WellFormed) -/

theorem test_ill_formed_line_recovery : (Instr.lineRecovery (List.replicate 9 .dataLow)).WellFormed = false := by
  decide

theorem test_ill_formed_scan_record : (Instr.scanRecord []).WellFormed = false := by decide

theorem test_ill_formed_gaps :
    (Instr.joiningEnds 255).WellFormed = false ∧ (Instr.frameBegin (.idle 255)).WellFormed = false ∧
    (Instr.frameBegin (.driven 255 128)).WellFormed = false ∧
    (Instr.lineFault 255).WellFormed = false ∧ (Instr.lineConditionNormal 1023).WellFormed = false := by
  decide

theorem test_ill_formed_line_errors :
    (Instr.lostArbitration 7).WellFormed = false ∧ (Instr.bitError (.readZero 6)).WellFormed = false ∧
    (Instr.bitError (.startHeld 255)).WellFormed = false ∧
    (Instr.bitTimingError ⟨.goesOn, .bit (some 16) (some 64)⟩).WellFormed = false := by
  decide

/-- R56: a run below 1½ Tb is noise, and one of 4 Tb is a line fault. -/
theorem test_ill_formed_starts :
    (Instr.bitTimingError ⟨.fromStart 95, .bit none none⟩).WellFormed = false ∧
    [Instr.claimNotice ⟨.fromStart 95, []⟩, .holdNotice ⟨.fromStart 256, []⟩, .vacateNotice ⟨.fromStart 95, []⟩,
      .demandNotice ⟨.fromStart 95, []⟩, .statNotice ⟨.fromStart 256, []⟩, .bankHold ⟨.fromStart 95, []⟩,
      .bankResume ⟨.fromStart 95, []⟩, .bankPace ⟨.fromStart 95, []⟩,
      .unknownKindFrame ⟨.fromStart 95, .empty⟩].all (fun c => !c.WellFormed) = true := by
  decide

/-- R169, R170: the clock line is found low before the stop condition, the seventieth act. -/
theorem test_ill_formed_refusal :
    (Instr.refusal (.clockHeldLow 70)).WellFormed = false ∧
    (Instr.refusal (.clockHeldLow 69)).WellFormed = true := by
  decide

theorem test_ill_formed_bank_rows :
    (Instr.bankHold ⟨heard, frameRest .bank 15 (bankFields 4 1 0)⟩).WellFormed = false ∧
    (Instr.bankResume ⟨heard, frameRest .bank 15 (bankFields 4 2 30)⟩).WellFormed = false ∧
    (Instr.bankPace ⟨heard, frameRest .bank 15 (bankFields 4 0 0)⟩).WellFormed = false := by
  decide

theorem test_ill_formed_presses :
    (Instr.start (.ticks 199)).WellFormed = false ∧ (Instr.stop (.ticks 199)).WellFormed = false ∧
    (Instr.clear (.ticks 199) ⟨false, false, false, false, false⟩).WellFormed = false := by
  decide

theorem test_well_formed_at_the_bounds :
    (Instr.lineRecovery (List.replicate 10 .dataLow)).WellFormed = true ∧
    (Instr.joiningEnds 256).WellFormed = true ∧ (Instr.lineConditionNormal 1024).WellFormed = true ∧
    (Instr.lostArbitration 6).WellFormed = true ∧ (Instr.start (.ticks 200)).WellFormed = true ∧
    (Instr.bankPace ⟨heard, frameRest .bank 15 (bankFields 4 2 30)⟩).WellFormed = true := by
  decide

/-! ## The decoder: the table gives no row any bits -/

theorem test_no_row_has_bits : decodeTableWord 8 0 = none ∧ State.reset.withFetchWord 8 0 = State.reset := by
  exact ⟨rfl, rfl⟩

/-! ## The commands, in the table's order -/

/-- R168, R21. -/
theorem test_power_on_reset : after .powerOnReset (holding .faulted (parcel .staged .stage)) = some State.reset := by
  decide

/-- R169: high at the third pulse, as in Worked Sequence: A Load with a Retry and a Clamp. -/
theorem test_line_recovery :
    (after (.lineRecovery [.dataLow, .dataLow, .dataLow, .dataHigh]) State.reset).map (·.loader.phase) =
      some (.transferring 0) := by
  decide

/-- R169: the clock line is found low at the stop condition after a pulse. -/
theorem test_line_recovery_stop_condition :
    (after (.lineRecovery [.dataLow, .dataHigh, .clockLow]) State.reset).map
      (fun t => (t.station.mode, t.loader.port)) = some (.unconfigured, [.pulse, .stopCondition]) := by
  decide

/-- R171: the refusal that raises the count to 4. -/
theorem test_refusal_fourth :
    (after (.refusal .addressForWriting)
      (State.reset.withLoader { State.reset.loader with phase := .transferring 3 })).map
        (fun t => (t.station.mode, t.report.flags.configFault, alertOutput t 0)) =
      some (.unconfigured, true, true) := by
  decide

/-- R170: the address bytes are AE and AF hex. -/
theorem test_transfer_acts :
    transferActs.take 5 = [.startCondition, .send 0xAE, .send 0x00, .startCondition, .send 0xAF] ∧
    transferActs.length = 70 := by
  decide

/-- The first 62 bytes of the block of Worked Sequence: A Load with a Retry and a Clamp. -/
def blockBytes : List Byte :=
  [1, 6, 0, 0, 30, 0, 200, 3, 32, 0, 0, 1, 0xC2, 0x1F, 0x40, 2, 88, 0, 0, 0, 45] ++ List.replicate 41 0

/-- That block with its check value, reckoned outside Lean. -/
def block : Vector Byte 64 := Vector.ofFn (fun i : Fin 64 => (blockBytes ++ [0x7C, 0x33]).getD i.val 0)

/-- R172: the check value of the nine characters 1 to 9 for this polynomial and initial value. -/
theorem test_block_check : blockCheck [0x31, 0x32, 0x33, 0x34, 0x35, 0x36, 0x37, 0x38, 0x39] = 0x29B1 := by
  decide +kernel

/-- The loaded block: d_path 450 to 500 to 800, scan window 0 to 400, stall time 45 to 30, CONFIG CLAMPED, and H
computed with k = 0 as 4. -/
theorem test_transfer_worked_load :
    (after (.transfer block ⟨false, false, false, false, false⟩)
      (State.reset.withLoader { State.reset.loader with phase := .transferring 1 })).map
        (fun t => (t.station.mode, [t.cfg.path, t.cfg.scanWindow, t.cfg.stallTime, t.launch.horizon],
          t.report.flags.configClamped)) =
      some (.idle, [800, 400, 30, 4], true) := by
  decide +kernel

/-- R172: an unprogrammed memory, all ones, fails at the check value. -/
theorem test_transfer_all_ones :
    (after (.transfer (Vector.replicate 64 0xFF) ⟨false, false, false, false, false⟩)
      (State.reset.withLoader { State.reset.loader with phase := .transferring 0 })).map (·.station.mode) =
      some .unconfigured := by
  decide +kernel

/-- R11, R147: the pace timer restarts with 2560 ms. -/
theorem test_place_eye_front_edge :
    (after .placeEyeFrontEdge (station .running)).map (fun t => (t.lane.placeCount, t.pace.timer)) =
      some (1, some 25600) := by
  decide

/-- R8: the fifth parcel is an overfill. -/
theorem test_measure_eye_overfill :
    let s := station .running
    (after .measureEyeFrontEdge (s.withLane { s.lane with
      queue := List.replicate 4 (parcel .bound .measure) })).map (fun t => (t.station.cause, t.lane.queue.length)) =
      some (.jam .measure, 4) := by
  decide

theorem test_measure_eye_front_edge :
    (after .measureEyeFrontEdge (station .running)).map (fun t => t.lane.queue.map (·.phase)) =
      some [.measuring] := by
  decide

/-- The station with a record in Measuring that has blocked the measure eye for some ticks. -/
def measuring (ticks : Ticks) : State :=
  let s := holding .running { Parcel.fresh true with blockedTicks := some ticks }
  s.withLane { s.lane with measureEye := true, nextSeq := 19 }

/-- R9: 8333 × 600 / 10000 = 499.98, which gives 500, and the sequence number 19 of Worked Sequence: One Parcel
Through the Lane. -/
theorem test_measure_eye_clearing :
    (after .measureEyeClearing (measuring 8333)).map
      (fun t => (t.lane.queue.map (fun r => (r.phase, r.length, r.seq)), t.lane.nextSeq)) =
      some ([(.measured, some 500, some 19)], 20) := by
  decide

/-- R9: 400 × 600 / 10000 = 24 lies below the noise floor, and the place count comes back. -/
theorem test_measure_eye_noise :
    (after .measureEyeClearing (measuring 400)).map
      (fun t => (t.lane.queue.length, t.lane.placeCount, t.report.counters.noiseBlocks)) = some (0, 1, 1) := by
  decide

/-- R5, R16: the Bound record passes to the empty stage zone. -/
theorem test_transfer_eye_front_edge :
    (after .transferEyeFrontEdge (holding .running { parcel .bound .measure with atTransfer := false })).map
      (fun t => t.lane.queue.map (·.zone)) = some [.stage] := by
  decide

/-- The station with its transfer eye blocked. -/
def atTransfer (m : Mode) (r : Parcel) : State :=
  let s := holding m r
  s.withLane { s.lane with transferEye := true }

/-- R18: the waiting parcel is lifted off. -/
theorem test_transfer_eye_clearing :
    (after .transferEyeClearing (atTransfer .running (parcel .measured .measure))).map (·.station.cause) =
      some (.jam .stage) := by
  decide

/-- The station after a parcel that blocks both eyes has been deleted as noise. -/
def strayed : State :=
  let s := measuring 400
  (after .measureEyeClearing (s.withLane { s.lane with
    transferEye := true
    queue := s.lane.queue.map (fun r => { r with atTransfer := true }) })).getD s

/-- R1, R9, R18: a clearing with no record is stray. The measure belt stands until it (R4, log entry 35). -/
theorem test_transfer_eye_stray :
    strayed.lane.queue = [] ∧ measureBelt strayed = 0 ∧ measureBelt (station .running) = 600 ∧
    (after .transferEyeClearing strayed).map (fun t => (t.station.cause, t.lane.transferStray)) =
      some (.jam .stage, false) := by
  decide

/-- R17. -/
theorem test_stage_eye_front_edge :
    (after .stageEyeFrontEdge (holding .running { parcel .bound .stage with atStage := false })).map
      (fun t => t.lane.queue.map (·.phase)) = some [.staged] := by
  decide

/-- The station with its stage eye blocked. -/
def atStage (m : Mode) (r : Parcel) : State :=
  let s := holding m r
  s.withLane { s.lane with stageEye := true }

/-- R34: removal. -/
theorem test_stage_eye_removal :
    (after .stageEyeClearing (atStage .running (parcel .rejected .stage))).map
      (fun t => (t.lane.queue.length, t.report.counters.rejects)) = some (0, 1) := by
  decide

/-- R18: a front edge at the exit eye with no launch in progress. -/
theorem test_exit_eye_front_edge :
    (after .exitEyeFrontEdge (station .running)).map (·.station.cause) = some (.jam .launch) := by
  decide

/-- R140: 3250 and 3750 ticks after the edge event of tray 106, the fourth since the launch edge, the check
passes; the closing belongs to the window. -/
theorem test_exit_eye_clearing :
    let f := flight 4
    let s := launching 4 true
    [19250, 19750, 19751].map (fun clock => (after .exitEyeClearing (s.withLaunch { s.launch with
      flight := some { f with timing := { f.timing with clock := clock } } })).map
        (fun t => (t.report.counters.launchWarnings, t.lane.launchHolder))) =
      [some (0, .sequencer), some (0, .sequencer), some (1, .sequencer)] := by
  decide

/-- R20. -/
theorem test_stall_timer_runs_out :
    let s := station .running
    (after (.stallTimerRunsOut .place) (s.withLane { s.lane with placeCount := 1, stall := s.lane.stall.put .place (some 0) })).map
      (fun t => (t.station.mode, t.report.flags.jam)) = some (.faulted, true) := by
  decide

/-- R185: the record 88,1204,7. -/
theorem test_scan_record :
    (after (.scanRecord (scanText [8, 8] [1, 2, 0, 4] 7)) (holding .running
      { parcel .measured .measure with span := none, scanTimer := some 0 })).map
        (fun t => (t.lane.queue.map (fun r => (r.phase, r.span)), t.scan.lastSequence)) =
      some ([(.bound, some .one)], some 88) := by
  decide

/-- R31: destination 29000 matches filter 1. -/
theorem test_scan_record_filtered :
    (after (.scanRecord (scanText [9, 1] [2, 9, 0, 0, 0] 8)) (holding .running
      { parcel .measured .measure with span := none, scanTimer := some 0 })).map
        (fun t => t.lane.queue.map (·.phase)) = some [.rejected] := by
  decide

/-- R28, R30: a no-read in 400 ms. -/
theorem test_scan_window_runs_out :
    (after (.scanWindowRunsOut 18) (holding .running
      { parcel .measured .measure with span := none, scanTimer := some 4000 })).map
        (fun t => (t.lane.queue.map (·.phase), t.report.counters.noReads)) = some ([.rejected], 1) := by
  decide

/-- R44, R79: tray 101 departs and tray 121 is read Loaded. -/
theorem test_tray_edge_event :
    (after (.trayEdgeEvent false true false false) (station .idle)).map
      (fun t => (t.tracker.count, t.window.entries.head?.map (·.tray),
        t.window.entries.getLast?.map (fun e => (e.tray, e.reading)))) =
      some (some 101, some 102, some (121, .loaded)) := by
  decide

/-- R45, R157: a home edge event at tray 101 rebuilds Filling, and Running gives way to Holding. -/
theorem test_tray_edge_event_home_mismatch :
    (after (.trayEdgeEvent true false false false) (station .running)).map
      (fun t => (t.tracker.tracking, t.tracker.count, t.window.entries.head?.map (·.tray), t.station.mode,
        t.report.counters.homeMismatches)) =
      some (.filling, some 0, some 1, .holding, 1) := by
  decide

/-- R39. -/
theorem test_confirm_eye_blocked :
    (after .confirmEyeBlocked (station .running)).map (·.tracker.latch) = some true := by
  decide

/-- R41, R47, R49. -/
theorem test_timeout :
    let s := station .running
    (after .timeout (s.withTracker { s.tracker with timer := some 65535 })).map
      (fun t => (t.tracker.tracking, t.station.mode, t.report.counters.timingFaults)) =
      some (.unsynced, .holding, 1) := by
  decide

/-- R39, R53: the eye was not seen blocked, and the latch stays clear; in Unsynced a timeout is no resync, and
the latch stands. -/
theorem test_timeout_latch :
    let s := station .running
    (after .timeout (s.withTracker { s.tracker with timer := some 65535 })).map (·.tracker.latch) = some false ∧
    (after .timeout (s.withTracker { s.tracker with
      tracking := .unsynced, count := none, latch := true, timer := some 65535 })).map
        (fun t => (t.tracker.latch, t.tracker.timer)) = some (true, none) := by
  decide

/-- R51: a CLAIM in passage runs to its end through a resync, though the new count is its launch edge. -/
theorem test_resync_spares_the_passage :
    let s := sending .running [{ TxFrame.fresh (.claim 4 .one 0) with inPassage := true }]
    (after (.trayEdgeEvent true false false false) (s.withLine { s.line with passage := some [] })).map
      (fun t => (t.tracker.count, t.line.passage, t.line.queue.any (·.inPassage))) =
      some (some 0, some [], true) := by
  decide

/-- R107, R110: the event that brings the count to 101 decides tray 107, with H 6. -/
theorem test_tray_edge_event_decides :
    let s := holding .running (parcel .staged .stage)
    (after (.trayEdgeEvent false false false false) (s.withShare { s.share with share := 5, credit := 15 })).map
      (fun t => (t.share.credit, t.lane.queue.map (·.phase), t.line.queue.map (·.body))) =
      some (4, [.committed], [.claim 107 .one 103]) := by
  decide

/-- R106 to R108: at the boundary H grows from 4 to 6, which passes over trays 105 and 106 and asks tray 107. -/
theorem test_growth_passes_over :
    let s := station .running
    (after (.trayEdgeEvent false false false false) { s with
      launch := { s.launch with horizon := 4 }
      share := { s.share with epochCount := 7 } }).map
        (fun t => (t.launch.horizon, (t.window.entries.filter (·.decided)).map (·.tray), t.share.freeCount)) =
      some (6, [105, 106, 107], 1) := by
  decide

/-- R107: HORIZON is the last cause and leaves at the epoch boundary, but the share unit took the event in
Holding. -/
theorem test_no_decision_found_holding :
    let s := station .holding
    let t : State := { s with
      station := { s.station with holds := ⟨false, false, false, true⟩ }
      launch := { s.launch with horizon := 40 }
      share := { s.share with epochCount := 7, share := 5 } }
    (after (.trayEdgeEvent false false false false) t).map
      (fun u => (u.station.mode, u.share.credit, u.launch.horizon)) = some (.running, 0, 6) := by
  decide

/-- R123 to R126: Worked Case: Launch Timing, span 1 and span 2. -/
theorem test_launch_timing :
    let k := reckon settings 4000 18 1200 106 .two 16
    [claim.speed, claim.lag, claim.lead, claim.whole, claim.rest, claim.edge, claim.delay] =
      [2000, 250, 2700, 3, 300, 102, 2500] ∧
    [k.lead, k.whole, k.rest, k.edge, k.delay, horizonWith settings k.lag] = [2650, 3, 250, 102, 2750, 6] := by
  decide

/-- R134, R139: the exit window lies 2750 to 3750 ticks after the fourth event since the launch edge. -/
theorem test_launch_moment :
    (after .launchMoment (claiming .announced (some ⟨2500, []⟩))).map
      (fun t => (t.lane.queue.map (·.phase), t.launch.flight.map (fun f => (f.opening, f.closing)),
        t.lane.launchHolder)) =
      some ([.launching], some (⟨4, 2750⟩, ⟨4, 3750⟩), .launchUnit) := by
  decide

/-- R140: no clearing by 3750 ticks after the fourth event, the closing included. -/
theorem test_exit_window_closing :
    let f := flight 4
    let s := launching 4 true
    [19750, 19751].map (fun clock => (after .exitWindowClosing (s.withLaunch { s.launch with
      flight := some { f with timing := { f.timing with clock := clock } } })).map
        (fun t => (t.report.counters.launchWarnings, t.report.flags.launchTiming))) =
      [some (0, false), some (1, true)] := by
  decide

/-- R54. -/
theorem test_joining_ends :
    let s := station .idle
    (after (.joiningEnds 256) (s.withLine { s.line with assembler := .joining })).map (·.line.assembler) =
      some .waiting := by
  decide

/-- R57, R70: the CLAIM goes before the older DEMAND. -/
theorem test_frame_begin :
    (after (.frameBegin (.idle 256)) (sending .running [.fresh .demand, .fresh (.claim 40 .one 36)])).map
      (fun t => (t.line.queue.map (·.inPassage), t.line.passage.map (fun b => b.take 20))) =
      some ([false, true], some [false, false, false, false, true, false, false,
        false, false, false, false, false, false, true, false, true, false, false, false, false]) := by
  decide

/-- R56, R57: another node drives the line; 1½ Tb of dominant line are its start, and less is noise. -/
theorem test_frame_begin_driven :
    [96, 95].map (fun run => (after (.frameBegin (.driven 256 run)) (sending .running [.fresh .demand])).map
      (fun t => (t.line.assembler, t.line.passage))) =
      [some (.assembling, none), some (.waiting, none)] := by
  decide

/-- The station with its STAT frame in passage. -/
def statInPassage : State :=
  let s := sending .running [{ TxFrame.fresh .stat with inPassage := true }]
  s.withLine { s.line with
    passage := some (frameBits .stat 4 (statFields s))
    assembler := .assembling }

/-- R58: a STAT, kind 5, loses at its first bit, and nothing is counted. -/
theorem test_lost_arbitration :
    (after (.lostArbitration 0) statInPassage).map
      (fun t => (t.line.queue.map (·.inPassage), t.line.passage.isSome, t.report.counters.frameErrors)) =
      some ([false], false, 0) := by
  decide

/-- R58, R61: the assembler goes on with the frame that won, here a CLAIM, kind 0. -/
theorem test_winning_frame_completes :
    (after (.lostArbitration 0) statInPassage).map (·.line.assembled) = some [false] ∧
    ((after (.lostArbitration 0) statInPassage).bind
      (after (.claimNotice ⟨.goesOn, frameRest .claim 3 (spanFields 115 .one)⟩))).map
        (fun t => (t.line.assembler, t.line.assembled, t.report.counters.frameErrors,
          t.report.counters.lateNotices)) = some (.waiting, [], 0, 1) := by
  decide +kernel

/-- R59: a 0 read as 1 is a bit error anywhere. -/
theorem test_bit_error :
    (after (.bitError (.readOne 1)) statInPassage).map
      (fun t => (t.line.queue.length, t.report.counters.frameErrors)) = some (1, 1) := by
  decide +kernel

/-- R61: no falling edge by 1⅛ Tb with the line still dominant. -/
theorem test_bit_timing_error :
    (after (.bitTimingError ⟨heard, .bit none none⟩) (station .idle)).map (·.report.counters.frameErrors) = some 1 := by
  decide

/-- R67, R157. -/
theorem test_line_fault :
    (after (.lineFault 256) (station .running)).map
      (fun t => (t.line.faulted, t.report.flags.lineFault, t.station.mode)) = some (true, true, .holding) := by
  decide

/-- R67, R157, R177: LINE leaves the hold set, and the flag stays. -/
theorem test_line_condition_normal :
    ((after (.lineFault 256) (station .running)).bind (after (.lineConditionNormal 1024))).map
      (fun t => (t.line.faulted, t.report.flags.lineFault, t.station.mode)) = some (false, true, .running) := by
  decide

/-- A claim's record with its CLAIM in passage. -/
def claimInPassage (expired : Bool) : State :=
  let s := claiming .committed none
  s.withLine { s.line with
    queue := [{ TxFrame.fresh (.claim 106 .one 102) with inPassage := true, expired := expired }]
    passage := some [] }

/-- R130. -/
theorem test_claim_completion :
    (after .claimCompletion (claimInPassage false)).map (fun t => (t.line.queue.length, t.lane.queue.map (·.phase))) =
      some (0, [.announced]) := by
  decide

/-- R72: a CLAIM that ran past its deadline is withdrawn by a VACATE. -/
theorem test_claim_completion_expired :
    (after .claimCompletion (claimInPassage true)).map (fun t => t.line.queue.map (·.body)) =
      some [.vacate 106 .one 8] := by
  decide

/-- A placed hold with its HOLD in passage. -/
def holdInPassage : State :=
  let s := sending .running [{ TxFrame.fresh (.hold 110 5) with inPassage := true }]
  { s with
    share := { s.share with held := [⟨110, 5, false, 119⟩] }
    line := { s.line with passage := some [] } }

/-- R116. -/
theorem test_hold_completion :
    (after .holdCompletion holdInPassage).map (fun t => t.share.held.map (·.sent)) = some [true] := by
  decide

/-- R180: the group advances at the completion of a STAT. -/
theorem test_frame_completion :
    (after .frameCompletion statInPassage).map (fun t => (t.line.queue.length, t.report.group)) = some (0, 1) := by
  decide

/-- The bits of a CLAIM that this station hears from ordinal 3. -/
def heardClaim (tray : Nat) (span : Span) : Instr := .claimNotice ⟨heard, frameRest .claim 3 (spanFields tray span)⟩

/-- R84, R89: each part of a span-2 CLAIM of ordinal 3, whose Δ is 5, governs its entry with standing 3. -/
theorem test_claim_notice :
    (after (heardClaim 115 .two) (hearing 3 25 0 (station .idle))).map
      (fun t => ((entryOf t 115).bind (·.governing), (entryOf t 116).bind (·.governing))) =
      some (some ⟨.claim 3 .two .first 115, 3⟩, some ⟨.claim 3 .two .second 115, 3⟩) := by
  decide +kernel

/-- R85, R87: from ordinal 1 with Δ 16, tray 121 at d 21 waits, unmarked since Δ is below W of 20. -/
theorem test_claim_notice_pending :
    (after (.claimNotice ⟨heard, frameRest .claim 1 (spanFields 121 .one)⟩) (hearing 1 14 0 (station .idle))).map
      (fun t => t.window.pending.map (fun n => (n.part.tray, n.superseded))) = some [(121, false)] := by
  decide +kernel

/-- R88, R89: a HOLD of ordinal 3 for ordinal 4 governs. -/
theorem test_hold_notice :
    (after (.holdNotice ⟨heard, frameRest .hold 3 (holdFields 110 4)⟩) (hearing 3 25 0 (station .idle))).map
      (fun t => (entryOf t 110).bind (·.governing)) = some (some ⟨.hold 3 4, 3⟩) := by
  decide +kernel

/-- R91: the VACATE of the same first tray and span clears both parts. -/
theorem test_vacate_notice :
    ((after (heardClaim 115 .two) (hearing 3 25 0 (station .idle))).bind
      (after (.vacateNotice ⟨heard, frameRest .vacate 3 (spanFields 115 .two)⟩))).map
        (fun t => ((entryOf t 115).bind (·.governing), (entryOf t 116).bind (·.governing))) =
      some (none, none) := by
  decide +kernel

/-- R99: a backlog of 6 is taken as 4, and the peer is Active. -/
theorem test_demand_notice :
    (after (.demandNotice ⟨heard, frameRest .demand 7 (demandFields .express 35 6 9 true)⟩) (station .idle)).map
      (fun t => let p := peerOf t 7; (p.presence, p.laneClass, p.backlog, p.starve, p.offset)) =
      some (.active, .express, 4, 9, some 35) := by
  decide +kernel

/-- R100: with N 200 and o 30, offset 31 of a lower ordinal clashes. -/
theorem test_demand_notice_clash :
    (after (.demandNotice ⟨heard, frameRest .demand 3 (demandFields .standard 31 0 0 true)⟩) (station .idle)).map
      (fun t => (t.report.flags.orderClash, (peerOf t 3).presence)) = some (true, .absent) := by
  decide +kernel

/-- R66: a STAT of another station goes nowhere. -/
theorem test_stat_notice :
    after (.statNotice ⟨heard, frameRest .stat 7 (statFields (station .running))⟩) (station .idle) =
      some (station .idle) := by
  decide +kernel

/-- R74, R156. -/
theorem test_bank_hold :
    (after (.bankHold ⟨heard, frameRest .bank 15 (bankFields 15 0 0)⟩) (station .running)).map
      (fun t => (t.station.mode, t.station.holds.bank)) = some (.holding, true) := by
  decide +kernel

/-- R74, R157. -/
theorem test_bank_resume :
    ((after (.bankHold ⟨heard, frameRest .bank 15 (bankFields 4 0 0)⟩) (station .running)).bind
      (after (.bankResume ⟨heard, frameRest .bank 15 (bankFields 4 1 0)⟩))).map
        (fun t => (t.station.mode, t.station.holds.bank)) = some (.running, false) := by
  decide +kernel

/-- R74: 63 is taken as 60. -/
theorem test_bank_pace :
    (after (.bankPace ⟨heard, frameRest .bank 15 (bankFields 4 2 63)⟩) (station .running)).map (·.pace.limit) =
      some 60 := by
  decide +kernel

/-- Log entry 8: a frame with another order is no BANK_PACE. -/
theorem test_bank_pace_other_order :
    (match exec (.bankPace ⟨heard, frameRest .bank 15 (bankFields 4 0 0)⟩) (station .running) with
      | .refused r => some r
      | .fault _ => none
      | .next _ => none) = some .anotherBankOrder := by
  decide +kernel

/-- R158. -/
theorem test_start : (after (.start .sinceLoading) (station .idle)).map (·.station.mode) = some .running := by
  decide

/-- R160: a Committed record goes back to Staged. -/
theorem test_stop :
    (after (.stop (.ticks 200)) (claiming .committed none)).map
      (fun t => (t.station.mode, t.lane.queue.map (·.phase), t.launch.commitment)) =
      some (.idle, [.staged], none) := by
  decide

/-- R163, R150: the refused Clear of Worked Sequence: A Refused Clear. -/
theorem test_clear_refused :
    (after (.clear .sinceLoading ⟨false, false, false, false, true⟩)
      (holding .faulted (parcel .conflict .launch))).map
        (fun t => (t.station.mode, lampOutput t .fault, t.lane.queue.length)) = some (.faulted, true, 1) := by
  decide

/-- R164. -/
theorem test_clear_accepted :
    (after (.clear .sinceLoading ⟨false, false, false, false, false⟩)
      (holding .faulted (parcel .conflict .launch))).map
        (fun t => (t.station.mode, t.lane.queue.length, selectedLamp t)) = some (.idle, 0, .wait) := by
  decide

/-- R65, R166, R177: where the ordinal clash comes first, the Clear clears its flag; where the Clear comes
first, the report sets it. The cause stands in both. -/
theorem test_clear_with_a_fault :
    let clash : Instr := .vacateNotice ⟨heard, frameRest .vacate 4 (spanFields 110 .one)⟩
    let clear : Instr := .clear .sinceLoading ⟨false, false, false, false, false⟩
    ((after clash (station .faulted)).bind (after clear)).map
      (fun t => (t.station.mode, t.station.cause, t.report.flags.ordinalClash)) =
      some (.faulted, .ordinalClash, false) ∧
    ((after clear (station .faulted)).bind (after clash)).map
      (fun t => (t.station.mode, t.station.cause, t.report.flags.ordinalClash)) =
      some (.faulted, .ordinalClash, true) := by
  decide +kernel

/-- The station with its pace timer at a value. -/
def pacing (m : Mode) (n : Ticks) : State :=
  let s := station m
  s.withPace { s.pace with timer := some n }

/-- R147, R148. -/
theorem test_pace_timer_runs_out :
    (after .paceTimerRunsOut (pacing .running 0)).map selectedLamp = some .place ∧
    selectedLamp (pacing .running 0) = .wait := by
  decide

/-- A Faulted station with a running blink. -/
def blinking (phase left : Ticks) : State :=
  let s := station .faulted
  s.withPace { s.pace with blink := some ⟨phase, true, left⟩ }

/-- R150: at 250 ms the lamp is negated. -/
theorem test_fault_blink_phase :
    (after .faultBlinkPhase (blinking 0 17500)).map (lampOutput · .fault) = some false := by
  decide

/-- R150: at 2000 ms the lamp is steady. -/
theorem test_fault_blink_end :
    (after .faultBlinkEnd (blinking 2500 0)).map (fun t => (lampOutput t .fault, t.pace.blink)) =
      some (true, none) := by
  decide

/-- R64. -/
theorem test_unknown_kind_frame :
    (after (.unknownKindFrame ⟨heard, .kindSix [true]⟩) (station .idle)).map (·.report.counters.frameErrors) = some 1 := by
  decide

/-! ## Figures of the worked sequences -/

/-- R32: the classes for pitch 800 and minimum length 80. -/
theorem test_size_classes :
    [79, 80, 800, 801, 1600, 1601].map (sizeClass settings) =
      [none, some .one, some .one, some .two, some .two, none] := by
  decide

/-- R144, R145: cases A, B, C, D, F and G of Worked Cases: The Pace Interval. -/
theorem test_pace_intervals :
    effectiveInterval settings (rawInterval (some 4000) 9 6) 0 = 1200 ∧ rawInterval (some 4000) 9 6 = some 948 ∧
    effectiveInterval settings (rawInterval (some 4000) 9 6) 30 = 2000 ∧
    effectiveInterval settings (rawInterval (some 4000) 5 4) 0 = 2560 ∧
    effectiveInterval settings (rawInterval (some 4000) 5 0) 0 = 10000 ∧
    effectiveInterval settings (rawInterval (some 2667) 16 8) 60 = 1200 ∧
    effectiveInterval settings (rawInterval (some 4000) 1 2) 2 = 30000 := by
  decide

/-- R105: ⌈16 × 3 / 11⌉ = 5 in Worked Sequence: Share and Credit. -/
theorem test_share :
    let s := station .running
    let t := s.withLane { s.lane with queue := List.replicate 3 (parcel .bound .measure) }
    let p (c : LaneClass) (b : Nat) (r : Bool) : Peer := ⟨.active, c, some 40, b, 0, r, 0, 0⟩
    nextShare (t.withShare { t.share with
      peers := ((t.share.peers.set 6 (p .express 2 true)).set 8 (p .standard 3 false)).set 9
        (p .standard 4 true) }) = 5 := by
  decide

/-- R109, R110: the claim of Worked Sequence: One Claim, Three Endings leaves A at 4. -/
theorem test_decision_claims :
    let s := holding .running (parcel .staged .stage)
    let t := decideTray 100 106 (s.withShare { s.share with share := 5, credit := 15 })
    (t.share.credit, t.lane.queue.map (·.phase), t.line.queue.map (·.body)) =
      (4, [.committed], [.claim 106 .one 102]) := by
  decide

/-- R115: the expiry count 110 + 7 + 2 of Worked Sequence: A Hold to Lapse and Back, with Δ 7. -/
theorem test_decision_yields_with_hold :
    let t := decideTray 104 110 (hearing 5 37 11 (station .running))
    (t.share.held, t.line.queue.map (·.body), t.report.counters.holdsPlaced) =
      ([⟨110, 5, false, 119⟩], [.hold 110 5], 1) := by
  decide

/-- R118: the second lapse makes the target Lax. -/
theorem test_second_lapse :
    let s := hearing 5 37 11 (station .running)
    let p : Peer := { peerOf s 5 with lapses := 1 }
    let t := expireHolds 119 (s.withShare { s.share with
      peers := s.share.peers.set 5 p
      held := [⟨110, 5, true, 119⟩] })
    ((peerOf t 5).presence, t.share.held, t.report.flags.laxPeer) = (.lax, [], true) := by
  decide

/-- R19, R40, R147: one tick. -/
theorem test_tick :
    (match step (pacing .running 2) with
      | .next t => some (t.tracker.timer, t.pace.timer, t.pending)
      | .fault _ => none
      | .refused _ => none) = some (some 4001, some 1, []) := by
  decide

/-- Log entry 1: the command at the front of the queue runs, and the rest waits. -/
theorem test_step_runs_the_front :
    (match step ((station .idle).withPending [.start .sinceLoading, .confirmEyeBlocked]) with
      | .next t => some (t.station.mode, t.pending)
      | .fault _ => none
      | .refused _ => none) = some (.running, [.confirmEyeBlocked]) := by
  decide

/-- R63, R183: the CLAIM of ordinal 3 for tray 115 and span 2, bit by bit; its check field,
4E hex, was reckoned outside Lean. -/
theorem test_frame_bits :
    frameBits .claim 3 (spanFields 115 .two) =
      [false, false, false, false, false, true, true, false, false, false, false, false, true, true,
       true, false, false, true, true, true, false, true, false, false, true, true, true, false] := by
  decide +kernel

/-! ## Witnesses: for each statement a state and operands that meet its hypotheses, clause by clause -/

/-- The records that commitments and launches in flight of these tests name. -/
theorem witness_FirstRecord :
    FirstRecord (claiming .committed none) Phase.isClaim claim.seq [] (parcel .committed .stage) [] ∧
    FirstRecord (claiming .announced none) Phase.isClaim claim.seq [] (parcel .announced .stage) [] ∧
    FirstRecord (claiming .announced (some ⟨2500, []⟩)) Phase.isClaim claim.seq [] (parcel .announced .stage) [] ∧
    FirstRecord (claimInPassage false) Phase.isClaim claim.seq [] (parcel .committed .stage) [] ∧
    FirstRecord (launching 0 true) Phase.isLaunching (flight 0).seq [] (parcel .launching .launch) [] ∧
    FirstRecord (launching 5 false) Phase.isLaunching (flight 5).seq [] (parcel .launching .launch) [] ∧
    FirstRecord (launching 5 true) Phase.isLaunching (flight 5).seq [] (parcel .launching .launch) [] :=
  ⟨⟨rfl, rfl, rfl, by simp⟩, ⟨rfl, rfl, rfl, by simp⟩, ⟨rfl, rfl, rfl, by simp⟩, ⟨rfl, rfl, rfl, by simp⟩,
    ⟨rfl, rfl, rfl, by simp⟩, ⟨rfl, rfl, rfl, by simp⟩, ⟨rfl, rfl, rfl, by simp⟩⟩

/-- Any frame arrives at a waiting assembler from its start; and after a lost arbitration the one that begins
with the bits read. -/
theorem witness_FrameArrives (bits : Bits) :
    FrameArrives (station .idle) heard bits ∧ FrameArrives (station .running) heard bits ∧
    FrameArrives (station .faulted) heard bits ∧
    (∃ t, exec (.lostArbitration 0) statInPassage = .next t ∧ FrameArrives t .goesOn (false :: bits)) ∧
    LineTakes (station .idle) heard ∧ ¬ FrameArrives State.reset heard bits ∧
    ¬ FrameArrives (station .idle) .goesOn bits ∧ ¬ FrameArrives (station .idle) (.fromStart 95) bits := by
  refine ⟨⟨⟨rfl, rfl, rfl, .inl ⟨128, rfl, rfl, by decide, by decide⟩⟩, nofun⟩,
    ⟨⟨rfl, rfl, rfl, .inl ⟨128, rfl, rfl, by decide, by decide⟩⟩, nofun⟩,
    ⟨⟨rfl, rfl, rfl, .inl ⟨128, rfl, rfl, by decide, by decide⟩⟩, nofun⟩,
    ⟨_, rfl, ⟨rfl, rfl, rfl, .inr ⟨rfl, rfl⟩⟩, fun _ => ⟨bits, rfl⟩⟩,
    ⟨rfl, rfl, rfl, .inl ⟨128, rfl, rfl, by decide, by decide⟩⟩, ?_, ?_, ?_⟩ <;>
    rw [← completes_iff] <;> simp [completes, receives, station, State.reset, active, heard, startRecognised,
      Config.tb]

theorem witness_EmptyQueuePassesOneTick : (pacing .running 0).pending = [] ∧ drawing (pacing .running 0) = true := by
  decide

theorem witness_LoadingStartsRecoversAndRetries :
    State.reset.station.mode = .loading ∧ State.reset.loader.phase = .recovering 0 ∧ 9 ≤ 9 ∧
    (State.reset.withLoader { State.reset.loader with phase := .transferring 2 }).station.mode = .loading ∧ 2 < 3 ∧
    1 ≤ 1 ∧ ([.dataLow] : List RecoverySample).head? ≠ some .clockLow ∧
    (station .idle).station.mode ≠ .loading := by
  decide

/-- The block with one of its bytes changed. -/
def spoiled (i v : Nat) : Vector Byte 64 := block.set! i (BitVec.ofNat 8 v)

/-- Each cause of R172 has a block: here the check value. -/
theorem witness_LoadFails :
    State.reset.station.mode = .loading ∧ State.reset.loader.phase = .recovering 0 ∧ 9 ≤ 9 ∧ 1 ≤ 1 ∧
    (State.reset.withLoader { State.reset.loader with phase := .transferring 3 }).loader.phase = .transferring 3 ∧
    (blockCheck ((spoiled 0 2).toList.take 62)).toNat ≠ wordAt (spoiled 0 2) 62 ∧ byteAt (spoiled 0 2) 0 ≠ 1 ∧
    14 < byteAt (spoiled 1 15) 1 ∧ wordAt (spoiled 6 63) 5 < 64 ∧ 4095 < wordAt (spoiled 5 16) 5 ∧
    wordAt (spoiled 7 1) 7 < 400 ∧ 1600 < wordAt (spoiled 7 7) 7 := by
  decide +kernel

theorem witness_GoodBlockEndsLoading :
    let s := State.reset.withLoader { State.reset.loader with phase := .transferring 1 }
    s.station.mode = .loading ∧ s.loader.phase = .transferring 1 ∧ blockFault block = none ∧
    s.station.cause = .none ∧ s.station.holds = ⟨false, false, false, false⟩ ∧ s.line.queue = [] := by
  decide +kernel

theorem witness_LoadedSettingsLieInRange : blockFault block = none := by decide +kernel

theorem witness_BlockCheckIsTheRegisterForm : 2 ≤ [(0x31 : Byte), 0x32].length := by decide

/-- Three records are the most that leave room (R8, R15). -/
theorem witness_ParcelsEnterTheLane :
    let s := station .running
    let t := s.withLane { s.lane with queue := List.replicate 3 (parcel .bound .measure) }
    takesLaneEvents t = true ∧ t.lane.measureEye = false ∧ t.lane.queue.length < 4 ∧
    takesLaneEvents (station .faulted) = false := by
  decide

/-- 491 ticks make 29 mm and 492 make 30, at the noise floor; the slot's age is the window's or one tick more. -/
theorem witness_ParcelsAreMeasured :
    let slotted (age : Ticks) : State :=
      (measuring 492).withScan { (measuring 492).scan with slot := some ⟨⟨88, 1204, 7⟩, age⟩ }
    takesLaneEvents (measuring 491) = true ∧ (measuring 491).lane.measureEye = true ∧
    (measuring 491).lane.queue = [] ++ [{ Parcel.fresh true with blockedTicks := some 491 }] ∧
    min ((2 * (491 * 600) + 10000) / 20000) 4095 < settings.noiseFloor ∧
    settings.noiseFloor ≤ min ((2 * (492 * 600) + 10000) / 20000) 4095 ∧ (measuring 492).scan.slot = none ∧
    settings.scanWindow * 10 < 4001 ∧ (slotted 4001).scan.slot = some ⟨⟨88, 1204, 7⟩, 4001⟩ ∧
    4000 ≤ settings.scanWindow * 10 ∧ (slotted 4000).scan.slot = some ⟨⟨88, 1204, 7⟩, 4000⟩ ∧
    decideParcel { settings with minLength := 30 } 1204 30 = some .one ∧ decideParcel settings 0 30 = none := by
  decide

/-- In Faulted the eye is clear, is blocked, and is blocked by a parcel with no record. -/
theorem witness_ParcelsPassTheTransferEye :
    let lost := strayed.withStation (station .faulted).station
    let r : Parcel := { parcel .bound .measure with atTransfer := false }
    let x := atTransfer .running (parcel .bound .stage)
    takesLaneEvents (holding .running r) = true ∧ (holding .running r).lane.transferEye = false ∧
    (holding .running r).lane.queue = [] ++ r :: [] ∧ r.zone = .measure ∧ r.atTransfer = false ∧
    takesLaneEvents x = true ∧ x.lane.transferEye = true ∧ waitsAtTransfer x = false ∧
    x.lane.transferStray = false ∧
    takesLaneEvents (station .faulted) = false ∧ BeltsSound x ∧ LaneBounds (station .faulted).lane ∧
    takesLaneEvents lost = false ∧ lost.lane.transferStray = true ∧ LaneBounds lost.lane ∧
    LaneBounds (atTransfer .faulted (parcel .bound .stage)).lane := by
  refine ⟨by decide, by decide, by decide, by decide, by decide, by decide, by decide, by decide, by decide,
    by decide, ⟨by decide, fun z => by cases z <;> decide, by decide, by decide, by decide⟩,
    ⟨by decide, by decide, by decide⟩, by decide, by decide, ⟨by decide, by decide, by decide⟩,
    ⟨by decide, by decide, by decide⟩⟩

theorem witness_ParcelsAtTheStageEye :
    let r : Parcel := { parcel .bound .stage with atStage := false }
    let x := atStage .running (parcel .rejected .stage)
    takesLaneEvents (holding .running r) = true ∧ (holding .running r).lane.stageEye = false ∧
    (holding .running r).lane.queue = [] ++ r :: [] ∧ r.zone = .stage ∧ r.atStage = false ∧
    rejectedAtStage (holding .running r) = false ∧
    (launching 0 true).lane.stageHolder = .launchUnit ∧
    x.lane.stageEye = true ∧ x.lane.stageHolder = .sequencer ∧
    x.lane.queue = [] ++ parcel .rejected .stage :: [] ∧ (parcel .rejected .stage).atStage = true := by
  decide

/-- The closing is 3750 ticks after the fourth event, which came at 16000, and the opening 2750 ticks. -/
theorem witness_ParcelsPassTheExitEye :
    takesLaneEvents (launching 4 true) = true ∧ (launching 4 true).lane.exitEye = true ∧
    (launching 4 true).lane.launchHolder = .launchUnit ∧ (launching 4 true).launch.flight = some (flight 4) ∧
    verdictOf (flight 4) = .undecided ∧ (flight 4).checked = false ∧
    (flight 4).timing.edges[(flight 4).closing.event - 1]? = some 16000 ∧
    (flight 4).timing.edges[(flight 4).opening.event - 1]? = some 16000 ∧
    (flight 4).opening.ticks ≤ 18750 - 16000 ∧ 19750 - 16000 ≤ (flight 4).closing.ticks ∧
    16000 + (flight 4).closing.ticks < 19751 ∧ 19750 ≤ 16000 + (flight 4).closing.ticks ∧
    (launching 4 false).lane.launchHolder = .sequencer ∧ takesLaneEvents (station .faulted) = false ∧
    (flight 3).timing.edges[(flight 3).closing.event - 1]? = none := by
  decide

theorem witness_StrayEventsAndStallsJam :
    let s := station .running
    let x := atStage .running (parcel .staged .stage)
    takesLaneEvents s = true ∧ s.lane.transferEye = false ∧ s.lane.queue = [] ∧ s.lane.stageEye = false ∧
    s.lane.exitEye = false ∧ s.lane.launchHolder = .sequencer ∧ s.lane.measureEye = false ∧
    (atTransfer .running (parcel .measured .measure)).lane.transferEye = true ∧
    (∃ r, (atTransfer .running (parcel .measured .measure)).lane.queue.find? (fun q => q.zone == .measure) = some r ∧
      r.atTransfer = true) ∧
    takesLaneEvents strayed = true ∧ strayed.lane.transferEye = true ∧ strayed.lane.transferStray = true ∧
    takesLaneEvents x = true ∧ x.lane.stageEye = true ∧ x.lane.stageHolder = .sequencer ∧
    (∃ r ∈ x.lane.queue, r.phase = .staged) ∧ (∀ r ∈ x.lane.queue, r.phase = .rejected → r.zone ≠ .stage) ∧
    4 ≤ (List.replicate 4 (parcel .bound .measure)).length ∧
    (s.lane.stall.put .place (some 0)).get .place = some 0 := by
  decide

theorem witness_TheLaneSettles :
    let s := atTransfer .running (parcel .bound .measure)
    let x := atTransfer .idle (parcel .bound .measure)
    s.lane.queue = [] ++ parcel .bound .measure :: [] ∧ s.station.mode = .running ∧ s.lane.transferEye = true ∧
    (∀ q ∈ s.lane.queue, q.zone ≠ .stage) ∧ s.lane.stageHolder = .sequencer ∧
    x.lane.queue = [] ++ parcel .bound .measure :: [] ∧ x.station.mode = .idle ∧
    (∀ q ∈ (station .running).lane.queue, q.zone ≠ .measure) := by
  decide

theorem witness_EntryIntoFaulted :
    (station .running).launch.commitment = none ∧ (station .running).launch.flight = none ∧
    (claiming .committed none).launch.commitment = some { claim with timing := none } ∧
    (claiming .committed none).launch.flight = none ∧
    (claiming .committed none).lane.queue = [] ++ parcel .committed .stage :: [] ∧
    (parcel .committed .stage).seq = some claim.seq ∧
    (claiming .announced none).lane.queue = [] ++ parcel .announced .stage :: [] ∧
    (claiming .announced none).line.queue.countP (·.body.isHoldOrVacate) < 5 ∧
    (launching 0 true).launch.commitment = none ∧ (launching 0 true).launch.flight = some (flight 0) ∧
    (launching 0 true).lane.queue = [] ++ parcel .launching .launch :: [] ∧
    (parcel .launching .launch).seq = some (flight 0).seq := by
  decide

/-- The largest values, and leading zeros (R23, R185); bodies of 11 and 12 characters that no record has. -/
theorem witness_ScanRecordsAreReadAsWritten :
    active (station .idle) = true ∧ (station .idle).scan.openRecord = none ∧
    digitsValue [2, 5, 5] ≤ 255 ∧ digitsValue [6, 5, 5, 3, 5] ≤ 65535 ∧ digitsValue [0, 0, 7] = 7 ∧
    (List.replicate 11 (⟨0x30, false⟩ : ScanChar)).length ≤ 11 ∧
    12 ≤ (List.replicate 12 (⟨0x30, false⟩ : ScanChar)).length ∧ active State.reset = false ∧
    ∀ seq destination quality, (⟨0x02, false⟩ :: (List.replicate 11 ⟨0x30, false⟩ ++ [⟨0x03, false⟩]) :
      List ScanChar) ≠ scanText seq destination quality := by
  refine ⟨by decide, by decide, by decide, by decide, by decide, by decide, by decide, by decide, fun a b q h => ?_⟩
  have : (⟨0x2C, false⟩ : ScanChar) ∈ scanText a b q := by simp [scanText]
  rw [← h] at this
  simp at this

theorem witness_ScanRecordsBind :
    let r : Parcel := { parcel .measured .measure with span := none, scanTimer := some 4000 }
    let s := holding .running r
    (station .faulted).station.mode = .faulted ∧ s.station.mode ≠ .faulted ∧
    (s.withScan { s.scan with lastSequence := some 88 }).scan.lastSequence = some 88 ∧
    s.scan.lastSequence ≠ some 88 ∧ (∀ q ∈ (station .running).lane.queue, q.phase ≠ .measured) ∧
    s.lane.queue = [] ++ r :: [] ∧ r.phase = .measured ∧ r.seq = some 18 ∧ r.length = some 500 ∧
    drawing s = true ∧ s.cfg.scanWindow * 10 ≤ 4000 := by
  decide

theorem witness_ParcelsAreDecided :
    settings.noRead = .reject ∧ ({ settings with noRead := .induct } : Settings).noRead = .induct ∧
    ⟨true, 0x7000, 0xF000⟩ ∈ settings.filters ∧ (⟨true, 0x7000, 0xF000⟩ : Filter).matches 28672 = true ∧
    (⟨true, 0x7000, 0xF000⟩ : Filter).matches 32767 = true ∧
    (∀ f ∈ settings.filters, f.matches 32768 = false) ∧ (∀ f ∈ settings.filters, f.matches 28671 = false) := by
  decide

/-- `settings` lies within the ranges of R173. -/
theorem witness_settings_in_range : SettingsInRange settings := by
  constructor <;> decide

theorem witness_TrayEdgeEventsTrack :
    let s := station .idle
    active s = true ∧ s.tracker.timer = some 4000 ∧ plausible 800 (period s) 4000 = true ∧
    plausible 800 (period s) 65535 = false ∧ State.reset.tracker.timer = none ∧
    State.reset.tracker.tracking = .unsynced ∧ s.tracker.tracking ≠ .unsynced ∧ s.tracker.count = some 100 ∧
    100 + 1 ≠ s.cfg.trays ∧ 199 + 1 = s.cfg.trays ∧ s.tracker.sinceHome + 1 ≠ s.cfg.trays := by
  decide

/-- The bounds of R41: 2667 and 16000 ticks at pitch 800, and P̄ / 2 and 2 × P̄ exactly; and seven intervals make
no P̄ (R42). -/
theorem witness_interval_bounds :
    [2666, 2667, 16000, 16001].map (plausible 800 none) = [false, true, true, false] ∧
    [1999, 2000, 8000, 8001].map (plausible 400 (some 4000)) = [false, true, true, false] ∧
    [8000, 8001].map (plausible 800 (some 4000)) = [true, false] ∧
    meanPeriod (List.replicate 7 4000) = none ∧ meanPeriod [1, 0, 0, 0, 1, 1, 1, 0] = some 1 := by
  decide

/-- The cases of the event, one by one: tracked and not with 8001 ticks, past 2 × P̄; the first event, which
ends no interval; home with eight intervals held in Unsynced; home at tray 199 and elsewhere; a whole turn
without home; and the W-th event of Filling. -/
theorem witness_TrayEdgeEventsTurnOver_cases :
    let s := station .running
    let at_ (x : Tracker) : State := s.withTracker x
    let unsynced := at_ { s.tracker with tracking := .unsynced, count := none }
    let missing := at_ { s.tracker with sinceHome := 199, count := some 199 }
    let filling := at_ { s.tracker with tracking := .filling, fillEvents := 19 }
    active s = true ∧ plausible s.cfg.pitch (period s) 8001 = false ∧
    plausible s.cfg.pitch (period s) 8000 = true ∧ s.tracker.timer = some 4000 ∧
    unsynced.tracker.tracking = .unsynced ∧ (unsynced.tracker.history.drop 1 ++ [4000]).length = 8 ∧
    State.reset.tracker.timer = none ∧ State.reset.tracker.history.length ≠ 8 ∧
    s.tracker.count = some 100 ∧ 100 + 1 ≠ s.cfg.trays ∧ missing.tracker.sinceHome + 1 = missing.cfg.trays ∧
    missing.tracker.count = some 199 ∧ 199 + 1 = missing.cfg.trays ∧
    filling.tracker.tracking = .filling ∧ filling.tracker.fillEvents + 1 = filling.cfg.window := by
  decide

theorem witness_TrayEdgeEventsTurnOver :
    let s := station .faulted
    s.station.mode = .faulted ∧ (station .idle).station.mode = .idle ∧ s.tracker.tracking = .locked ∧
    s.tracker.count = some 100 ∧
    intervalPlausible s.cfg s.tracker = true ∧ s.tracker.sinceHome + 1 ≠ s.cfg.trays ∧ s.share.epochCount < 7 ∧
    s.share.held = [] ∧ s.launch.commitment = none ∧ s.launch.flight = none ∧ s.line.queue = [] := by
  decide

/-- The running interval passes its bound at more than twice P̄, here 8000 ticks (R41). -/
theorem witness_ConfirmEyeAndTimeout :
    let s := station .running
    active s = true ∧ timedOut s.cfg.pitch (period s) 8001 = true ∧ timedOut s.cfg.pitch (period s) 8000 = false ∧
    s.tracker.tracking ≠ .unsynced ∧ State.reset.tracker.tracking = .unsynced ∧
    timedOut s.cfg.pitch none 65535 = true ∧ s.station.holds.isEmpty = true ∧
    timedOut s.cfg.pitch none 16001 = true ∧ timedOut s.cfg.pitch none 16000 = false ∧
    (claiming .announced none).launch.commitment = some { claim with timing := none } ∧
    active (claiming .announced none) = true ∧ (claiming .announced none).tracker.tracking ≠ .unsynced ∧
    (claiming .announced none).line.queue.countP (·.body.isVacate) < 5 := by
  decide +kernel

theorem witness_ResyncDiscardsWhatTraysNumber :
    (station .running).launch.commitment = none ∧
    (claiming .announced none).launch.commitment = some { claim with timing := none } ∧
    (claiming .announced none).lane.queue = [] ++ parcel .announced .stage :: [] ∧
    (parcel .announced .stage).seq = some claim.seq ∧
    (claiming .announced none).line.queue.countP (·.body.isVacate) < 5 ∧
    (claiming .announced none).line.queue.countP (fun f => f.body.isHold && f.inPassage) = 0 ∧
    (∀ f ∈ (claimInPassage false).line.queue, f.body.isClaim = true ∧ f.inPassage = true) := by
  decide

theorem witness_EpochBoundaryWork :
    period (station .running) = some 4000 ∧ period State.reset = none ∧ (station .running).report.statCount + 1 < 16 ∧
    (epochBoundary (station .running)).station.holds = (station .running).station.holds ∧
    active (station .running) = true := by
  decide

theorem witness_PaceIntervalIsBounded :
    9 * 6 ≠ 0 ∧ 5 * 0 = 0 ∧ settings.intervalMin ≤ settings.intervalMax ∧ 1199 < settings.intervalMin ∧
    settings.intervalMin ≤ 1200 ∧ 10000 ≤ settings.intervalMax ∧ settings.intervalMax < 10001 ∧
    ({ settings with intervalMax := 2000, intervalMin := 2001 } : Settings).intervalMax < 2001 ∧ 60 ≤ 60 := by
  decide

/-- Tray 106 at count 100, with A at the cost after the credit; the launch edge lies two events ahead. With
tray 107 free as well it serves a span of 2 at A 32. -/
theorem witness_FreeDecisionTraysAreClaimed :
    let s := holding .running (parcel .staged .stage)
    let t := s.withShare { s.share with share := 5, credit := 11 }
    let x := Entry.fresh 106 .empty
    let y := Entry.fresh 107 .empty
    let u := holding .running { parcel .staged .stage with span := some .two, length := some 1200 }
    t.window.entries = t.window.entries.take 5 ++ x :: ([] ++ t.window.entries.drop 6) ∧
    t.window.entries = t.window.entries.take 5 ++ x :: ([y] ++ t.window.entries.drop 7) ∧
    (∀ z ∈ t.window.entries.take 5, z.tray ≠ 106 ∧ z.tray ≠ 107) ∧ x.free t.cfg.ordinal = true ∧
    y.free t.cfg.ordinal = true ∧ y.tray = (106 + 1) % t.cfg.trays ∧ y.tray ≠ 106 ∧
    t.lane.queue = [] ++ parcel .staged .stage :: [] ∧ period t = some 4000 ∧ 16 ≤ min (11 + 5) 32 ∧
    readyParcel u = some { parcel .staged .stage with span := some .two, length := some 1200 } ∧
    16 + 16 ≤ min (27 + 5) 32 ∧
    traySub t.cfg.trays claim.edge 100 = 2 ∧ 2 ≤ t.launch.horizon ∧ lastReadingDue t < 2 ∧
    ¬ 1 ≤ traySub t.cfg.trays claim.edge 102 := by
  decide

/-- A ready parcel is passed up for want of credit, for a CLAIM in the queue, and for tray 107. -/
theorem witness_DecisionTraysAreYielded :
    let s := hearing 5 37 8 (station .running)
    let x := Entry.fresh 106 .empty
    let y := Entry.fresh 106 .loaded
    let ready (span : Span) : Parcel := { parcel .staged .stage with span := some span }
    let short := updateEntry 107 (fun e => { e with reading := .loaded }) (holding .running (ready .two))
    s.window.entries = s.window.entries.take 5 ++ x :: s.window.entries.drop 6 ∧
    (∀ e ∈ s.window.entries.take 5, e.tray ≠ 106) ∧ x.free s.cfg.ordinal = true ∧ x.governing = none ∧
    readyParcel s = none ∧ s.share.held.length < 8 ∧ s.line.queue.countP (·.body.isHoldOrVacate) < 5 ∧
    chooseTarget s = some ⟨15, 5⟩ ∧ chooseTarget (station .running) = none ∧ y.free s.cfg.ordinal = false ∧
    readyParcel (holding .running (ready .one)) = some (ready .one) ∧ min (15 + 0) 32 < 16 ∧
    (∃ f ∈ (sending .running [.fresh (.claim 40 .one 36)]).line.queue, f.body.isClaim = true) ∧
    readyParcel short = some (ready .two) ∧ freeTray short 107 = false ∧
    s.tracker.count = some 100 ∧ s.tracker.tracking = .locked ∧ s.share.epochCount < 7 ∧
    s.launch.horizon ≤ s.cfg.window - 1 ∧ (entryOf s 106).map (·.decided) = some false ∧
    (station .holding).station.mode ≠ .running ∧ (s.window.entries.map (·.tray)).Nodup ∧
    State.reset.tracker.count = none := by
  decide +kernel

/-- A boundary at which H grows from 4 to 6 passes trays 104 and 105 over and decides tray 106; in Holding tray
106 stays undecided. -/
theorem witness_DecisionTraysAreYielded_boundary :
    let s := station .running
    let grown : State := { s with
      launch := { s.launch with horizon := 4 }
      share := { s.share with epochCount := 7 } }
    let t := shareEvent grown
    grown.tracker.count = some 100 ∧ (grown.window.entries.map (·.tray)).Nodup ∧ t.launch.horizon = 6 ∧
    (t.window.entries.filter (·.decided)).map (·.tray) = [104, 105, 106] ∧ t.share.epochCount = 0 ∧
    (shareEvent { grown with station := { grown.station with mode := .holding } }).window.entries.filter
      (fun x => x.decided && x.tray == 106) = [] := by
  decide +kernel

/-- The share unit after power-on reset is within its bounds, and stays so with one eligible peer. -/
theorem witness_HoldTargetsAreEligible :
    ShareBounds (hearing 5 37 8 (station .running)).share ∧
    chooseTarget (hearing 5 37 8 (station .running)) = some ⟨15, 5⟩ := by
  refine ⟨⟨by decide, fun p h => ?_, by decide, by decide, by decide, by decide, by decide, by decide, by decide,
    by decide, by decide⟩, by decide +kernel⟩
  have : ∀ p ∈ (hearing 5 37 8 (station .running)).share.peers,
      p.backlog ≤ 4 ∧ p.starve ≤ 255 ∧ p.age ≤ 4 ∧ p.lapses ≤ 2 := by decide
  obtain ⟨a, b, c, d⟩ := this p h
  exact ⟨a, b, c, d⟩

theorem witness_HoldsExpireOrAreTaken :
    let s := hearing 5 37 8 (station .running)
    let held (sent : Bool) : List PlacedHold := [] ++ ⟨110, 5, sent, 119⟩ :: [⟨113, 5, true, 122⟩]
    (∀ h ∈ (held true).drop 1, h.expiry ≠ 119) ∧ (held false).head?.map (·.sent) = some false ∧
    s.share.peers = s.share.peers.take 5 ++ peerOf s 5 :: s.share.peers.drop 6 ∧
    (s.share.peers.take 5).length = 5 := by
  decide

/-- N 200 and o 30: offset 29 lies before, and 30 at, this station's merge (R100). -/
theorem witness_DemandsFillThePeerTable :
    let s := station .running
    s.share.peers = s.share.peers.take 7 ++ peerOf s 7 :: s.share.peers.drop 8 ∧
    (s.share.peers.take 7).length = 7 ∧ s.cfg.ordinal < 7 ∧ traySub 200 30 29 = 1 ∧ traySub 200 30 30 = 0 ∧
    traySub 200 30 130 = 200 / 2 ∧ traySub 200 30 129 = 101 := by
  decide

theorem witness_LaunchTimingStaysInRange :
    lowerBound settings.pitch ≤ 4000 ∧ 4000 ≤ upperBound settings.pitch ∧ sizeClass settings 500 = some .one ∧
    sizeClass settings 801 = some .two ∧ meanPeriod (List.replicate 8 4000) = some 4000 := by
  decide

/-- The delay is 2500: at it the launch starts, and one tick before it nothing happens. -/
theorem witness_LaunchMomentStartsALaunch :
    let s := claiming .announced (some ⟨2500, []⟩)
    s.launch.commitment = some { claim with timing := some ⟨2500, []⟩ } ∧ claim.delay ≤ 2500 ∧
    s.lane.queue = [] ++ parcel .announced .stage :: [] ∧ phaseOf s claim.seq = some .announced ∧
    (∀ t ∈ claimTrays s.cfg.trays claim.tray claim.span, trayBarred s t = false) ∧ takesLaneEvents s = true ∧
    trayBarred (updateEntry 106 (Entry.take ⟨106, 3, .claim .one .first 106⟩) s) 106 = true ∧
    phaseOf (s.withLane { s.lane with
      queue := s.lane.queue ++ [{ parcel .launching .launch with seq := some 17 }] }) claim.seq = some .announced ∧
    2499 < claim.delay := by
  decide

/-- n is 3: the reading of tray 106 comes with the sixth event. -/
theorem witness_ConfirmReadingsDecide :
    (launching 5 false).launch.flight = some (flight 5) ∧
    (launching 5 false).lane.queue = [] ++ parcel .launching .launch :: [] ∧
    (parcel .launching .launch).seq = some (flight 5).seq ∧ takesLaneEvents (launching 5 false) = true ∧
    (launching 5 false).lane.launchHolder = .sequencer ∧ (flight 5).first = none ∧ (flight 5).second = none ∧
    (flight 5).timing.edges.length + 1 = (flight 5).whole + 3 ∧
    (flight 6).timing.edges.length + 1 = (flight 6).whole + 4 ∧
    (launching 5 true).lane.launchHolder = .launchUnit ∧ (launching 5 true).lane.exitEye = true ∧
    (flight 4).timing.edges.length + 1 ≠ (flight 4).whole + 3 := by
  decide

theorem witness_GovernedAwayTraysGiveWay :
    let s := claiming .announced none
    let x : Entry := { Entry.fresh 106 .empty with mark := .claimedByMe }
    s.window.entries = s.window.entries.take 5 ++ x :: s.window.entries.drop 6 ∧
    (∀ y ∈ s.window.entries.take 5, y.tray ≠ 106) ∧ x.comesToGovern ⟨106, 3, .claim .one .first 106⟩ = true ∧
    x.comesToGovern ⟨106, 3, .vacate .one .first 106⟩ = false ∧
    (106 : Tray) ∈ claimTrays s.cfg.trays claim.tray claim.span ∧
    s.lane.queue = [] ++ parcel .announced .stage :: [] ∧
    (launching 3 true).launch.commitment = none ∧ (launching 3 true).launch.flight = some (flight 3) ∧
    (106 : Tray) ∈ claimTrays s.cfg.trays (flight 3).tray (flight 3).span ∧
    takesLaneEvents (launching 3 true) = true ∧
    (107 : Tray) ∉ claimTrays s.cfg.trays claim.tray claim.span := by
  decide

theorem witness_LaunchEdgeStartsOrAbandons :
    (claiming .announced none).launch.commitment = some { claim with timing := none } ∧
    phaseOf (claiming .announced none) claim.seq = some .announced ∧ claim.edge = 102 ∧
    (claiming .committed none).lane.queue = [] ++ parcel .committed .stage :: [] ∧
    (claiming .announced (some ⟨100, []⟩)).launch.commitment = some { claim with timing := some ⟨100, []⟩ } := by
  decide

theorem witness_FramesBeginInOrder :
    let q := [TxFrame.fresh .demand] ++ TxFrame.fresh (.claim 40 .one 36) :: [TxFrame.fresh .stat]
    let s := sending .running [.fresh (.claim 40 .one 36), .fresh .stat]
    active s = true ∧ s.line.faulted = false ∧ s.line.passage = none ∧ 4 * Config.tb ≤ 256 ∧
    s.line.queue = [] ++ TxFrame.fresh (.claim 40 .one 36) :: [TxFrame.fresh .stat] ∧
    (∀ g ∈ [TxFrame.fresh .stat], Kind.claim.code ≤ g.body.kind.code) ∧ 255 < 4 * Config.tb ∧ q.length = 3 ∧
    s.line.queue ≠ [] ∧
    (State.reset.withStation { State.reset.station with mode := .idle }).line.assembler = .joining := by
  decide

theorem witness_PassagesEndUnfinished :
    let bits := frameBits .stat 4 (statFields (sending .running [{ TxFrame.fresh .stat with inPassage := true }]))
    statInPassage.line.passage = some bits ∧
    statInPassage.line.queue = [] ++ { TxFrame.fresh .stat with inPassage := true } :: [] ∧
    bits[0]? = some true ∧ bits[1]? = some false ∧ bits[6]? = some false ∧ bits[7]? = some false ∧
    breaksWindow (.bit none none) = true ∧ (station .idle).line.passage = none ∧
    bits[8]? = some true := by
  decide +kernel

theorem witness_LineConditionFollowsTheLine :
    active (station .running) = true ∧ (station .running).line.faulted = false ∧
    (station .running).line.passage = none ∧ 4 * Config.tb ≤ 256 ∧ statInPassage.line.passage ≠ none ∧
    16 * Config.tb ≤ 1024 ∧
    (after (.lineFault 256) (station .running)).map (·.line.faulted) = some true ∧
    255 < 4 * Config.tb ∧ 1023 < 16 * Config.tb := by
  decide

theorem witness_CompletedFramesReport :
    let f (b : Bool) : TxFrame := { TxFrame.fresh (.claim 106 .one 102) with inPassage := true, expired := b }
    (claimInPassage true).line.queue = [] ++ f true :: [] ∧ (claimInPassage false).line.queue = [] ++ f false :: [] ∧
    (claimInPassage false).launch.commitment = some { claim with timing := none } ∧ claim.tray = 106 ∧
    (claimInPassage false).lane.queue = [] ++ parcel .committed .stage :: [] ∧
    holdInPassage.line.queue = [] ++ { TxFrame.fresh (.hold 110 5) with inPassage := true } :: [] ∧
    statInPassage.line.queue = [] ++ { TxFrame.fresh .stat with inPassage := true } :: [] := by
  decide

/-- Four and five HOLD and VACATE frames, about the limit of R68. -/
theorem witness_OffersJoinTheQueue :
    let four := List.replicate 4 (TxFrame.fresh (.vacate 90 .one 5))
    (sending .running four).line.queue.countP (·.body.isHoldOrVacate) < 5 ∧
    5 ≤ (sending .running (four ++ [.fresh (.hold 110 5)])).line.queue.countP (·.body.isHoldOrVacate) ∧
    (∀ g ∈ four, g.body.isHold = true → g.inPassage = true) ∧
    5 ≤ (sending .running (four ++ four)).line.queue.countP (·.body.isHoldOrVacate) ∧
    (∀ f ∈ four, f.body ≠ .demand) ∧ statInPassage.line.queue.any (·.body == .stat) = true := by
  decide

theorem witness_FramesReachTheirDeadlines :
    let s := claimInPassage false
    let vacates : List TxFrame :=
      [.fresh (.vacate 90 .one 2), { TxFrame.fresh (.vacate 91 .one 1) with inPassage := true }]
    (s.withTracker { s.tracker with count := some 102 }).tracker.count = some 102 ∧
    s.launch.commitment = some { claim with timing := none } ∧ phaseOf s claim.seq = some .committed ∧
    s.line.queue = [] ++ { TxFrame.fresh (.claim 106 .one 102) with inPassage := true } :: [] ∧ claim.edge = 102 ∧
    (∀ f ∈ s.line.queue, f.spared = false) ∧ active (sending .running vacates) = true ∧
    (after (.trayEdgeEvent false false false true) (sending .running vacates)).map
      (fun t => t.line.queue.map (fun f => (f.body, f.expired))) =
      some [(.vacate 90 .one 1, false), (.vacate 91 .one 0, true)] ∧
    (∀ f ∈ statInPassage.line.queue, f.body.isClaim = false) := by
  decide

theorem witness_FramesReadBack :
    (14 : LaneOrdinal) ≤ 14 ∧ 4095 ≤ 4095 ∧ (station .running).cfg.ordinal ≤ 14 ∧ SettingsInRange (station .running).cfg ∧
    ReportBounds (station .running).report ∧ PaceBounds (station .running).pace := by
  refine ⟨by decide, by decide, by decide, witness_settings_in_range, ⟨?_, by decide, by decide⟩, by decide, by decide⟩
  intro c
  cases c <;> decide

theorem witness_OneWrongBitIsDiscarded :
    let rest := frameRest .claim 3 (spanFields 115 .two)
    checkPasses (withKind .claim rest) = true ∧ 24 < rest.length ∧
    checkPasses (withKind .hold (frameRest .hold 3 (holdFields 110 4))) = true ∧
    checkPasses (withKind .vacate (frameRest .vacate 3 (spanFields 115 .two))) = true ∧
    checkPasses (withKind .bank (frameRest .bank 15 (bankFields 15 0 0))) = true ∧
    checkPasses (withKind .demand (frameRest .demand 7 (demandFields .express 35 4 9 true))) = true ∧
    checkPasses (withKind .stat (frameRest .stat 7 (statFields (station .running)))) = true := by
  decide +kernel

/-- `witness_FrameArrives` gives the arrivals. -/
theorem witness_BrokenFramesAreDiscarded :
    (List.replicate 24 false).length ≠ 25 ∧
    bitsNat ((List.replicate 25 true).take 4) = 15 ∧ bitsNat ((List.replicate 25 false).take 4) ≠ 15 ∧
    bitsNat (((List.replicate 24 true).drop 8).take 2) = 3 ∧ (station .idle).cfg.ordinal ≤ 14 ∧
    (spanFields 110 .one).length = 13 ∧ (holdFields 110 5).length = 16 ∧
    (demandFields .express 35 4 9 true).length = 25 ∧ (statFields (station .idle)).length = 139 ∧
    breaksWindow (.bit (some 24) none) = true ∧ breaksWindow (.bit (some 23) (some 56)) = false ∧
    breaksWindow (.bit (some 40) none) = true ∧ breaksWindow (.bit (some 71) (some 55)) = true := by
  decide +kernel

/-- `witness_FrameArrives` gives the arrivals. -/
theorem witness_ReceivedNoticesAreHandedOver :
    3 < (station .idle).cfg.ordinal ∧ (station .idle).cfg.ordinal < 14 ∧ 4095 ≤ 4095 ∧
    (statFields (station .running)).length = 139 := by
  decide +kernel

/-- W is 20 and Δ is 5: d is 1 and 20 in the window, 21 and 53 pending, and 0 and 54 late. -/
theorem witness_NoticesArePlaced :
    let s := hearing 3 25 0 (station .idle)
    State.reset.tracker.tracking = .unsynced ∧ s.tracker.tracking ≠ .unsynced ∧ 3 < s.cfg.ordinal ∧
    (peerOf (station .idle) 3).offset = none ∧ (peerOf s 3).offset = some 25 ∧ s.tracker.count = some 100 ∧
    traySub 200 30 25 = 5 ∧ traySub 200 101 100 = 1 ∧ traySub 200 120 100 = s.cfg.window ∧
    traySub 200 121 100 = 21 ∧ traySub 200 153 100 = 5 + 48 ∧ traySub 200 154 100 = 54 ∧
    traySub 200 100 100 = 0 ∧ s.cfg.window ≤ traySub 200 30 10 ∧
    (List.replicate 63 (⟨⟨150, 3, .hold 4⟩, false⟩ : PendingNotice)).length < 64 := by
  decide

theorem witness_TheUpstreamNoticeGoverns :
    (Entry.fresh 110 .empty).governing = none ∧
    ((Entry.fresh 110 .empty).apply (.hold 3 4)).governing = some ⟨.hold 3 4, 3⟩ ∧ (3 : LaneOrdinal) < 4 ∧
    ((Entry.fresh 110 .empty).apply (.claim 3 .one .first 110)).governing =
      some ⟨.claim 3 .one .first 110, 3⟩ := by
  decide

/-- `witness_FrameArrives` gives the arrivals. -/
theorem witness_BankOrdersAct :
    (station .running).cfg.ordinal ≤ 14 ∧ (15 : LaneOrdinal) ≤ 15 ∧ (63 : Nat) ≤ 63 ∧
    (5 : LaneOrdinal) ≠ (station .running).cfg.ordinal ∧ (4 : LaneOrdinal) = (station .running).cfg.ordinal := by
  decide

theorem witness_HoldCausesMoveTheStation :
    active (station .running) = true ∧ (station .running).station.holds.has .bank = false ∧
    (station .running).station.holds = ⟨false, false, false, false⟩ ∧
    (after (.lineFault 256) (station .running)).map (fun t => (t.station.holds.has .line, t.station.mode)) =
      some (true, .holding) ∧
    (claiming .committed none).launch.commitment = some { claim with timing := none } ∧
    (claiming .committed none).lane.queue = [] ++ parcel .committed .stage :: [] ∧
    (claiming .announced none).lane.queue = [] ++ parcel .announced .stage :: [] := by
  decide

theorem witness_StartAndStopMoveTheStation :
    (station .idle).station.mode = .idle ∧ (station .idle).station.holds = ⟨false, false, false, false⟩ ∧
    ((station .idle).withStation ⟨.idle, ⟨false, true, false, false⟩, .none, none⟩).station.holds ≠
      ⟨false, false, false, false⟩ ∧
    (station .holding).station.mode = .holding ∧ (station .running).launch.commitment = none ∧
    phaseOf (claiming .announced none) claim.seq = some .announced ∧
    (claiming .committed none).lane.queue = [] ++ parcel .committed .stage :: [] ∧ 200 ≤ 200 ∧ 199 < 200 := by
  decide

theorem witness_ClearNeedsAClearLane :
    let s := station .faulted
    s.station.mode = .faulted ∧ s.station.again = none ∧
    (after (.vacateNotice ⟨heard, frameRest .vacate 4 (spanFields 110 .one)⟩) s).map
      (fun t => (t.station.mode, t.station.again)) = some (.faulted, some .ordinalClash) ∧
    (⟨false, false, false, false, true⟩ : LaneEyes) ≠ ⟨false, false, false, false, false⟩ ∧ 200 ≤ 200 := by
  decide +kernel

theorem witness_ClearElsewhereTouchesNoParcel :
    (station .idle).station.mode = .idle ∧ (station .running).station.mode = .running ∧ 200 ≤ 200 := by
  decide

theorem witness_ConsoleTimersAndLamps :
    (pacing .running 0).pace.timer = some 0 ∧ (pacing .running 1).pace.timer ≠ some 0 ∧
    (let s := station .idle
      let t : State := { s with report := { s.report with
        alerts := List.replicate 13 none ++ [some 3], flags := { s.report.flags with remove := true } } }
      [0, 3].map (fun n => alertOutput t n) = [false, true]) ∧
    (pacing .idle 0).station.mode ≠ .running ∧ (blinking 0 20000).pace.blink = some ⟨0, true, 20000⟩ ∧
    (blinking 2500 0).pace.blink = some ⟨2500, true, 0⟩ ∧ (station .idle).pace.blink = none := by
  decide

/-- The sound station of these tests takes a step. -/
theorem witness_every_step :
    ∃ t, step ((station .running).withPending [.confirmEyeBlocked]) = .next t ∧ t.tracker.latch = true :=
  ⟨_, rfl, rfl⟩

/-- The station with a claim, its record resting at the stage eye, and with a launch in flight. -/
theorem witness_ParcelsSound :
    ParcelsSound (claiming .announced none) ∧ ParcelsSound (launching 3 true) ∧ ParcelsSound (measuring 500) := by
  refine ⟨⟨by decide, by decide, by decide, by decide, by decide, by decide, by decide, ?_, ?_, by decide, nofun,
      by decide⟩,
    ⟨by decide, by decide, by decide, by decide, by decide, by decide, by decide, by decide, nofun, ?_, ?_,
      by decide⟩,
    ⟨by decide, by decide, by decide, by decide, by decide, by decide, by decide, by decide, nofun, by decide,
      nofun, by decide⟩⟩
  · intro r hr _
    exact ⟨_, rfl, by rw [List.mem_singleton.mp hr]; rfl⟩
  · intro k hk
    cases hk
    exact ⟨_, List.mem_singleton.mpr rfl, .inr rfl, rfl⟩
  · intro r hr _
    exact ⟨_, rfl, by rw [List.mem_singleton.mp hr]; rfl⟩
  · intro f hf
    cases hf
    exact ⟨_, List.mem_singleton.mpr rfl, rfl, rfl⟩

theorem witness_EveryStepKeepsTheCapacities :
    let s := (station .running).withPending [.confirmEyeBlocked]
    LaneBounds s.lane ∧ WindowBounds s.window ∧ QueueLimits s.line.queue ∧ PassageSound s.line ∧
    AssemblerSound s.line ∧ AssemblerSound statInPassage.line ∧
    ReportBounds s.report ∧ s.pending.head? ≠ some .powerOnReset := by
  refine ⟨⟨by decide, by decide, by decide⟩, ⟨by decide⟩, ⟨by decide, by decide, by decide, by decide⟩, rfl,
    ⟨by decide, by decide, by decide⟩, ⟨by decide, fun _ => ⟨rfl, rfl⟩, by decide⟩,
    witness_FramesReadBack.2.2.2.2.1, by decide⟩

theorem witness_EveryStepKeepsSharesAndPace :
    ShareBounds (hearing 5 37 8 (station .running)).share ∧ PaceBounds (station .running).pace ∧
    LoaderSound (station .running) := by
  refine ⟨witness_HoldTargetsAreEligible.1, ⟨by decide, by decide⟩, rfl, fun _ => rfl, ?_⟩
  intro c h
  cases h
  exact witness_settings_in_range

theorem witness_EveryStepKeepsTheConfiguration :
    LoaderSound (station .running) ∧ active (station .running) = true :=
  ⟨witness_EveryStepKeepsSharesAndPace.2.2, rfl⟩

/-- With two notices in the pending list, at distances 21 and 30. -/
theorem witness_EveryStepKeepsTheWindowAligned :
    let s := station .running
    TrackerSound s.tracker ∧ WindowAligned s ∧
    PendingSound (s.withWindow { s.window with
      pending := [⟨⟨121, 3, .hold 4⟩, false⟩, ⟨⟨130, 3, .claim .one .first 130⟩, true⟩] }) := by
  refine ⟨⟨by decide, ?_, by decide, by decide⟩, ⟨by decide, by decide, by decide, ?_⟩,
    ⟨by decide, ?_, ?_, by decide⟩⟩
  · intro n h
    cases h
    decide
  · intro e h
    cases h
    decide
  · intro e h
    cases h
    decide
  · intro e h
    cases h
    decide

theorem witness_EveryStepKeepsTheStation :
    StationSound (station .running) ∧ BeltsSound (station .running) := by
  refine ⟨⟨by decide, by decide, by decide, by decide, by decide, by decide, by decide, by decide⟩,
    by decide, fun z => by cases z <;> decide, by decide, by decide, by decide⟩

theorem witness_WholeMachineRules :
    after .powerOnReset (station .faulted) = some State.reset ∧
    ((after .launchMoment (claiming .announced (some ⟨2500, []⟩))).map (·.launch.flight.isSome)) = some true ∧
    (claiming .announced (some ⟨2500, []⟩)).launch.flight = none := by
  decide

end Sys2Proof.Tests
end

section
/-! PROOFS. The text of a scan record (R23, R185): the scanner's digits, the fields between its separators, and
the exact set of character strings that the check of R23 reads. -/

namespace Sys2Proof.Machine

/-! ## Digits -/

/-- The codes of decimal digits as the scanner sends them (R185). -/
def digitCodes (ds : List (Fin 10)) : List Byte := ds.map (fun d => (digitChar d).code)

@[simp] theorem digitCodes_length (ds : List (Fin 10)) : (digitCodes ds).length = ds.length := by
  simp [digitCodes]

@[simp] theorem digitCode_toNat (d : Fin 10) : (digitChar d).code.toNat = 48 + d.val := by
  revert d; decide

theorem isDigit_iff (c : Byte) : isDigit c = true ↔ 48 ≤ c.toNat ∧ c.toNat ≤ 57 := by
  simp [isDigit]

/-- A byte is a decimal digit exactly when the scanner sends it for one (R185). -/
theorem isDigit_iff_exists (c : Byte) : isDigit c = true ↔ ∃ d, (digitChar d).code = c := by
  rw [isDigit_iff]
  constructor
  · intro ⟨hlo, hhi⟩
    refine ⟨⟨c.toNat - 48, by omega⟩, BitVec.eq_of_toNat_eq ?_⟩
    rw [digitCode_toNat]
    show 48 + (c.toNat - 48) = c.toNat
    omega
  · rintro ⟨d, rfl⟩
    rw [digitCode_toNat]
    omega

theorem all_isDigit_iff (cs : List Byte) : cs.all isDigit = true ↔ ∃ ds, cs = digitCodes ds := by
  constructor
  · intro h
    induction cs with
    | nil => exact ⟨[], rfl⟩
    | cons c cs ih =>
      rw [List.all_cons, Bool.and_eq_true, isDigit_iff_exists] at h
      obtain ⟨⟨d, rfl⟩, hcs⟩ := h
      obtain ⟨ds, rfl⟩ := ih hcs
      exact ⟨d :: ds, rfl⟩
  · rintro ⟨ds, rfl⟩
    rw [digitCodes, List.all_map, List.all_eq_true]
    exact fun d _ => (isDigit_iff_exists _).mpr ⟨d, rfl⟩

theorem foldl_digitCodes (ds : List (Fin 10)) (n : Nat) :
    (digitCodes ds).foldl (fun n c => 10 * n + (c.toNat - 0x30)) n = ds.foldl (fun n d => 10 * n + d.val) n := by
  simp [digitCodes, List.foldl_map]

/-- A field is read exactly when it is digits, no more than its most and of a value within its bound (R23). -/
theorem decimalField_eq_some_iff (digits bound : Nat) (cs : List Byte) (v : Nat) :
    decimalField digits bound cs = some v ↔
      ∃ ds, cs = digitCodes ds ∧ 1 ≤ ds.length ∧ ds.length ≤ digits ∧ digitsValue ds ≤ bound ∧
        digitsValue ds = v := by
  constructor
  · intro h
    simp only [decimalField] at h
    split at h
    · cases h
    next hc =>
      simp only [Bool.or_eq_true, Bool.not_eq_true', decide_eq_true_eq, not_or, Bool.not_eq_false,
        List.isEmpty_iff, Nat.not_lt] at hc
      obtain ⟨⟨hne, hlen⟩, hall⟩ := hc
      obtain ⟨ds, rfl⟩ := (all_isDigit_iff cs).mp hall
      rw [foldl_digitCodes] at h
      split at h
      next hb =>
        have hpos := List.length_pos_iff.mpr hne
        rw [digitCodes_length] at hpos hlen
        exact ⟨ds, rfl, hpos, hlen, hb, by simpa [digitsValue] using h⟩
      · cases h
  · rintro ⟨ds, rfl, hpos, hlen, hb, rfl⟩
    have hall := (all_isDigit_iff (digitCodes ds)).mpr ⟨ds, rfl⟩
    have hne : (digitCodes ds).isEmpty = false := by
      cases ds with
      | nil => simp at hpos
      | cons d ds => rfl
    simp only [decimalField, hne, digitCodes_length, hall, foldl_digitCodes, Nat.not_lt.mpr hlen]
    simpa [digitsValue] using hb

/-! ## Fields -/

theorem scanFields_eq_splitOn (cs : List Byte) : scanFields cs = cs.splitOn scanSeparator := by
  induction cs with
  | nil => rfl
  | cons c cs ih =>
    obtain ⟨f, fs, hf⟩ := List.exists_cons_of_ne_nil (List.splitOn_ne_nil scanSeparator cs)
    rw [List.splitOn, List.splitOnP_cons_eq_if_modifyHead, ← List.splitOn, scanFields, ih, hf]
    rfl

theorem digitCode_ne_separator (d : Fin 10) : (digitChar d).code ≠ scanSeparator := by
  revert d; decide

theorem scanSeparator_notMem_digitCodes (ds : List (Fin 10)) : scanSeparator ∉ digitCodes ds := by
  simp only [digitCodes, List.mem_map, not_exists, not_and]
  exact fun d _ => digitCode_ne_separator d

/-- Three fields are those that two separators part (R185). -/
theorem scanFields_eq_three {cs a b c : List Byte} (h : scanFields cs = [a, b, c]) :
    cs = a ++ scanSeparator :: (b ++ scanSeparator :: c) := by
  rw [scanFields_eq_splitOn] at h
  rw [← List.intercalate_splitOn (xs := cs) scanSeparator, h]
  simp [List.intercalate]

theorem scanFields_digitCodes (as bs cs : List (Fin 10)) :
    scanFields (digitCodes as ++ scanSeparator :: (digitCodes bs ++ scanSeparator :: digitCodes cs)) =
      [digitCodes as, digitCodes bs, digitCodes cs] := by
  have h := List.splitOn_intercalate (ls := [digitCodes as, digitCodes bs, digitCodes cs]) scanSeparator
    (by simp [scanSeparator_notMem_digitCodes]) (by simp)
  rw [scanFields_eq_splitOn]
  simpa [List.intercalate] using h

/-! ## Records -/

/-- The digits of a sequence and a destination within the lengths and ranges of R23. -/
def WrittenDigits (seq destination : List (Fin 10)) : Prop :=
  1 ≤ seq.length ∧ seq.length ≤ 3 ∧ digitsValue seq ≤ 255 ∧
    1 ≤ destination.length ∧ destination.length ≤ 5 ∧ digitsValue destination ≤ 65535

/-- The characters of a record between its start and its end character (R185). -/
def scanBody (seq destination : List (Fin 10)) (quality : Fin 10) : List ScanChar :=
  seq.map digitChar ++ ⟨scanSeparator, false⟩ :: (destination.map digitChar ++
    [⟨scanSeparator, false⟩, digitChar quality])

theorem scanText_eq (seq destination : List (Fin 10)) (quality : Fin 10) :
    scanText seq destination quality =
      ⟨scanStart, false⟩ :: (scanBody seq destination quality ++ [⟨scanEnd, false⟩]) := by
  simp [scanText, scanBody, scanStart, scanEnd, scanSeparator]

theorem scanBody_codes (seq destination : List (Fin 10)) (quality : Fin 10) :
    (scanBody seq destination quality).map (·.code) =
      digitCodes seq ++ scanSeparator :: (digitCodes destination ++ scanSeparator :: digitCodes [quality]) := by
  simp [scanBody, digitCodes, Function.comp_def]

theorem scanBody_length_le {seq destination : List (Fin 10)} (h : WrittenDigits seq destination)
    (quality : Fin 10) : (scanBody seq destination quality).length ≤ 11 := by
  obtain ⟨-, hseq, -, -, hdestination, -⟩ := h
  simp only [scanBody, List.length_append, List.length_cons, List.length_map, List.length_nil]
  omega

theorem digitChar_framing (d : Fin 10) : (digitChar d).framing = false := rfl

theorem scanBody_framing (seq destination : List (Fin 10)) (quality : Fin 10) :
    (scanBody seq destination quality).any (·.framing) = false := by
  simp [scanBody, digitChar_framing]

theorem digitChar_code_ne (d : Fin 10) : (digitChar d).code ≠ scanStart ∧ (digitChar d).code ≠ scanEnd := by
  revert d; decide

/-- No character of a record's body opens or closes one (R185). -/
theorem scanBody_code_ne (seq destination : List (Fin 10)) (quality : Fin 10) :
    ∀ c ∈ scanBody seq destination quality, c.code ≠ scanStart ∧ c.code ≠ scanEnd := by
  intro c hc
  simp only [scanBody, List.mem_append, List.mem_cons, List.mem_map, List.not_mem_nil, or_false] at hc
  rcases hc with ⟨d, -, rfl⟩ | rfl | ⟨d, -, rfl⟩ | rfl | rfl
  · exact digitChar_code_ne d
  · decide
  · exact digitChar_code_ne d
  · decide
  · exact digitChar_code_ne quality

/-- Characters without a framing error are told apart by their codes. -/
theorem scanChars_eq_of_codes {l l' : List ScanChar} (hl : l.any (·.framing) = false)
    (hl' : l'.any (·.framing) = false) (h : l.map (·.code) = l'.map (·.code)) : l = l' := by
  have restored : ∀ k : List ScanChar, k.any (·.framing) = false →
      (k.map (·.code)).map (fun c => (⟨c, false⟩ : ScanChar)) = k := by
    intro k hk
    rw [List.map_map]
    refine (List.map_congr_left fun c hc => ?_).trans (List.map_id k)
    have hc : c.framing = false := by simpa using List.any_eq_false.mp hk c hc
    cases c
    simp_all
  rw [← restored l hl, h, restored l' hl']

/-- A record is read where it has no framing error and three fields, each within its digits and range (R23). -/
theorem scanRecordData_eq_some_iff_fields (chars : List ScanChar) (d : ScanData) :
    scanRecordData chars = some d ↔
      chars.any (·.framing) = false ∧ ∃ a b c, scanFields (chars.map (·.code)).tail.dropLast = [a, b, c] ∧
        decimalField 3 255 a = some d.seq ∧ decimalField 5 65535 b = some d.destination ∧
        decimalField 1 9 c = some d.quality := by
  constructor
  · intro h
    simp only [scanRecordData] at h
    split at h
    · cases h
    next hf =>
      split at h
      next a b c hfields =>
        split at h
        next hseq hdestination hquality =>
          cases h
          exact ⟨by simpa using hf, a, b, c, hfields, hseq, hdestination, hquality⟩
        · cases h
      · cases h
  · rintro ⟨hf, a, b, c, hfields, hseq, hdestination, hquality⟩
    simp [scanRecordData, hf, hfields, hseq, hdestination, hquality]

/-- The quality field is one digit (R23). -/
theorem qualityField_eq_some_iff (cs : List Byte) (v : Nat) :
    decimalField 1 9 cs = some v ↔ ∃ q : Fin 10, cs = digitCodes [q] ∧ q.val = v := by
  rw [decimalField_eq_some_iff]
  constructor
  · rintro ⟨ds, rfl, hpos, hlen, -, rfl⟩
    obtain ⟨q, rfl⟩ := List.length_eq_one_iff.mp (Nat.le_antisymm hlen hpos)
    exact ⟨q, rfl, by simp [digitsValue]⟩
  · rintro ⟨q, rfl, rfl⟩
    have hvalue : digitsValue [q] = q.val := by simp [digitsValue]
    exact ⟨[q], rfl, Nat.le_refl 1, Nat.le_refl 1, by omega, hvalue⟩

/-- Characters between a start and an end character are read exactly when they are a record as the scanner
writes it, and as the values written (R23, R185). -/
theorem scanRecordData_eq_some_iff (body : List ScanChar) (first last : Bool) (d : ScanData) :
    scanRecordData (⟨scanStart, first⟩ :: (body ++ [⟨scanEnd, last⟩])) = some d ↔
      ∃ seq destination quality, WrittenDigits seq destination ∧
        (⟨scanStart, first⟩ :: (body ++ [⟨scanEnd, last⟩]) : List ScanChar) = scanText seq destination quality ∧
        d = ⟨digitsValue seq, digitsValue destination, quality.val⟩ := by
  simp only [scanRecordData_eq_some_iff_fields, qualityField_eq_some_iff]
  simp only [decimalField_eq_some_iff]
  have hbody : ((⟨scanStart, first⟩ :: (body ++ [⟨scanEnd, last⟩]) : List ScanChar).map (·.code)).tail.dropLast =
      body.map (·.code) := by simp
  rw [hbody]
  constructor
  · rintro ⟨hf, a, b, c, hfields, ⟨seq, rfl, hs1, hs3, hsv, hseq⟩, ⟨destination, rfl, hd1, hd5, hdv, hdest⟩,
      q, rfl, hq⟩
    refine ⟨seq, destination, q, ⟨hs1, hs3, hsv, hd1, hd5, hdv⟩, ?_, by rw [hseq, hdest, hq]⟩
    rw [scanText_eq]
    refine scanChars_eq_of_codes hf (by simp [scanBody_framing]) ?_
    simp only [List.map_cons, List.map_append, List.map_nil, scanBody_codes, scanFields_eq_three hfields]
  · rintro ⟨seq, destination, q, ⟨hs1, hs3, hsv, hd1, hd5, hdv⟩, htext, rfl⟩
    have hchars := htext
    rw [scanText_eq] at htext
    obtain ⟨-, htail⟩ := List.cons.inj htext
    obtain ⟨rfl, -⟩ := List.append_inj' htail rfl
    refine ⟨by rw [hchars, scanText_eq]; simp [scanBody_framing], _, _, _,
      by rw [scanBody_codes]; exact scanFields_digitCodes seq destination [q],
      ⟨seq, rfl, hs1, hs3, hsv, rfl⟩, ⟨destination, rfl, hd1, hd5, hdv, rfl⟩, q, rfl, rfl⟩

end Sys2Proof.Machine
end

section
/-! PROOFS. The scan port (R22, R23): what it does with one character, with a whole record and with a partial
one; and the statement that well-spelt records are read as written. -/

namespace Sys2Proof.Machine

variable {s : State} {c : ScanChar} {body chars : List ScanChar}

/-! ## One character -/

theorem scanEnd_ne_scanStart : scanEnd ≠ scanStart := by decide

theorem takeChar_opens (hopen : s.scan.openRecord = none) (hc : c.code = scanStart) :
    takeChar s c = s.withScan { s.scan with openRecord := some [c] } := by
  simp [takeChar, hopen, hc]

theorem takeChar_ignores (hopen : s.scan.openRecord = none) (hc : c.code ≠ scanStart) : takeChar s c = s := by
  simp [takeChar, hopen, hc]

theorem takeChar_reopens (hopen : s.scan.openRecord = some chars) (hc : c.code = scanStart) :
    takeChar s c = raise .badScans (s.withScan { s.scan with openRecord := some [c] }) := by
  simp [takeChar, hopen, hc]

theorem takeChar_closes (hopen : s.scan.openRecord = some chars) (hc : c.code = scanEnd) :
    takeChar s c = closeRecord (chars ++ [c]) s := by
  simp [takeChar, hopen, hc, scanEnd_ne_scanStart]

theorem takeChar_joins (hopen : s.scan.openRecord = some chars) (hc : c.code ≠ scanStart ∧ c.code ≠ scanEnd)
    (hlen : chars.length < 12) :
    takeChar s c = s.withScan { s.scan with openRecord := some (chars ++ [c]) } := by
  have hroom : chars.length ≠ 12 := by omega
  simp [takeChar, hopen, hc.1, hc.2, Config.scanRecordMax, hroom]

/-- A record that reaches 13 characters without its end is a partial one (R185). -/
theorem takeChar_overflows (hopen : s.scan.openRecord = some chars)
    (hc : c.code ≠ scanStart ∧ c.code ≠ scanEnd) (hlen : chars.length = 12) :
    takeChar s c = raise .badScans (s.withScan { s.scan with openRecord := none }) := by
  simp [takeChar, hopen, hc.1, hc.2, Config.scanRecordMax, hlen]

/-! ## Several characters -/

theorem foldl_takeChar_ignores (hopen : s.scan.openRecord = none) (hcs : ∀ c ∈ chars, c.code ≠ scanStart) :
    chars.foldl takeChar s = s := by
  induction chars with
  | nil => rfl
  | cons c cs ih =>
    rw [List.foldl_cons, takeChar_ignores hopen (hcs c (by simp))]
    exact ih fun x hx => hcs x (by simp [hx])

/-- The characters of a body join an open record that has room for them. -/
theorem foldl_takeChar_joins (hopen : s.scan.openRecord = some chars)
    (hbody : ∀ c ∈ body, c.code ≠ scanStart ∧ c.code ≠ scanEnd) (hlen : chars.length + body.length ≤ 12) :
    body.foldl takeChar s = s.withScan { s.scan with openRecord := some (chars ++ body) } := by
  induction body generalizing s chars with
  | nil =>
    rw [List.append_nil, ← hopen]
    rfl
  | cons c cs ih =>
    rw [List.length_cons] at hlen
    rw [List.foldl_cons, takeChar_joins hopen (hbody c (by simp)) (by omega),
      ih (chars := chars ++ [c]) (by simp) (fun x hx => hbody x (by simp [hx])) (by simp; omega)]
    simp

variable {first last : Bool}

/-- A start character and a body that has room are held as the open record. -/
theorem foldl_takeChar_begins (hopen : s.scan.openRecord = none)
    (hbody : ∀ c ∈ body, c.code ≠ scanStart ∧ c.code ≠ scanEnd) (hlen : body.length ≤ 11) :
    (⟨scanStart, first⟩ :: body).foldl takeChar s =
      s.withScan { s.scan with openRecord := some (⟨scanStart, first⟩ :: body) } := by
  rw [List.foldl_cons, takeChar_opens hopen rfl,
    foldl_takeChar_joins (chars := [⟨scanStart, first⟩]) (by simp) hbody (by simp; omega)]
  rfl

/-- A record of no more than 13 characters is closed by its end character (R22, R185). -/
theorem foldl_takeChar_record (hopen : s.scan.openRecord = none)
    (hbody : ∀ c ∈ body, c.code ≠ scanStart ∧ c.code ≠ scanEnd) (hlen : body.length ≤ 11) :
    (⟨scanStart, first⟩ :: (body ++ [⟨scanEnd, last⟩])).foldl takeChar s =
      closeRecord (⟨scanStart, first⟩ :: (body ++ [⟨scanEnd, last⟩])) s := by
  rw [← List.cons_append, List.foldl_append, foldl_takeChar_begins hopen hbody hlen]
  exact takeChar_closes (s := s.withScan { s.scan with openRecord := some (⟨scanStart, first⟩ :: body) })
    (c := ⟨scanEnd, last⟩) rfl rfl

/-- A longer record is dropped at its thirteenth character, and the rest of it is ignored (R22, R185). -/
theorem foldl_takeChar_overlong (hopen : s.scan.openRecord = none)
    (hbody : ∀ c ∈ body, c.code ≠ scanStart ∧ c.code ≠ scanEnd) (hlen : 12 ≤ body.length) :
    (⟨scanStart, first⟩ :: (body ++ [⟨scanEnd, last⟩])).foldl takeChar s =
      raise .badScans (s.withScan { s.scan with openRecord := none }) := by
  obtain ⟨kept, c, rest, rfl, hkept⟩ : ∃ kept c rest, body = kept ++ c :: rest ∧ kept.length = 11 :=
    ⟨body.take 11, body[11], body.drop 12, by simp, by simp; omega⟩
  have hbegins := foldl_takeChar_begins (first := first) hopen
    (fun x hx => hbody x (List.mem_append_left _ hx)) (Nat.le_of_eq hkept)
  rw [List.append_assoc, ← List.cons_append, List.foldl_append, hbegins, List.cons_append, List.foldl_cons,
    takeChar_overflows rfl (hbody c (by simp)) (by simp [hkept])]
  refine foldl_takeChar_ignores (by simp) fun x hx => ?_
  rcases List.mem_append.mp hx with hx | hx
  · exact (hbody x (by simp [hx])).1
  · rw [List.mem_singleton.mp hx]
    exact scanEnd_ne_scanStart

/-! ## Closed records -/

theorem closeRecord_of_data {d : ScanData} (hopen : s.scan.openRecord = none)
    (hdata : scanRecordData chars = some d) : closeRecord chars s = takeScan d s := by
  have hs : s.withScan { s.scan with openRecord := none } = s := by rw [← hopen]; rfl
  simp [closeRecord, hdata, hs]

theorem closeRecord_of_malformed (hdata : scanRecordData chars = none) :
    closeRecord chars s = raise .badScans (s.withScan { s.scan with openRecord := none }) := by
  simp [closeRecord, hdata]

theorem exec_scanRecord {t : State} (hactive : active s = true) (ht : chars.foldl takeChar s = t) :
    exec (.scanRecord chars) s = .next (settleLane t) := by
  show execScanRecord chars s = _
  simp [execScanRecord, hactive, ht]

theorem exec_scanRecord_inactive (hactive : active s = false) : exec (.scanRecord chars) s = .next s := by
  show execScanRecord chars s = _
  simp [execScanRecord, hactive]

/-- A well-spelt record is taken as its values (R23, R24). -/
theorem foldl_takeChar_scanText {seq destination : List (Fin 10)} (quality : Fin 10)
    (hopen : s.scan.openRecord = none) (h : WrittenDigits seq destination) :
    (scanText seq destination quality).foldl takeChar s =
      takeScan ⟨digitsValue seq, digitsValue destination, quality.val⟩ s := by
  rw [scanText_eq, foldl_takeChar_record hopen (scanBody_code_ne seq destination quality)
    (scanBody_length_le h quality)]
  exact closeRecord_of_data hopen ((scanRecordData_eq_some_iff _ _ _ _).mpr
    ⟨seq, destination, quality, h, (scanText_eq seq destination quality).symm, rfl⟩)

/-- Any other record of no more than 13 characters is malformed (R23). -/
theorem foldl_takeChar_malformed (hopen : s.scan.openRecord = none)
    (hbody : ∀ c ∈ body, c.code ≠ scanStart ∧ c.code ≠ scanEnd) (hlen : body.length ≤ 11)
    (h : ∀ seq destination quality, WrittenDigits seq destination →
      (⟨scanStart, first⟩ :: (body ++ [⟨scanEnd, last⟩]) : List ScanChar) ≠ scanText seq destination quality) :
    (⟨scanStart, first⟩ :: (body ++ [⟨scanEnd, last⟩])).foldl takeChar s =
      raise .badScans (s.withScan { s.scan with openRecord := none }) := by
  rw [foldl_takeChar_record hopen hbody hlen]
  refine closeRecord_of_malformed (Option.eq_none_iff_forall_ne_some.mpr fun d hd => ?_)
  obtain ⟨seq, destination, quality, hw, htext, -⟩ := (scanRecordData_eq_some_iff _ _ _ _).mp hd
  exact h seq destination quality hw htext

end Sys2Proof.Machine

namespace Sys2Proof.Machine

/-- Settles O17: a written record is exactly what the check of R23 reads (`scanRecordData_eq_some_iff`), and the
port takes each character as the open record's length and the character's code say. -/
theorem scanRecordsAreReadAsWritten : Obligations.ScanRecordsAreReadAsWritten := by
  unfold Obligations.ScanRecordsAreReadAsWritten
  intro written bad
  refine ⟨?written, ?record, ?opened, ?closed, fun s chars h => exec_scanRecord_inactive h⟩
  case written =>
    intro s seq destination quality hactive hopen hw
    exact exec_scanRecord hactive (foldl_takeChar_scanText quality hopen hw)
  case record =>
    intro s body first last hactive hopen hbody chars
    exact ⟨fun hlen hother => exec_scanRecord hactive (foldl_takeChar_malformed hopen hbody hlen hother),
      fun hlen => exec_scanRecord hactive (foldl_takeChar_overlong hopen hbody hlen)⟩
  case opened =>
    intro s chars c hactive hopen
    exact ⟨fun hc => exec_scanRecord hactive (takeChar_reopens hopen hc),
      fun hstart hend hlen => exec_scanRecord hactive (takeChar_joins hopen ⟨hstart, hend⟩ hlen)⟩
  case closed =>
    intro s c hactive hopen
    exact ⟨fun hc => exec_scanRecord hactive (takeChar_opens hopen hc),
      fun hc => exec_scanRecord hactive (takeChar_ignores hopen hc)⟩

end Sys2Proof.Machine
end

section
/-! PROOFS. The binder (R24 to R30): the oldest Measured record, how it leaves Measured, and the statement that
scan records bind, wait in the slot or are counted. -/

namespace Sys2Proof.Machine

variable {s : State} {n : SeqNo} {before after : List Parcel} {r : Parcel} {d : ScanData}

theorem Phase.isMeasured_iff (p : Phase) : p.isMeasured = true ↔ p = .measured := by
  cases p <;> decide

/-! ## The oldest Measured record (R26) -/

theorem oldestMeasured_none (h : ∀ q ∈ s.lane.queue, q.phase ≠ .measured) : oldestMeasured s = none :=
  List.find?_eq_none.mpr fun q hq => by simpa using h q hq

theorem oldestMeasured_split (hq : s.lane.queue = before ++ r :: after) (hr : r.phase = .measured)
    (hb : ∀ q ∈ before, q.phase ≠ .measured) : oldestMeasured s = some r := by
  rw [oldestMeasured, hq]
  exact find?_split _ _ _ _ (fun q hq => by simpa using hb q hq) (by simp [hr])

/-- The oldest Measured record is the one that its own number names. -/
theorem firstRecord_oldestMeasured (hq : s.lane.queue = before ++ r :: after) (hr : r.phase = .measured)
    (hn : r.seq = some n) (hb : ∀ q ∈ before, q.phase ≠ .measured) :
    FirstRecord s Phase.isMeasured n before r after where
  queue := hq
  phase := (Phase.isMeasured_iff _).mpr hr
  seq := hn
  first q hq hp := absurd ((Phase.isMeasured_iff _).mp hp) (hb q hq)

/-! ## Leaving Measured (R30) -/

theorem Parcel.decided_of_span {c : Settings} {destination length : Nat} {span : Span}
    (hl : r.length = some length) (h : decideParcel c destination length = some span) :
    r.decided c destination = { r with phase := .bound, span := some span, scanTimer := none } := by
  simp [Parcel.decided, hl, h]

theorem Parcel.decided_of_none {c : Settings} {destination length : Nat}
    (hl : r.length = some length) (h : decideParcel c destination length = none) :
    r.decided c destination = { r with phase := .rejected, scanTimer := none } := by
  simp [Parcel.decided, hl, h]

/-- The record that leaves Measured is decided in its place, and destination 0 counts as a no-read. -/
theorem FirstRecord.leaveMeasured (h : FirstRecord s Phase.isMeasured n before r after) (destination : Nat) :
    leaveMeasured n destination s =
      { s with
        lane := { s.lane with queue := before ++ r.decided s.cfg destination :: after }
        report :=
          if destination = 0 then { s.report with counters := s.report.counters.raise .noReads }
          else s.report } := by
  simp only [Machine.leaveMeasured, h.updateRecord, beq_iff_eq]
  split <;> rfl

/-! ## The binder takes a record (R24, R26) -/

theorem takeScan_faulted (hm : s.station.mode = .faulted) : takeScan d s = raise .orphanScans s := by
  simp [takeScan, hm]

theorem takeScan_repeat (hm : s.station.mode ≠ .faulted) (hl : s.scan.lastSequence = some d.seq) :
    takeScan d s = raise .badScans s := by
  simp [takeScan, hm, hl]

theorem takeScan_accepted (hm : s.station.mode ≠ .faulted) (hl : s.scan.lastSequence ≠ some d.seq) :
    takeScan d s = bindRecord d (s.withScan { s.scan with lastSequence := some d.seq }) := by
  simp [takeScan, hm, hl]

theorem bindRecord_slot (h : oldestMeasured s = none) :
    bindRecord d s =
      { s with
        scan := { s.scan with slot := some { record := d, age := 0 } }
        report :=
          if s.scan.slot.isSome then
            { s.report with
              counters := s.report.counters.raise .scanOverruns
              flags := { s.report.flags with scanOverrun := true } }
          else s.report } := by
  simp only [bindRecord, h]
  split <;> rfl

theorem bindRecord_oldest (h : oldestMeasured s = some r) (hn : r.seq = some n) :
    bindRecord d s = leaveMeasured n d.effective s := by
  simp [bindRecord, h, hn]

theorem ScanData.effective_eq (d : ScanData) : d.effective = if d.quality = 0 then 0 else d.destination := by
  simp [ScanData.effective]

/-! ## The scan window runs out (R28) -/

theorem exec_scanWindowRunsOut {k : Ticks} {t : State} (h : FirstRecord s Phase.isMeasured n before r after)
    (hd : drawing s = true) (hk : r.scanTimer = some k) (hle : s.cfg.scanWindow * 10 ≤ k)
    (ht : leaveMeasured n 0 s = t) : exec (.scanWindowRunsOut n) s = .next (settleLane t) := by
  have hdue : scanWindowDue n s = true := by
    simp [scanWindowDue, h.recordOf, hk, scanWindowTicks, Config.ticksPerMs, hle]
  show execScanWindowRunsOut n s = _
  simp [execScanWindowRunsOut, hd, hdue, ht]

end Sys2Proof.Machine

namespace Sys2Proof.Machine

/-- Settles O18: the binder's four cases exclude each other, and the record that R26 and R28 name is the first
that bears its number among the Measured ones. -/
theorem scanRecordsBind : Obligations.ScanRecordsBind := by
  unfold Obligations.ScanRecordsBind
  refine ⟨fun d s hm => takeScan_faulted hm, fun d s hm hl => takeScan_repeat hm hl, ?slot, ?leaves⟩
  case slot =>
    intro d s hm hl hnone
    exact (takeScan_accepted hm hl).trans (bindRecord_slot (oldestMeasured_none hnone))
  case leaves =>
    intro s before after r n length hq hr hn hlen hb leaves
    have leaves_eq (destination : Nat) (scan : Scan) :
        leaveMeasured n destination (s.withScan scan) = leaves destination scan := by
      have h : FirstRecord (s.withScan scan) Phase.isMeasured n before r after :=
        firstRecord_oldestMeasured hq hr hn hb
      rw [h.leaveMeasured, State.withScan_cfg]
      simp only [leaves]
      cases hd : decideParcel s.cfg destination length with
      | some span => rw [Parcel.decided_of_span hlen hd]; rfl
      | none => rw [Parcel.decided_of_none hlen hd]; rfl
    constructor
    · intro d hm hl
      rw [← d.effective_eq, takeScan_accepted hm hl, ← leaves_eq]
      exact bindRecord_oldest (oldestMeasured_split hq hr hb) hn
    · intro k hd hk hle
      exact exec_scanWindowRunsOut (firstRecord_oldestMeasured hq hr hn hb) hd hk hle (leaves_eq 0 s.scan)

end Sys2Proof.Machine
end

section
/-! PROOFS. Deciding a parcel (R30 to R32): the bitwise meaning of a filter, the size classes, and the statement
that the three checks are taken in their order. -/

namespace Sys2Proof.Machine

variable {c : Settings} {destination length : Nat}

/-- A filter compares the bits of its mask alone (R31). -/
theorem Filter.matches_iff (f : Filter) (destination : Nat) :
    f.matches destination = true ↔ f.enabled = true ∧
      ∀ i, i < 16 → f.mask.getLsbD i = true → destination.testBit i = f.base.getLsbD i := by
  simp only [Filter.matches, Bool.and_eq_true, beq_iff_eq]
  refine and_congr_right fun _ => ⟨fun h i hi hm => ?_, fun h => BitVec.eq_of_getLsbD_eq fun i hi => ?_⟩
  · have hbit := congrArg (BitVec.getLsbD · i) h
    simpa only [BitVec.getLsbD_and, BitVec.getLsbD_ofNat, hi, hm, decide_true, Bool.true_and, Bool.and_true]
      using hbit
  · rw [BitVec.getLsbD_and, BitVec.getLsbD_and, BitVec.getLsbD_ofNat]
    cases hm : f.mask.getLsbD i
    · rw [Bool.and_false, Bool.and_false]
    · simp [hi, h i hi hm]

/-! ## Size classes (R32) -/

/-- When a length falls into each class; the four cases are undersize, one tray, two trays and oversize. -/
theorem sizeClass_iff (c : Settings) (length : Nat) :
    (sizeClass c length = some .one ↔ c.minLength ≤ length ∧ length ≤ c.pitch) ∧
    (sizeClass c length = some .two ↔
      c.minLength ≤ length ∧ c.pitch < length ∧ length ≤ 2 * c.pitch) ∧
    (sizeClass c length = none ↔ length < c.minLength ∨ c.pitch < length ∧ 2 * c.pitch < length) := by
  unfold sizeClass
  by_cases hunder : length < c.minLength
  · simp only [if_pos hunder, reduceCtorEq, true_iff, false_iff]
    omega
  by_cases hone : length ≤ c.pitch
  · simp only [if_neg hunder, if_pos hone, reduceCtorEq, Option.some.injEq, true_iff, false_iff]
    omega
  by_cases htwo : length ≤ 2 * c.pitch
  · simp only [if_neg hunder, if_neg hone, if_pos htwo, reduceCtorEq, Option.some.injEq, true_iff, false_iff]
    omega
  · simp only [if_neg hunder, if_neg hone, if_neg htwo, reduceCtorEq, true_iff, false_iff]
    omega

/-- Twice the greatest pitch, 3200, lies below a saturated length (R32, R173). -/
theorem sizeClass_saturated (h : SettingsInRange c) : sizeClass c 4095 = none := by
  obtain ⟨-, hpitch⟩ := h.pitch
  obtain ⟨-, -, hnone⟩ := sizeClass_iff c 4095
  exact hnone.mpr (.inr ⟨by omega, by omega⟩)

/-! ## The checks of R30 -/

theorem decideParcel_zero_of_reject (h : c.noRead = .reject) : decideParcel c 0 length = none := by
  simp [decideParcel, h]

theorem decideParcel_zero_of_induct (h : c.noRead = .induct) : decideParcel c 0 length = sizeClass c length := by
  simp [decideParcel, h]

theorem decideParcel_of_matches {f : Filter} (hd : destination ≠ 0) (hf : f ∈ c.filters)
    (hm : f.matches destination = true) : decideParcel c destination length = none := by
  have hany : c.filters.any (Filter.matches destination) = true := List.any_eq_true.mpr ⟨f, hf, hm⟩
  simp [decideParcel, hd, hany]

theorem decideParcel_of_not_matches (hd : destination ≠ 0)
    (h : ∀ f ∈ c.filters, f.matches destination = false) :
    decideParcel c destination length = sizeClass c length := by
  have hany : c.filters.any (Filter.matches destination) = false :=
    List.any_eq_false.mpr fun f hf => by simp [h f hf]
  simp [decideParcel, hd, hany]

end Sys2Proof.Machine

namespace Sys2Proof.Machine

/-- Settles O19, check by check in the order of R30. -/
theorem parcelsAreDecided : Obligations.ParcelsAreDecided :=
  ⟨fun f destination _ => f.matches_iff destination,
    fun _ _ h => decideParcel_zero_of_reject h,
    fun _ _ h => decideParcel_zero_of_induct h,
    fun _ _ _ _ hd hf hm => decideParcel_of_matches hd hf hm,
    fun _ _ _ hd h => decideParcel_of_not_matches hd h,
    sizeClass_iff,
    fun _ h => sizeClass_saturated h⟩

end Sys2Proof.Machine
end

section
/-! PROOFS. The governing notice (R89 to R91): which row of R89's table matches, what each does to an entry, and
the statement that the upstream notice governs. -/

namespace Sys2Proof.Machine

variable {x : Entry} {n : GoverningNotice} {g : Governing} {k : LaneOrdinal}

/-! ## The rows of R89 -/

/-- The fourth and the fifth row: the sender is upstream of the standing, or is the notice's own sender where
that is the standing too. -/
def Governing.yieldsTo (g : Governing) (n : GoverningNotice) : Prop :=
  n.sender < g.standing ∨ g.notice.sender = n.sender ∧ g.standing = n.sender

theorem consumes_iff (g : Governing) (n : GoverningNotice) :
    consumes g n = true ↔
      ∃ j span first, g.notice = .hold j n.sender ∧ n = .claim n.sender span .first first := by
  obtain ⟨notice, standing⟩ := g
  cases notice with
  | claim => simp [consumes]
  | hold j target =>
    cases n with
    | claim k span part first => cases part <;> simp [consumes, GoverningNotice.sender]
    | hold => simp [consumes]

theorem consumedOnArrival_iff (g : Governing) (n : GoverningNotice) :
    consumedOnArrival g n = true ↔
      ∃ span part first, g.notice = .claim g.standing span part first ∧
        n = .hold n.sender g.standing ∧ n.sender < g.standing := by
  obtain ⟨notice, standing⟩ := g
  cases notice with
  | hold => simp [consumedOnArrival]
  | claim j span part first =>
    cases n with
    | claim => simp [consumedOnArrival]
    | hold k target =>
      simp only [consumedOnArrival, Bool.and_eq_true, beq_iff_eq, decide_eq_true_eq, GoverningNotice.sender,
        GoverningNotice.claim.injEq, GoverningNotice.hold.injEq, true_and]
      constructor
      · rintro ⟨⟨rfl, hk⟩, rfl⟩
        exact ⟨span, part, first, ⟨rfl, rfl, rfl, rfl⟩, rfl, hk⟩
      · rintro ⟨_, _, _, ⟨rfl, -⟩, rfl, hk⟩
        exact ⟨⟨rfl, hk⟩, rfl⟩

/-- The second row takes a CLAIM and the third a HOLD. -/
theorem consumes_of_consumedOnArrival (h : consumedOnArrival g n = true) : consumes g n = false := by
  obtain ⟨_, _, _, -, hhold, -⟩ := (consumedOnArrival_iff g n).mp h
  refine Bool.eq_false_iff.mpr fun hc => ?_
  obtain ⟨_, _, _, -, hclaim⟩ := (consumes_iff g n).mp hc
  cases hhold.symm.trans hclaim

theorem rule_consumes (h : consumes g n = true) : rule (some g) n = .governs g.standing := by
  simp [rule, h]

theorem rule_consumedOnArrival (h : consumedOnArrival g n = true) : rule (some g) n = .standing n.sender := by
  simp [rule, consumes_of_consumedOnArrival h, h]

theorem rule_of_yieldsTo (hc : consumes g n = false) (ha : consumedOnArrival g n = false) (h : g.yieldsTo n) :
    rule (some g) n = .governs n.sender := by
  rcases h with hlt | ⟨hsender, hstanding⟩
  · simp [rule, hc, ha, hlt]
  · simp [rule, hc, ha, hsender, hstanding]

theorem rule_of_not_yieldsTo (hc : consumes g n = false) (ha : consumedOnArrival g n = false)
    (h : ¬ g.yieldsTo n) : rule (some g) n = .discarded := by
  obtain ⟨hlt, heq⟩ := not_or.mp h
  simp [rule, hc, ha, hlt, heq]

/-! ## An entry after a notice (R89 to R91) -/

theorem Entry.apply_of_governs (h : rule x.governing n = .governs k) :
    x.apply n = { x with governing := some { notice := n, standing := k } } := by
  simp [Entry.apply, h]

theorem Entry.apply_of_standing (hg : x.governing = some g) (h : rule (some g) n = .standing k) :
    x.apply n = { x with governing := some { notice := g.notice, standing := k } } := by
  simp [Entry.apply, hg, h]

theorem Entry.apply_of_discarded (h : rule x.governing n = .discarded) : x.apply n = x := by
  simp [Entry.apply, h]

theorem Entry.apply_ungoverned (h : x.governing = none) (n : GoverningNotice) :
    x.apply n = { x with governing := some { notice := n, standing := n.sender } } :=
  Entry.apply_of_governs (by rw [h, rule])

theorem Entry.apply_consumes (hg : x.governing = some g) (h : consumes g n = true) :
    x.apply n = { x with governing := some { notice := n, standing := g.standing } } :=
  Entry.apply_of_governs (by rw [hg, rule_consumes h])

theorem Entry.apply_consumedOnArrival (hg : x.governing = some g) (h : consumedOnArrival g n = true) :
    x.apply n = { x with governing := some { notice := g.notice, standing := n.sender } } :=
  Entry.apply_of_standing hg (rule_consumedOnArrival h)

theorem Entry.apply_of_yieldsTo (hg : x.governing = some g) (hc : consumes g n = false)
    (ha : consumedOnArrival g n = false) (h : g.yieldsTo n) :
    x.apply n = { x with governing := some { notice := n, standing := n.sender } } :=
  Entry.apply_of_governs (by rw [hg, rule_of_yieldsTo hc ha h])

theorem Entry.apply_of_not_yieldsTo (hg : x.governing = some g) (hc : consumes g n = false)
    (ha : consumedOnArrival g n = false) (h : ¬ g.yieldsTo n) : x.apply n = x :=
  Entry.apply_of_discarded (by rw [hg, rule_of_not_yieldsTo hc ha h])

/-- No row raises the standing of a governed entry. -/
theorem Entry.apply_standing_le (hg : x.governing = some g) (n : GoverningNotice) :
    ∃ h, (x.apply n).governing = some h ∧ h.standing ≤ g.standing := by
  by_cases hc : consumes g n = true
  · exact ⟨_, congrArg Entry.governing (Entry.apply_consumes hg hc), Nat.le_refl _⟩
  rw [Bool.not_eq_true] at hc
  by_cases ha : consumedOnArrival g n = true
  · obtain ⟨_, _, _, -, -, hlt⟩ := (consumedOnArrival_iff g n).mp ha
    exact ⟨_, congrArg Entry.governing (Entry.apply_consumedOnArrival hg ha), Nat.le_of_lt hlt⟩
  rw [Bool.not_eq_true] at ha
  by_cases hy : g.yieldsTo n
  · refine ⟨_, congrArg Entry.governing (Entry.apply_of_yieldsTo hg hc ha hy), ?_⟩
    rcases hy with hlt | ⟨-, heq⟩
    · exact Nat.le_of_lt hlt
    · exact Nat.le_of_eq heq.symm
  · exact ⟨g, by rw [Entry.apply_of_not_yieldsTo hg hc ha hy, hg], Nat.le_refl _⟩

theorem Entry.vacate_own_claim {sender : LaneOrdinal} {span : Span} {part : PartFlag} {first : Tray}
    {standing : LaneOrdinal}
    (h : x.governing = some { notice := .claim sender span part first, standing := standing }) :
    x.vacate sender span first = { x with governing := none } := by
  simp [Entry.vacate, h]

theorem Entry.vacate_other {sender : LaneOrdinal} {span : Span} {first : Tray}
    (h : ∀ part standing,
      x.governing ≠ some { notice := .claim sender span part first, standing := standing }) :
    x.vacate sender span first = x := by
  cases hg : x.governing with
  | none => simp [Entry.vacate, hg]
  | some g =>
    obtain ⟨notice, standing⟩ := g
    cases notice with
    | hold j target => simp [Entry.vacate, hg]
    | claim k sp part ft =>
      have hne : ¬ ((k = sender ∧ sp = span) ∧ ft = first) := by
        rintro ⟨⟨rfl, rfl⟩, rfl⟩
        exact h part standing hg
      simp [Entry.vacate, hg, hne]

end Sys2Proof.Machine

namespace Sys2Proof.Machine

/-- Settles O47, row by row of R89; R90's two orders meet the second row and the third. -/
theorem theUpstreamNoticeGoverns : Obligations.TheUpstreamNoticeGoverns := by
  unfold Obligations.TheUpstreamNoticeGoverns
  refine ⟨fun x n h => x.apply_ungoverned h n, ?rows, ?orders,
    fun x sender span first => ⟨fun part standing h => x.vacate_own_claim h, fun h => x.vacate_other h⟩⟩
  case rows =>
    intro x n g hg second third
    have hsecond : second ↔ consumes g n = true := (consumes_iff g n).symm
    have hthird : third ↔ consumedOnArrival g n = true := (consumedOnArrival_iff g n).symm
    rw [hsecond, hthird, Bool.not_eq_true, Bool.not_eq_true]
    exact ⟨x.apply_consumes hg, x.apply_consumedOnArrival hg,
      fun hc ha => ⟨x.apply_of_yieldsTo hg hc ha, x.apply_of_not_yieldsTo hg hc ha⟩, x.apply_standing_le hg n⟩
  case orders =>
    intro x holder target span first hx hlt claim hold
    have hsecond : consumes ⟨hold, holder⟩ claim = true :=
      (consumes_iff _ _).mpr ⟨holder, span, first, rfl, rfl⟩
    have hthird : consumedOnArrival ⟨claim, target⟩ hold = true :=
      (consumedOnArrival_iff _ _).mpr ⟨span, .first, first, rfl, rfl, hlt⟩
    constructor
    · rw [x.apply_ungoverned hx hold]
      exact Entry.apply_consumes rfl hsecond
    · rw [x.apply_ungoverned hx claim]
      exact Entry.apply_consumedOnArrival rfl hthird

end Sys2Proof.Machine
end

section
/-! PROOFS. Marks and notices on the window's entries (R81, R92, R93): what marking several trays leaves of each
entry, when a notice comes to govern, and what the application of a notice does to its entry. -/

namespace Sys2Proof.Machine

variable {s : State} {p : Part} {x : Entry} {near far : List Entry}

/-! ## Marks (R81) -/

/-- A change of the first member with a key shows at that key alone. -/
theorem find?_modifyFirst {α : Type} (key : α → Nat) (t q : Nat) (f : α → α) (hf : ∀ a, key (f a) = key a)
    (l : List α) :
    (modifyFirst (key · == t) f l).find? (key · == q) =
      if q = t then (l.find? (key · == q)).map f else l.find? (key · == q) := by
  induction l with
  | nil => simp [modifyFirst]
  | cons a l ih =>
    by_cases ht : key a = t
    · subst ht
      by_cases hq : q = key a
      · simp [modifyFirst, hf, hq]
      · simp [modifyFirst, hf, hq, Ne.symm hq]
    · by_cases hq : key a = q
      · subst hq
        simp [modifyFirst, ht]
      · simp [modifyFirst, ht, hq, ih]

theorem entryOf_setMark (m : OwnMark) (t q : Tray) (s : State) :
    entryOf (setMark m t s) q =
      if q = t then (entryOf s q).map (fun e => { e with mark := m }) else entryOf s q :=
  find?_modifyFirst Entry.tray t q (fun e => { e with mark := m }) (fun _ => rfl) s.window.entries

theorem entryOf_setMarks (m : OwnMark) (ts : List Tray) (q : Tray) (s : State) :
    entryOf (setMarks m ts s) q =
      if q ∈ ts then (entryOf s q).map (fun e => { e with mark := m }) else entryOf s q := by
  induction ts generalizing s with
  | nil => simp [setMarks]
  | cons t ts ih =>
    refine (ih (setMark m t s)).trans ?_
    rw [entryOf_setMark]
    by_cases ht : q = t <;> by_cases hts : q ∈ ts <;> simp [ht, hts, Function.comp_def]

/-- The marks of entries that several trays name. -/
def markEntries (m : OwnMark) (ts : List Tray) (es : List Entry) : List Entry :=
  ts.foldl (fun es t => modifyFirst (·.tray == t) (fun e => { e with mark := m }) es) es

theorem setMarks_eq (m : OwnMark) (ts : List Tray) (s : State) :
    setMarks m ts s = withEntries s (markEntries m ts s.window.entries) := by
  induction ts generalizing s with
  | nil => rfl
  | cons t ts ih => exact ih (setMark m t s)

/-! ## Coming to govern (R89, R92, R93) -/

theorem Part.governs_eq_some_iff (p : Part) (n : GoverningNotice) :
    p.governs = some n ↔
      (∃ span part first, p.body = .claim span part first ∧ n = .claim p.sender span part first) ∨
      (∃ target, p.body = .hold target ∧ n = .hold p.sender target) := by
  constructor
  · intro h
    cases hb : p.body with
    | claim span part first =>
      rw [Part.governs, hb] at h
      exact .inl ⟨span, part, first, rfl, (Option.some.inj h).symm⟩
    | hold target =>
      rw [Part.governs, hb] at h
      exact .inr ⟨target, rfl, (Option.some.inj h).symm⟩
    | vacate span part first =>
      rw [Part.governs, hb] at h
      cases h
  · rintro (⟨span, part, first, hb, rfl⟩ | ⟨target, hb, rfl⟩) <;> rw [Part.governs, hb]

theorem Part.sender_of_governs {n : GoverningNotice} (h : p.governs = some n) : n.sender = p.sender := by
  rcases (p.governs_eq_some_iff n).mp h with ⟨_, _, _, -, rfl⟩ | ⟨_, -, rfl⟩ <;> rfl

theorem rule_governs_iff (governing : Option Governing) (n : GoverningNotice) :
    (∃ k, rule governing n = .governs k) ↔
      governing = none ∨ ∃ g, governing = some g ∧
        (consumes g n = true ∨ ¬ consumedOnArrival g n = true ∧ g.yieldsTo n) := by
  cases governing with
  | none => simp [rule]
  | some g =>
    by_cases hc : consumes g n = true
    · simp [rule_consumes hc, hc]
    rw [Bool.not_eq_true] at hc
    by_cases ha : consumedOnArrival g n = true
    · simp [rule_consumedOnArrival ha, hc, ha]
    rw [Bool.not_eq_true] at ha
    by_cases hy : g.yieldsTo n
    · simp [rule_of_yieldsTo hc ha hy, ha, hy]
    · simp [rule_of_not_yieldsTo hc ha hy, hc, hy]

theorem Entry.comesToGovern_iff (p : Part) (x : Entry) :
    x.comesToGovern p = true ↔ ∃ n, p.governs = some n ∧ ∃ k, rule x.governing n = .governs k := by
  cases hp : p.governs with
  | none => simp [Entry.comesToGovern, hp]
  | some n => cases hr : rule x.governing n <;> simp [Entry.comesToGovern, hp, hr]

/-- Of the notices that come to govern, a HOLD for this station alone leaves the tray to it (R92). -/
theorem Part.takesAway_eq_false_iff (own : LaneOrdinal) (h : x.comesToGovern p = true) :
    p.takesAway own = false ↔ p.body = .hold own := by
  obtain ⟨n, hn, -⟩ := (x.comesToGovern_iff p).mp h
  rcases (p.governs_eq_some_iff n).mp hn with ⟨_, _, _, hb, -⟩ | ⟨_, hb, -⟩ <;> simp [Part.takesAway, hb]

/-! ## A notice applied to its entry (R89, R92, R93) -/

theorem applyPart_unmarked (hw : s.window.entries = near ++ x :: far) (hx : x.tray = p.tray)
    (hn : ∀ y ∈ near, y.tray ≠ p.tray) (h : x.comesToGovern p = false ∨ x.mark = .none) :
    applyPart p s = { s with window := { s.window with entries := near ++ x.take p :: far } } := by
  simp only [applyPart, entryOf_split hw hx hn, updateEntry_split (Entry.take p) hw hx hn]
  rcases h with h | h <;> simp [h]

theorem applyPart_held (hw : s.window.entries = near ++ x :: far) (hx : x.tray = p.tray)
    (hn : ∀ y ∈ near, y.tray ≠ p.tray) (hg : x.comesToGovern p = true) (hm : x.mark = .heldByMe) :
    applyPart p s =
      dropHeld p.tray { s with window := { s.window with entries := near ++ x.take p :: far } } := by
  simp [applyPart, entryOf_split hw hx hn, updateEntry_split (Entry.take p) hw hx hn, hg, hm]

theorem applyPart_claimed (hw : s.window.entries = near ++ x :: far) (hx : x.tray = p.tray)
    (hn : ∀ y ∈ near, y.tray ≠ p.tray) (hg : x.comesToGovern p = true) (hm : x.mark = .claimedByMe) :
    applyPart p s =
      let applied : State := { s with window := { s.window with entries := near ++ x.take p :: far } }
      if p.body = .hold s.cfg.ordinal then applied else governedAway p.tray applied := by
  simp only [applyPart, entryOf_split hw hx hn, updateEntry_split (Entry.take p) hw hx hn, hg, hm, if_true,
    ← Part.takesAway_eq_false_iff s.cfg.ordinal hg]
  cases p.takesAway s.cfg.ordinal <;> rfl

end Sys2Proof.Machine
end

section
/-! PROOFS. Trays governed away (R92, R132, R138): the withdrawal before the launch moment, the late conflict
after it, and the statement that a claimed tray gives way. -/

namespace Sys2Proof.Machine

variable {s : State} {t : Tray} {before after : List Parcel} {r : Parcel} {k : Commitment} {f : Flight}

/-! ## Withdrawal (R132) -/

/-- The record goes back to Staged, the cost to A, the CLAIM out of the queue and the marks to none. -/
theorem FirstRecord.withdraw (h : FirstRecord s Phase.isClaim k.seq before r after) :
    withdraw k s =
      { s with
        lane := { s.lane with queue := before ++ { r with phase := .staged, placement := none } :: after }
        window := (setMarks .none (claimTrays s.cfg.trays k.tray k.span) s).window
        share := { s.share with credit := min (s.share.credit + k.cost) 32 }
        launch := { s.launch with commitment := none }
        line := (askRemoval TxBody.isClaim s).line
        report := { s.report with counters := s.report.counters.raise .withdrawals } } := by
  have hrecord :
      FirstRecord (askRemoval TxBody.isClaim (addCredit k.cost s)) Phase.isClaim k.seq before r after :=
    ⟨h.queue, h.phase, h.seq, h.first⟩
  simp only [Machine.withdraw, hrecord.discardCommitment, setMarks_eq]
  rfl

/-- Every CLAIM that is left after its removal was asked runs to its end in passage (R71). -/
theorem claim_of_mem_askRemoval {g : TxFrame} (hg : g ∈ (askRemoval TxBody.isClaim s).line.queue)
    (hc : g.body.isClaim = true) : g.inPassage = true ∧ g.removalAsked = true := by
  rcases (mem_askRemoval _ _ _).mp hg with ⟨-, hn⟩ | ⟨g', -, -, hp, rfl⟩
  · rw [hc] at hn
    cases hn
  · exact ⟨hp, rfl⟩

/-! ## Late conflict (R138) -/

theorem conflictFlight_of_no_flight (h : s.launch.flight = none) : conflictFlight s = s := by
  simp [conflictFlight, h]

theorem dropCommitment_of_no_commitment (h : s.launch.commitment = none) : dropCommitment s = s := by
  simp [dropCommitment, h]

theorem FirstRecord.conflictFlight (h : FirstRecord s Phase.isLaunching f.seq before r after)
    (hf : s.launch.flight = some f) :
    conflictFlight s =
      { s with
        lane := { s.lane with queue := before ++ { r with phase := .conflict } :: after }
        launch := { s.launch with flight := none } } := by
  simp only [Machine.conflictFlight, hf, h.updateRecord]
  rfl

/-- Entry into Faulted with nothing committed and nothing in flight (R162). -/
theorem enterFaulted_of_no_launch (cause : FaultCause) (hk : s.launch.commitment = none)
    (hf : s.launch.flight = none) :
    enterFaulted cause s =
      { s with
        lane := { s.lane with stall := .stopped, stageHolder := .sequencer, launchHolder := .sequencer }
        line := (request .stat s).line
        station := { s.station with mode := .faulted, cause := cause } } := by
  simp only [enterFaulted, dropCommitment_of_no_commitment hk, conflictFlight_of_no_flight hf, offerStat_eq,
    request_eq]
  rfl

theorem FirstRecord.lateConflict (h : FirstRecord s Phase.isLaunching f.seq before r after)
    (hk : s.launch.commitment = none) (hf : s.launch.flight = some f) (ht : takesLaneEvents s = true) :
    lateConflict s =
      { s with
        lane := { s.lane with
          queue := before ++ { r with phase := .conflict } :: after
          stall := .stopped
          stageHolder := .sequencer
          launchHolder := .sequencer }
        launch := { s.launch with flight := none }
        line := (request .stat s).line
        station := { s.station with mode := .faulted, cause := .lateConflict }
        report := { s.report with flags := { s.report.flags with lateConflict := true } } } := by
  have htaken : takesLaneEvents (setFlag .lateConflict (takeBelts (Machine.conflictFlight s))) = true := by
    simpa [takesLaneEvents] using ht
  rw [Machine.lateConflict, reportFault, if_pos htaken, h.conflictFlight hf, enterFaulted_of_no_launch]
  · simp only [request_eq]
    rfl
  · exact hk
  · rfl

/-! ## The window's report (R92) -/

theorem governedAway_committed (hk : s.launch.commitment = some k)
    (ht : t ∈ claimTrays s.cfg.trays k.tray k.span) : governedAway t s = withdraw k s := by
  simp [governedAway, hk, ht]

theorem governedAway_launched (hk : s.launch.commitment = none) (hf : s.launch.flight = some f)
    (ht : t ∈ claimTrays s.cfg.trays f.tray f.span) : governedAway t s = lateConflict s := by
  simp [governedAway, hk, hf, ht]

theorem governedAway_other
    (hk : ∀ k, s.launch.commitment = some k → t ∉ claimTrays s.cfg.trays k.tray k.span)
    (hf : ∀ f, s.launch.flight = some f → t ∉ claimTrays s.cfg.trays f.tray f.span) :
    governedAway t s = s := by
  cases hc : s.launch.commitment with
  | none => cases hl : s.launch.flight with
    | none => simp [governedAway, hc, hl]
    | some f => simp [governedAway, hc, hl, hf f hl]
  | some k => cases hl : s.launch.flight with
    | none => simp [governedAway, hc, hl, hk k hc]
    | some f => simp [governedAway, hc, hl, hk k hc, hf f hl]

end Sys2Proof.Machine

namespace Sys2Proof.Machine

/-- Settles O34: the three marks, the two moments of R132 and R138, and the rows of R89 that let a notice
govern. -/
theorem governedAwayTraysGiveWay : Obligations.GovernedAwayTraysGiveWay := by
  unfold Obligations.GovernedAwayTraysGiveWay
  refine ⟨?marks, ?before, ?after, fun s t hk hf => governedAway_other hk hf, ?governs⟩
  case marks =>
    intro s p x near far hw hx hn applied
    exact ⟨applyPart_unmarked hw hx hn, applyPart_held hw hx hn, applyPart_claimed hw hx hn⟩
  case before =>
    intro s k t before after r hk ht h u
    have hu : u = _ := (governedAway_committed hk ht).trans h.withdraw
    have hentry (q : Tray) : entryOf u q =
        entryOf (setMarks .none (claimTrays s.cfg.trays k.tray k.span) s) q := by rw [hu]; rfl
    have hline : u.line = (askRemoval TxBody.isClaim s).line := by rw [hu]
    refine ⟨by rw [hu], by rw [hu], by rw [hu], by rw [hu], fun f hf hc => ?_, fun f hf hc => ?_,
      fun q hq y hy => ?_, fun q hq => ?_, by rw [hu], by rw [hu], by rw [hu], by rw [hu], by rw [hu]⟩
    · exact claim_of_mem_askRemoval (hline ▸ hf) hc
    · rw [hline]
      exact (mem_askRemoval _ _ _).mpr (.inl ⟨hf, hc⟩)
    · rw [hentry, entryOf_setMarks, if_pos hq] at hy
      obtain ⟨e, -, rfl⟩ := Option.map_eq_some_iff.mp hy
      rfl
    · rw [hentry, entryOf_setMarks, if_neg hq]
  case after =>
    intro s f t before after r hk hf ht h hlane
    exact (governedAway_launched hk hf ht).trans (h.lateConflict hk hf hlane)
  case governs =>
    intro p x
    rw [x.comesToGovern_iff]
    refine exists_congr fun n => ?_
    rw [← p.governs_eq_some_iff]
    refine and_congr_right fun hn => ?_
    rw [rule_governs_iff]
    refine or_congr_right (exists_congr fun g => and_congr_right fun _ => ?_)
    rw [consumes_iff, consumedOnArrival_iff, Governing.yieldsTo, Part.sender_of_governs hn]
    refine or_congr_right (and_congr_left fun _ => not_congr ?_)
    constructor
    · rintro ⟨span, part, first, hg, hhold, hlt⟩
      exact ⟨hlt, hhold, span, part, first, hg⟩
    · rintro ⟨hlt, hhold, span, part, first, hg⟩
      exact ⟨span, part, first, hg, hhold, hlt⟩

end Sys2Proof.Machine
end

section
/-! PROOFS. The pending list (R94, R95): where a newcomer stands, and which older notice it replaces. -/

namespace Sys2Proof.Machine

variable {s : State} {p : Part} {e : Tray}

/-! ## The place of a newcomer (R94) -/

/-- It stands behind every notice at its distance or nearer, up to the first that is farther. -/
theorem insertPending_eq_append (d : Tray → Nat) (n : PendingNotice) (l : List PendingNotice) :
    ∃ near far, l = near ++ far ∧ insertPending d n l = near ++ n :: far ∧
      (∀ q ∈ near, d q.part.tray ≤ d n.part.tray) ∧
      ∀ q, far.head? = some q → d n.part.tray < d q.part.tray := by
  induction l with
  | nil => exact ⟨[], [], rfl, rfl, by simp, by simp⟩
  | cons a l ih =>
    by_cases ha : d a.part.tray ≤ d n.part.tray
    · obtain ⟨near, far, hl, hins, hnear, hfar⟩ := ih
      exact ⟨a :: near, far, by rw [hl, List.cons_append], by simp [insertPending, ha, hins],
        List.forall_mem_cons.mpr ⟨ha, hnear⟩, hfar⟩
    · exact ⟨[], a :: l, rfl, by simp [insertPending, ha], by simp, by simpa using ha⟩

/-- In a list in order of distance, every notice behind that place is farther. -/
theorem lt_of_mem_of_head_lt {d : Tray → Nat} {n : PendingNotice} {far : List PendingNotice}
    (hsorted : far.Pairwise (fun a b => d a.part.tray ≤ d b.part.tray))
    (hhead : ∀ q, far.head? = some q → d n.part.tray < d q.part.tray) :
    ∀ q ∈ far, d n.part.tray < d q.part.tray := by
  cases far with
  | nil => simp
  | cons a far =>
    have ha := hhead a rfl
    exact List.forall_mem_cons.mpr
      ⟨ha, fun q hq => Nat.lt_of_lt_of_le ha (List.rel_of_pairwise_cons hsorted hq)⟩

theorem insertPending_pairwise (d : Tray → Nat) (n : PendingNotice) (l : List PendingNotice)
    (h : l.Pairwise (fun a b => d a.part.tray ≤ d b.part.tray)) :
    (insertPending d n l).Pairwise (fun a b => d a.part.tray ≤ d b.part.tray) := by
  obtain ⟨near, far, rfl, hins, hnear, hfar⟩ := insertPending_eq_append d n l
  obtain ⟨hn, hf, hcross⟩ := List.pairwise_append.mp h
  have hbehind := lt_of_mem_of_head_lt hf hfar
  rw [hins, List.pairwise_append, List.pairwise_cons]
  exact ⟨hn, ⟨fun q hq => Nat.le_of_lt (hbehind q hq), hf⟩,
    fun a ha => List.forall_mem_cons.mpr ⟨hnear a ha, hcross a ha⟩⟩

/-! ## Joining the list (R94, R95) -/

/-- The notices that a newcomer leaves in the list: those of another tray, sender or kind. -/
def keptBy (p : Part) (l : List PendingNotice) : List PendingNotice := l.filter (fun q => !p.replaces q.part)

theorem joinPending_of_room (superseded : Bool) (hc : s.tracker.count = some e)
    (h : (keptBy p s.window.pending).length < 64) :
    joinPending p superseded s =
      { s with window := { s.window with
        pending := insertPending (fun t => traySub s.cfg.trays t e) ⟨p, superseded⟩
          (keptBy p s.window.pending) } } := by
  rw [keptBy] at h
  simp only [joinPending, Config.pendingRoom, h, if_true, hc]
  rfl

theorem joinPending_of_full (superseded : Bool) (h : 64 ≤ (keptBy p s.window.pending).length) :
    joinPending p superseded s =
      { s with report := { s.report with
          counters := s.report.counters.raise .pendingOverflows
          flags := { s.report.flags with pendingOverflow := true } } } := by
  rw [keptBy] at h
  simp only [joinPending, Config.pendingRoom, Nat.not_lt.mpr h, if_false]
  rfl

end Sys2Proof.Machine
end

section
/-! PROOFS. The placement of heard notices (R83 to R88): which senders are heard, where each part goes by its
distance, and the statement that notices are placed. -/

namespace Sys2Proof.Machine

variable {s : State} {p : Part} {e : Tray} {offset : Nat} {k : LaneOrdinal} {valid : Bool} {parts : List Part}

/-! ## A part and its distance (R85 to R88) -/

def NoticeBody.isHold : NoticeBody → Bool
  | .hold _ => true
  | .claim _ _ _ | .vacate _ _ _ => false

/-- A HOLD is never superseded by the reading; a CLAIM or a VACATE is from Δ = W on (R87, R88). -/
theorem supersededBy_eq (window offset : Nat) (p : Part) :
    supersededBy window offset p = (!p.body.isHold && decide (window ≤ offset)) := by
  cases h : p.body <;> simp [supersededBy, NoticeBody.isHold, h]

theorem placePart_in_window (hc : s.tracker.count = some e) (h1 : 1 ≤ traySub s.cfg.trays p.tray e)
    (hw : traySub s.cfg.trays p.tray e ≤ s.cfg.window) :
    placePart offset p s = if supersededBy s.cfg.window offset p then s else applyPart p s := by
  simp [placePart, hc, h1, hw]

theorem placePart_pending (hc : s.tracker.count = some e) (hw : s.cfg.window < traySub s.cfg.trays p.tray e)
    (ho : traySub s.cfg.trays p.tray e ≤ offset + 48) :
    placePart offset p s = joinPending p (supersededBy s.cfg.window offset p) s := by
  simp [placePart, hc, Nat.not_le.mpr hw, hw, Config.pendingReach, ho]

theorem placePart_late (hc : s.tracker.count = some e)
    (h : traySub s.cfg.trays p.tray e = 0 ∨
      s.cfg.window < traySub s.cfg.trays p.tray e ∧ offset + 48 < traySub s.cfg.trays p.tray e) :
    placePart offset p s = raise .lateNotices s := by
  rcases h with h0 | ⟨hw, ho⟩
  · simp [placePart, hc, h0]
  · simp [placePart, hc, Nat.not_le.mpr hw, Config.pendingReach, Nat.not_le.mpr ho]

/-! ## Which senders are heard (R83) -/

theorem hearParts_unheard (h : s.tracker.tracking = .unsynced ∨ s.cfg.ordinal ≤ k) :
    hearParts k valid parts s = s := by
  simp [hearParts, h]

theorem hearParts_no_offset (ht : s.tracker.tracking ≠ .unsynced) (hk : k < s.cfg.ordinal)
    (ho : (peerOf s k).offset = none) : hearParts k valid parts s = raise .lateNotices s := by
  simp [hearParts, ht, Nat.not_le.mpr hk, ho]

/-- No placement changes the offset Δ under which the parts after it are placed. -/
theorem foldl_placePart_cfg (m : Nat) (parts : List Part) (s : State) :
    parts.foldl (fun u p => placePart (traySub u.cfg.trays u.cfg.offset m) p u) s =
      parts.foldl (fun u p => placePart (traySub s.cfg.trays s.cfg.offset m) p u) s := by
  induction parts generalizing s with
  | nil => rfl
  | cons p parts ih =>
    simp [ih]

theorem hearParts_of_offset {m : Nat} (ht : s.tracker.tracking ≠ .unsynced) (hk : k < s.cfg.ordinal)
    (ho : (peerOf s k).offset = some m) :
    hearParts k valid parts s =
      if valid then parts.foldl (fun u p => placePart (traySub s.cfg.trays s.cfg.offset m) p u) s else s := by
  simp [hearParts, ht, Nat.not_le.mpr hk, ho, foldl_placePart_cfg]

end Sys2Proof.Machine

namespace Sys2Proof.Machine

/-- Settles O46: the senders of R83, the distances of R85 to R88, and the pending list of R94 and R95. -/
theorem noticesArePlaced : Obligations.NoticesArePlaced := by
  unfold Obligations.NoticesArePlaced
  refine ⟨?unheard, ?late, ?heard, ?placed, ?pending⟩
  case unheard =>
    intro s k t target span h
    exact ⟨hearParts_unheard h, hearParts_unheard h, hearParts_unheard h⟩
  case late =>
    intro s k t target span ht hk ho late
    exact ⟨hearParts_no_offset ht hk ho, hearParts_no_offset ht hk ho, hearParts_no_offset ht hk ho⟩
  case heard =>
    intro s k t m target ht hk ho delta first second
    refine ⟨?_, hearParts_of_offset ht hk ho, hearParts_of_offset ht hk ho, hearParts_of_offset ht hk ho,
      hearParts_of_offset ht hk ho⟩
    refine (hearParts_of_offset ht hk ho).trans ?_
    simp only [Bool.and_eq_true, decide_eq_true_eq, bne_iff_ne]
    rfl
  case placed =>
    intro s delta e p hc d held
    have hheld : held = p.body.isHold := rfl
    have hsuper := supersededBy_eq s.cfg.window delta p
    rw [hheld, ← hsuper]
    refine ⟨fun h1 hw h => ?_, fun h1 hw hd h => ?_, placePart_pending hc, placePart_late hc⟩
    · have hkept : supersededBy s.cfg.window delta p = false := by
        rcases h with hlt | hhold
        · simp [hsuper, hlt]
        · simp [hsuper, hhold]
      rw [placePart_in_window hc h1 hw, hkept]
      rfl
    · rw [placePart_in_window hc h1 hw, hsuper, h]
      simp [hd]
  case pending =>
    intro s p superseded e hc distance others
    have hothers : others = keptBy p s.window.pending := rfl
    rw [hothers]
    refine ⟨fun hroom => ?_, fun hfull => joinPending_of_full superseded hfull⟩
    obtain ⟨near, far, hkept, hins, hnear, hfar⟩ :=
      insertPending_eq_append distance ⟨p, superseded⟩ (keptBy p s.window.pending)
    have hjoin := joinPending_of_room superseded hc hroom
    refine ⟨near, far, hkept, by rw [hjoin, ← hins], hnear, hfar, fun hsorted => ?_⟩
    rw [hjoin]
    exact insertPending_pairwise distance _ _ (hsorted.sublist List.filter_sublist)

end Sys2Proof.Machine
end

section
/-! PROOFS. Free trays and the entries of a claim (R82, R110): when a tray is free, what a claim of free trays
costs, and the change of every entry of a claim at once. -/

namespace Sys2Proof.Machine

variable {s : State} {near block far : List Entry}

/-! ## Free trays (R82) -/

theorem Entry.free_iff (own : LaneOrdinal) (x : Entry) :
    x.free own = true ↔
      x.reading = .empty ∧
      (x.governing = none ∨ ∃ holder standing,
        x.governing = some { notice := .hold holder own, standing := standing }) ∧
      x.mark ≠ .claimedByMe ∧ x.mark ≠ .heldByMe := by
  have hfavours : x.favours own = true ↔
      x.governing = none ∨ ∃ holder standing,
        x.governing = some { notice := .hold holder own, standing := standing } := by
    rcases hg : x.governing with _ | ⟨notice, standing⟩
    · simp [Entry.favours, hg]
    · cases notice <;> simp [Entry.favours, Governing.bars, hg]
  have hmark : x.mark = .none ↔ x.mark ≠ .claimedByMe ∧ x.mark ≠ .heldByMe := by
    cases x.mark <;> decide
  simp only [Entry.free, Bool.and_eq_true, beq_iff_eq, and_assoc, hfavours, hmark]

theorem freeTray_iff (s : State) (t : Tray) :
    freeTray s t = true ↔
      ∃ x near far, s.window.entries = near ++ x :: far ∧ x.tray = t ∧ (∀ y ∈ near, y.tray ≠ t) ∧
        x.free s.cfg.ordinal = true := by
  constructor
  · intro h
    obtain ⟨x, hx, hfree⟩ := (Option.any_eq_true _ _).mp h
    obtain ⟨ht, near, far, hw, hnear⟩ := List.find?_eq_some_iff_append.mp hx
    exact ⟨x, near, far, hw, by simpa using ht, by simpa using hnear, hfree⟩
  · rintro ⟨x, near, far, hw, ht, hnear, hfree⟩
    rw [freeTray, entryOf_split hw ht hnear]
    exact hfree

/-! ## The entries of a claim (R81, R110) -/

/-- Entries that stand together in the window, each the first for its tray. -/
structure EntryBlock (s : State) (near block far : List Entry) : Prop where
  entries  : s.window.entries = near ++ (block ++ far)
  distinct : (block.map (·.tray)).Nodup
  first    : ∀ y ∈ near, y.tray ∉ block.map (·.tray)

theorem EntryBlock.entryOf (h : EntryBlock s near block far) {y : Entry} (hy : y ∈ block) :
    entryOf s y.tray = some y := by
  obtain ⟨before, after, rfl⟩ := List.append_of_mem hy
  have hdistinct := h.distinct
  rw [List.map_append, List.map_cons, List.nodup_append] at hdistinct
  refine entryOf_split (near := near ++ before) (far := after ++ far) (by simp [h.entries]) rfl ?_
  intro z hz
  rcases List.mem_append.mp hz with hz | hz
  · exact fun heq => h.first z hz (heq ▸ List.mem_map_of_mem hy)
  · exact hdistinct.2.2 z.tray (List.mem_map_of_mem hz) y.tray List.mem_cons_self

/-- A block changed in its place, by a change that keeps each entry's tray, is a block again. -/
theorem EntryBlock.map {u : State} (h : EntryBlock s near block far) {f : Entry → Entry}
    (hf : ∀ y, (f y).tray = y.tray) (hu : u.window.entries = near ++ (block.map f ++ far)) :
    EntryBlock u near (block.map f) far := by
  have htrays : (block.map f).map (·.tray) = block.map (·.tray) := by
    simp [Function.comp_def, hf]
  exact ⟨hu, by rw [htrays]; exact h.distinct, by rw [htrays]; exact h.first⟩

/-- The change of each tray's entry in turn changes the block in its place. -/
theorem EntryBlock.foldl_updateEntry (h : EntryBlock s near block far) {f : Entry → Entry}
    (hf : ∀ y, (f y).tray = y.tray) :
    (block.map (·.tray)).foldl (fun u t => updateEntry t f u) s =
      { s with window := { s.window with entries := near ++ (block.map f ++ far) } } := by
  induction block generalizing s near with
  | nil =>
    show s = { s with window := { s.window with entries := near ++ ([] ++ far) } }
    rw [← h.entries]
  | cons x block ih =>
    obtain ⟨hentries, hdistinct, hfirst⟩ := h
    obtain ⟨hx, hdistinct⟩ := List.nodup_cons.mp hdistinct
    rw [List.map_cons, List.foldl_cons, updateEntry_split f hentries rfl
      (fun y hy heq => hfirst y hy (by simp [heq]))]
    refine (ih (near := near ++ [f x]) ⟨by simp, hdistinct, ?_⟩).trans (by simp)
    intro y hy
    rcases List.mem_append.mp hy with hy | hy
    · exact fun hmem => hfirst y hy (List.mem_cons_of_mem _ hmem)
    · rw [List.mem_singleton.mp hy, hf]
      exact hx

/-- Two changes of the first member with a key, the first of which keeps the key, are one change. -/
theorem modifyFirst_modifyFirst {α : Type} (key : α → Nat) (t : Nat) (f g : α → α)
    (hf : ∀ a, key (f a) = key a) (l : List α) :
    modifyFirst (key · == t) g (modifyFirst (key · == t) f l) = modifyFirst (key · == t) (g ∘ f) l := by
  induction l with
  | nil => rfl
  | cons a l ih => by_cases ha : key a = t <;> simp [modifyFirst, ha, hf, ih]

theorem updateEntry_updateEntry (t : Tray) (f g : Entry → Entry) (hf : ∀ y, (f y).tray = y.tray) (s : State) :
    updateEntry t g (updateEntry t f s) = updateEntry t (g ∘ f) s :=
  congrArg (withEntries s) (modifyFirst_modifyFirst Entry.tray t f g hf s.window.entries)

/-- An entry that this station has decided, with an own mark. -/
def Entry.decidedAs (m : OwnMark) (y : Entry) : Entry := { y with mark := m, decided := true }

theorem EntryBlock.markDecided (h : EntryBlock s near block far) (m : OwnMark) :
    (block.map (·.tray)).foldl (fun u t => setDecided t (setMark m t u)) s =
      { s with window := { s.window with entries := near ++ (block.map (Entry.decidedAs m) ++ far) } } := by
  have hstep : (fun u t => setDecided t (setMark m t u)) =
      fun u t => updateEntry t (Entry.decidedAs m) u := by
    funext u t
    exact updateEntry_updateEntry t (fun y => { y with mark := m }) (fun y => { y with decided := true })
      (fun _ => rfl) u
  rw [hstep, h.foldl_updateEntry (f := Entry.decidedAs m) fun _ => rfl]

theorem EntryBlock.setMarks (h : EntryBlock s near block far) (m : OwnMark) :
    setMarks m (block.map (·.tray)) s =
      { s with window := { s.window with
        entries := near ++ (block.map (fun y => { y with mark := m }) ++ far) } } :=
  h.foldl_updateEntry (f := fun y => { y with mark := m }) fun _ => rfl

/-! ## The cost of a claim (R110) -/

/-- The cost of a free tray's entry: a free tray is governed by a HOLD for this station or by nothing. -/
def Entry.cost (y : Entry) : Nat := if y.governing.isSome then 0 else 16

theorem costOf_of_free {t : Tray} {y : Entry} (hy : Machine.entryOf s t = some y)
    (hfree : y.free s.cfg.ordinal = true) : costOf s t = y.cost := by
  obtain ⟨-, hg | ⟨holder, standing, hg⟩, -, -⟩ := (y.free_iff _).mp hfree <;>
    simp [costOf, Entry.cost, hy, hg, Config.trayCost]

theorem EntryBlock.claimCost {t : Tray} {span : Span} (h : EntryBlock s near block far)
    (hfree : ∀ y ∈ block, y.free s.cfg.ordinal = true)
    (htrays : block.map (·.tray) = claimTrays s.cfg.trays t span) :
    claimCost s t span = (block.map Entry.cost).sum := by
  rw [Machine.claimCost, ← htrays, List.map_map]
  exact congrArg List.sum (List.map_congr_left fun y hy => costOf_of_free (h.entryOf hy) (hfree y hy))

end Sys2Proof.Machine
end

section
/-! PROOFS. The claim of a decision tray (R109, R110, R128, R129): what the launch unit makes of a claim that it
accepts and of one that it refuses, and the statement that a free decision tray is claimed. -/

namespace Sys2Proof.Machine

variable {s : State} {near block far : List Entry} {before after : List Parcel} {r : Parcel} {k : Commitment}

/-! ## The launch unit's answer (R128, R129) -/

/-- The events until the last confirm reading of the launch in flight, the (n + 3)-th or, for a span of two, the
(n + 4)-th since its launch edge (R128, R141). -/
theorem lastReadingDue_eq (s : State) :
    lastReadingDue s = match s.launch.flight with
      | none => 0
      | some f => f.whole + (if f.span = .one then 3 else 4) - (f.timing.edges.length + 1) := by
  cases hf : s.launch.flight with
  | none => simp [lastReadingDue, hf]
  | some f => cases hs : f.span <;> simp [lastReadingDue, hf, hs, Span.trays]

theorem acceptsClaim_iff (s : State) (e : Tray) (k : Commitment) :
    acceptsClaim s e k = true ↔
      1 ≤ traySub s.cfg.trays k.edge e ∧ traySub s.cfg.trays k.edge e ≤ s.launch.horizon ∧
        lastReadingDue s < traySub s.cfg.trays k.edge e := by
  simp [acceptsClaim, and_assoc]

theorem claimAdmitted_iff (s : State) :
    claimAdmitted s = true ↔ ∀ f ∈ s.line.queue, f.body.isClaim = false := by
  simp [claimAdmitted]

theorem FirstRecord.makeCommitment (h : FirstRecord s Phase.isClaim k.seq before r after)
    (hq : ∀ f ∈ s.line.queue, f.body.isClaim = false) :
    makeCommitment k s =
      { s with
        lane := { s.lane with queue := before ++
          { r with phase := .committed, placement := some ⟨k.tray, k.edge, k.delay⟩ } :: after }
        launch := { s.launch with commitment := some k }
        line := { s.line with queue := s.line.queue ++ [.fresh (.claim k.tray k.span k.edge)] } } := by
  have hadmitted : claimAdmitted ((Machine.updateRecord Phase.isClaim k.seq
      (fun r => { r with phase := .committed, placement := some ⟨k.tray, k.edge, k.delay⟩ }) s).withLaunch
        { s.launch with commitment := some k }) = true := (claimAdmitted_iff _).mpr (by simpa using hq)
  simp only [h.updateRecord] at hadmitted
  simp only [Machine.makeCommitment, h.updateRecord, hadmitted, if_true]
  rfl

theorem EntryBlock.refuseClaim (h : EntryBlock s near block far)
    (htrays : block.map (·.tray) = claimTrays s.cfg.trays k.tray k.span) :
    refuseClaim k s =
      { s with
        window := { s.window with
          entries := near ++ (block.map (fun y => { y with mark := .none }) ++ far) }
        share := { s.share with credit := min (s.share.credit + k.cost) 32 } } := by
  have hblock : EntryBlock (addCredit k.cost s) near block far := ⟨h.entries, h.distinct, h.first⟩
  rw [Machine.refuseClaim, ← htrays, hblock.setMarks]
  rfl

/-- The launch unit reckons the claim with the ready parcel's number and length (R123 to R125, R128). -/
theorem commitClaim_eq {p : Ticks} {n : SeqNo} {length : Nat} (hp : period s = some p) (hn : r.seq = some n)
    (hl : r.length = some length) (e t : Tray) (span : Span) (cost : Nat) :
    commitClaim r e t span cost s =
      if acceptsClaim s e (reckon s.cfg p n length t span cost) then
        makeCommitment (reckon s.cfg p n length t span cost) s
      else refuseClaim (reckon s.cfg p n length t span cost) s := by
  simp [commitClaim, hp, hn, hl]

/-! ## The decision (R109, R110) -/

theorem readyParcel_split (hq : s.lane.queue = before ++ r :: after) (hb : ∀ q ∈ before, q.phase ≠ .staged)
    (hr : r.phase = .staged) : readyParcel s = some r := by
  rw [readyParcel, hq]
  exact find?_split _ _ _ _ (fun q hq => by simpa using hb q hq) (by simp [hr])

/-- The state in which a free decision tray is looked at: the tray is decided and A has its share (R109). -/
def credited (t : Tray) (s : State) : State := addCredit s.share.share (setDecided t s)

theorem decideTray_of_claims {e t : Tray} (hfree : freeTray (setDecided t s) t = true)
    (hr : readyParcel s = some r) (hc : claims (credited t s) t r = true) :
    decideTray e t s = makeClaim e t r (credited t s) := by
  have hready : readyParcel (credited t s) = some r := by simpa [credited, readyParcel] using hr
  rw [credited] at hc hready
  simp [decideTray, hfree, hready, hc, credited]

theorem EntryBlock.claims {t : Tray} {span : Span} (h : EntryBlock s near block far)
    (hfree : ∀ y ∈ block, y.free s.cfg.ordinal = true)
    (htrays : block.map (·.tray) = claimTrays s.cfg.trays t span) (hspan : r.span = some span)
    (hcost : (block.map Entry.cost).sum ≤ s.share.credit)
    (hq : ∀ f ∈ s.line.queue, f.body.isClaim = false) : claims s t r = true := by
  have hall : ∀ u ∈ claimTrays s.cfg.trays t span, freeTray s u = true := by
    intro u hu
    obtain ⟨y, hy, rfl⟩ := List.mem_map.mp (htrays ▸ hu)
    simp [freeTray, h.entryOf hy, hfree y hy]
  simp [Machine.claims, hspan, h.claimCost hfree htrays, (claimAdmitted_iff s).mpr hq, hcost,
    List.all_eq_true.mpr hall]

theorem EntryBlock.makeClaim {e t : Tray} {span : Span} (h : EntryBlock s near block far)
    (hfree : ∀ y ∈ block, y.free s.cfg.ordinal = true)
    (htrays : block.map (·.tray) = claimTrays s.cfg.trays t span) (hspan : r.span = some span) :
    makeClaim e t r s =
      commitClaim r e t span (block.map Entry.cost).sum
        { s with
          window := { s.window with
            entries := near ++ (block.map (Entry.decidedAs .claimedByMe) ++ far) }
          share := { s.share with
            credit := s.share.credit - (block.map Entry.cost).sum
            starve := 0 } } := by
  have hblock (x : Share) : EntryBlock (s.withShare x) near block far := ⟨h.entries, h.distinct, h.first⟩
  simp only [Machine.makeClaim, hspan, Option.getD_some, h.claimCost hfree htrays, ← htrays,
    (hblock _).markDecided]
  rfl

theorem EntryBlock.setDecided {x : Entry} {second : List Entry} (h : EntryBlock s near (x :: second) far) :
    setDecided x.tray s = { s with window := { s.window with
      entries := near ++ ({ x with decided := true } :: second ++ far) } } :=
  updateEntry_split (fun y => { y with decided := true }) h.entries rfl
    fun y hy heq => h.first y hy (by simp [heq])

theorem EntryBlock.credited {x : Entry} {second : List Entry} (h : EntryBlock s near (x :: second) far) :
    credited x.tray s =
      { s with
        window := { s.window with entries := near ++ ({ x with decided := true } :: second ++ far) }
        share := { s.share with credit := min (s.share.credit + s.share.share) 32 } } := by
  rw [Machine.credited, h.setDecided]
  rfl

/-- The state handed to the launch unit: the entries of the claim marked and decided, A raised by the share and
lowered by the cost (R109, R110). -/
def paidClaim (near block far : List Entry) (s : State) : State :=
  { s with
    window := { s.window with entries := near ++ (block.map (Entry.decidedAs .claimedByMe) ++ far) }
    share := { s.share with
      credit := min (s.share.credit + s.share.share) 32 - (block.map Entry.cost).sum
      starve := 0 } }

/-- A ready parcel whose claim finds its trays free and A at its cost is handed to the launch unit (R110). -/
theorem EntryBlock.decideTray {x : Entry} {second : List Entry} {span : Span}
    (h : EntryBlock s near (x :: second) far) (hfree : ∀ y ∈ x :: second, y.free s.cfg.ordinal = true)
    (htrays : (x :: second).map (·.tray) = claimTrays s.cfg.trays x.tray span)
    (hready : readyParcel s = some r) (hspan : r.span = some span)
    (hq : ∀ f ∈ s.line.queue, f.body.isClaim = false)
    (hcost : ((x :: second).map Entry.cost).sum ≤ min (s.share.credit + s.share.share) 32) (e : Tray) :
    decideTray e x.tray s =
      commitClaim r e x.tray span ((x :: second).map Entry.cost).sum (paidClaim near (x :: second) far s) := by
  have hfreeTray : freeTray (Machine.setDecided x.tray s) x.tray = true := by
    rw [h.setDecided]
    exact (freeTray_iff _ _).mpr ⟨_, near, second ++ far, rfl, rfl,
      fun y hy heq => h.first y hy (by simp [heq]), (List.forall_mem_cons.mp hfree).1⟩
  have hblock : EntryBlock (Machine.credited x.tray s) near ({ x with decided := true } :: second) far :=
    ⟨by rw [h.credited], h.distinct, h.first⟩
  have hcfg : (Machine.credited x.tray s).cfg = s.cfg := by simp [Machine.credited]
  have hfree' : ∀ y ∈ { x with decided := true } :: second,
      y.free (Machine.credited x.tray s).cfg.ordinal = true := by
    rw [hcfg]
    exact List.forall_mem_cons.mpr (List.forall_mem_cons.mp hfree)
  have htrays' : ({ x with decided := true } :: second).map (·.tray) =
      claimTrays (Machine.credited x.tray s).cfg.trays x.tray span := by
    rw [hcfg]
    exact htrays
  have hclaims : Machine.claims (Machine.credited x.tray s) x.tray r = true :=
    hblock.claims hfree' htrays' hspan (by rw [h.credited]; exact hcost) (by rw [h.credited]; exact hq)
  rw [decideTray_of_claims hfreeTray hready hclaims, hblock.makeClaim hfree' htrays' hspan, h.credited]
  rfl

theorem EntryBlock.one {x : Entry} (hw : s.window.entries = near ++ x :: far)
    (hn : ∀ y ∈ near, y.tray ≠ x.tray) : EntryBlock s near [x] far :=
  ⟨hw, by simp, by simpa using hn⟩

theorem EntryBlock.two {x y : Entry} (hw : s.window.entries = near ++ x :: y :: far) (hne : y.tray ≠ x.tray)
    (hx : ∀ z ∈ near, z.tray ≠ x.tray) (hy : ∀ z ∈ near, z.tray ≠ y.tray) :
    EntryBlock s near [x, y] far :=
  ⟨hw, by simp [Ne.symm hne], fun z hz => by simp [hx z hz, hy z hz]⟩

end Sys2Proof.Machine

namespace Sys2Proof.Machine

/-- Settles O26: the entries of the claim are one block for each span, and the launch unit's answer decides what
becomes of the marks and of the cost. -/
theorem freeDecisionTraysAreClaimed : Obligations.FreeDecisionTraysAreClaimed := by
  unfold Obligations.FreeDecisionTraysAreClaimed
  refine ⟨?claimed, Entry.free_iff, freeTray_iff⟩
  intro s e t x second r n span length before after near far p hw ht hnear hfree hsecond hq hb hstaged hn hl hspan
    hline hp cost credit k distance last marked hcost
  subst ht
  have hblock : EntryBlock s near (x :: second) far ∧
      (∀ y ∈ x :: second, y.free s.cfg.ordinal = true) ∧
      (x :: second).map (·.tray) = claimTrays s.cfg.trays x.tray span := by
    cases span with
    | one =>
      subst hsecond
      exact ⟨.one hw hnear, by simpa using hfree, rfl⟩
    | two =>
      obtain ⟨y, rfl, hy, hyfree, hne, hynear⟩ := hsecond
      exact ⟨.two hw hne hnear hynear, by simp [hfree, hyfree], by simp [claimTrays, trayAdd, hy]⟩
  obtain ⟨hblock, hfree, htrays⟩ := hblock
  have hready : readyParcel s = some r := readyParcel_split hq (fun q hq => (hb q hq).1) hstaged
  have hrecord : FirstRecord (paidClaim near (x :: second) far s) Phase.isClaim k.seq before r after :=
    ⟨hq, by rw [hstaged]; rfl, hn, fun q hq => (hb q hq).2⟩
  have hmarked : EntryBlock (paidClaim near (x :: second) far s) near
      ((x :: second).map (Entry.decidedAs .claimedByMe)) far := hblock.map (fun _ => rfl) rfl
  have hdecide : decideTray e x.tray s =
      if acceptsClaim (paidClaim near (x :: second) far s) e k then
        makeCommitment k (paidClaim near (x :: second) far s)
      else refuseClaim k (paidClaim near (x :: second) far s) :=
    (hblock.decideTray hfree htrays hready hspan hline hcost e).trans
      (commitClaim_eq (s := paidClaim near (x :: second) far s) hp hn hl e x.tray span cost)
  have haccepts : acceptsClaim (paidClaim near (x :: second) far s) e k = true ↔
      1 ≤ distance ∧ distance ≤ s.launch.horizon ∧ last < distance := by
    have hlast : lastReadingDue (paidClaim near (x :: second) far s) = last := lastReadingDue_eq _
    rw [acceptsClaim_iff, hlast]
    rfl
  constructor
  · intro h
    rw [hdecide, if_pos (haccepts.mpr h), hrecord.makeCommitment hline]
    rfl
  · intro h
    rw [hdecide, if_neg (fun ha => h (haccepts.mp ha)), hmarked.refuseClaim (by rw [List.map_map]; exact htrays),
      List.map_map]
    rfl

end Sys2Proof.Machine
end

section
/-! PROOFS. The reckoning of a launch (R42, R123 to R126): what rounding half up keeps of a bound, the ranges of
the speed, the lag, the lead, the delay and the horizon, and the statement that joins them. -/

namespace Sys2Proof.Machine

variable {c : Settings} {p length : Nat} {span : Span}

/-! ## Rounding half up -/

theorem le_divHalfUp {a b n : Nat} (hb : 0 < b) (h : n * b ≤ a) : n ≤ divHalfUp a b := by
  rw [divHalfUp, Nat.le_div_iff_mul_le (by omega), Nat.mul_left_comm]
  omega

theorem divHalfUp_le {a b n : Nat} (hb : 0 < b) (h : a ≤ n * b) : divHalfUp a b ≤ n := by
  rw [divHalfUp, ← Nat.lt_add_one_iff, Nat.div_lt_iff_lt_mul (by omega), Nat.mul_left_comm, Nat.add_one_mul n b]
  omega

theorem divHalfUp_two (a : Nat) : divHalfUp a 2 = (a + 1) / 2 := by
  rw [divHalfUp]
  omega

/-! ## Intervals within the bounds (R41, R42) -/

theorem lowerBound_le_iff (pitch p : Nat) : lowerBound pitch ≤ p ↔ 10 * pitch ≤ 3 * p := by
  show (pitch * 10 + 3 - 1) / 3 ≤ p ↔ _
  omega

theorem le_upperBound_iff (pitch p : Nat) : p ≤ upperBound pitch ↔ p ≤ 20 * pitch := by
  rw [upperBound, Nat.mul_comm]

/-- A sum lies between its length times any two bounds that all its members keep. -/
theorem sum_mem {h : List Nat} {lo hi : Nat} (hb : ∀ x ∈ h, lo ≤ x ∧ x ≤ hi) :
    h.length * lo ≤ h.sum ∧ h.sum ≤ h.length * hi := by
  induction h with
  | nil => simp only [List.length_nil, List.sum_nil, Nat.zero_mul, Nat.le_refl, and_self]
  | cons x h ih =>
    obtain ⟨hx, hh⟩ := List.forall_mem_cons.mp hb
    obtain ⟨hge, hle⟩ := ih hh
    rw [List.length_cons, List.sum_cons, Nat.add_one_mul h.length lo, Nat.add_one_mul h.length hi]
    omega

/-- A mean lies between any two bounds that all eight intervals keep. -/
theorem meanPeriod_mem {h : List Nat} {lo hi : Nat} (hp : meanPeriod h = some p)
    (hb : ∀ x ∈ h, lo ≤ x ∧ x ≤ hi) : lo ≤ p ∧ p ≤ hi := by
  unfold meanPeriod at hp
  split at hp
  case isFalse => cases hp
  case isTrue hlength =>
    have height : h.length = 8 := eq_of_beq hlength
    obtain ⟨hge, hle⟩ := sum_mem hb
    rw [height] at hge hle
    obtain rfl := Option.some.inj hp
    exact ⟨le_divHalfUp (by decide) (by rw [Config.historyRoom]; omega),
      divHalfUp_le (by decide) (by rw [Config.historyRoom]; omega)⟩

/-! ## Speed and ramp lag (R123) -/

theorem period_pos (hc : 0 < c.pitch) (hlow : lowerBound c.pitch ≤ p) : 0 < p := by
  rw [lowerBound_le_iff] at hlow
  omega

theorem loopSpeed_mem (hc : 0 < c.pitch) (hlow : lowerBound c.pitch ≤ p) (hhigh : p ≤ upperBound c.pitch) :
    500 ≤ loopSpeed c p ∧ loopSpeed c p ≤ 3000 := by
  have hpos := period_pos hc hlow
  rw [lowerBound_le_iff] at hlow
  rw [le_upperBound_iff] at hhigh
  exact ⟨le_divHalfUp hpos (by rw [Config.ticksPerSecond]; omega),
    divHalfUp_le hpos (by rw [Config.ticksPerSecond]; omega)⟩

/-- At 500 mm/s and 20000 mm/s² the lag is still above 0. -/
theorem rampLag_pos (ha : 0 < c.accel ∧ c.accel ≤ 20000) (hv : 500 ≤ loopSpeed c p) : 1 ≤ rampLag c p := by
  have hsquare : 500 * 500 ≤ loopSpeed c p * loopSpeed c p := Nat.mul_le_mul hv hv
  exact le_divHalfUp (by omega) (by omega)

/-! ## Centring and the lead (R32, R124) -/

/-- A parcel of a size class leaves less than a pitch of its trays. -/
theorem sizeClass_slack (hmin : 0 < c.minLength) (h : sizeClass c length = some span) :
    length ≤ span.trays * c.pitch ∧ span.trays * c.pitch - length < c.pitch := by
  obtain ⟨hone, htwo, -⟩ := sizeClass_iff c length
  cases span with
  | one =>
    have := hone.mp h
    rw [Span.trays]
    omega
  | two =>
    have := htwo.mp h
    rw [Span.trays]
    omega

theorem centring_eq (c : Settings) (span : Span) (length : Nat) :
    centring c span length = (span.trays * c.pitch - length + 1) / 2 := divHalfUp_two _

theorem centring_le_half (h : span.trays * c.pitch - length < c.pitch) :
    2 * centring c span length ≤ c.pitch := by
  rw [centring_eq]
  omega

theorem launchLead_add_centring (hpath : c.pitch ≤ c.path) (hb : 2 * centring c span length ≤ c.pitch) :
    launchLead c p span length + centring c span length = c.path + rampLag c p := by
  rw [launchLead]
  omega

/-! ## The whole pitches and the delay (R125) -/

/-- What is left of a pitch takes between 3 ticks and the whole period to pass. -/
theorem delay_mem {rest : Nat} (hc : 0 < c.pitch) (hlow : lowerBound c.pitch ≤ p) (hrest : rest < c.pitch) :
    3 ≤ divHalfUp ((c.pitch - rest) * p) c.pitch ∧ divHalfUp ((c.pitch - rest) * p) c.pitch ≤ p := by
  rw [lowerBound_le_iff] at hlow
  have hleft : 1 * p ≤ (c.pitch - rest) * p := Nat.mul_le_mul_right p (by omega)
  have hwhole : (c.pitch - rest) * p ≤ p * c.pitch := by
    rw [Nat.mul_comm p]
    exact Nat.mul_le_mul_right p (Nat.sub_le _ _)
  exact ⟨le_divHalfUp hc (by omega), divHalfUp_le hc hwhole⟩

theorem traySub_lt {trays : Nat} (hn : 0 < trays) (a b : Nat) : traySub trays a b < trays :=
  Nat.mod_lt _ hn

/-- The difference of two tray numbers leads from the one back to the other. -/
theorem traySub_add {trays : Nat} (hn : 0 < trays) (a b : Nat) : (traySub trays a b + b) % trays = a % trays := by
  have hb : b % trays < trays := Nat.mod_lt _ hn
  calc (traySub trays a b + b) % trays
      = (a % trays + (trays - b % trays) + b % trays) % trays := by rw [traySub]; simp [Nat.add_mod]
    _ = (a % trays + trays) % trays := by rw [show a % trays + (trays - b % trays) + b % trays =
          a % trays + trays by omega]
    _ = a % trays := by simp

end Sys2Proof.Machine

namespace Sys2Proof.Machine

/-- Settles O31: each value by the lemma on its rounding, from the ranges of the configuration. -/
theorem launchTimingStaysInRange : Obligations.LaunchTimingStaysInRange := by
  unfold Obligations.LaunchTimingStaysInRange
  refine ⟨?reckoning, fun c h p hp hb => meanPeriod_mem hp hb⟩
  intro c p seq length cost tray span hc hlow hhigh hclass k offset
  obtain ⟨hpitch, -⟩ := hc.pitch
  obtain ⟨hmargin, -⟩ := hc.margin
  obtain ⟨-, -, hpath⟩ := hc.path
  obtain ⟨haccel, haccelMax⟩ := hc.accel
  obtain ⟨hminLength, -⟩ := hc.minLength
  have htrays : 0 < c.trays := Nat.lt_of_lt_of_le (by decide) hc.trays.1
  have hpos : 0 < c.pitch := by omega
  have hspeed := loopSpeed_mem hpos hlow hhigh
  have hlag := rampLag_pos (by omega) hspeed.1
  have hslack := sizeClass_slack (by omega) hclass
  have hhalf := centring_le_half hslack.2
  have hlead : k.lead + centring c span length = c.path + rampLag c p := launchLead_add_centring hpath hhalf
  have hoffset : offset = centring c span length := (centring_eq c span length).symm
  have hle : k.whole * c.pitch ≤ k.lead := Nat.div_mul_le_self _ _
  have hlt : k.lead < k.whole * c.pitch + c.pitch := Nat.lt_div_mul_add hpos
  have hrest : k.rest = k.lead - k.whole * c.pitch := rfl
  have hdelay : 3 ≤ k.delay ∧ k.delay ≤ p := delay_mem hpos hlow (show k.rest < c.pitch by omega)
  have hbound : 1 ≤ (c.path + k.lag) / c.pitch := (Nat.one_le_div_iff hpos).mpr (by omega)
  have hwithin : k.whole ≤ (c.path + k.lag) / c.pitch := Nat.div_le_div_right (Nat.le.intro hlead)
  have hhorizon : horizonWith c k.lag = (c.path + k.lag) / c.pitch + 1 + c.margin := rfl
  have hlag_eq : k.lag = (2 * (k.speed * k.speed) + 2 * c.accel) / (4 * c.accel) := by
    show divHalfUp (k.speed * k.speed) (2 * c.accel) = _
    rw [divHalfUp, ← Nat.mul_assoc 2 2]
  have hleadLow : c.pitch < 2 * k.lead := by omega
  have hsplit : k.lead = k.whole * c.pitch + k.rest ∧ k.rest < c.pitch := by omega
  have hhorizons : 3 ≤ horizonWith c k.lag ∧ k.whole + 1 + c.margin ≤ horizonWith c k.lag := by omega
  rw [hoffset]
  exact ⟨rfl, hspeed.1, hspeed.2, hlag_eq, hslack.1, hslack.2, hlead, hhalf, hleadLow, Nat.le.intro hlead, rfl,
    hsplit.1, hsplit.2, rfl, hdelay.1, hdelay.2, traySub_lt htrays _ _, traySub_add htrays _ _, hhorizons.1,
    hhorizons.2⟩

end Sys2Proof.Machine
end

section
/-! PROOFS. The launch edge (R131): what a tray edge event does to a commitment before, at and after its launch
edge, and the statement that the edge starts the delay of an Announced claim and abandons a Committed one. -/

namespace Sys2Proof.Machine

variable {s : State} {k : Commitment} {before after : List Parcel} {r : Parcel} {count : Option Tray}

/-! ## Before, at and after the launch edge (R131) -/

theorem commitmentEvent_after_edge {x : EdgeTiming} (hk : s.launch.commitment = some k)
    (hx : k.timing = some x) :
    commitmentEvent count s =
      s.withLaunch { s.launch with commitment := some { k with timing := some x.event } } := by
  simp [commitmentEvent, hk, hx]

theorem commitmentEvent_before_edge (hk : s.launch.commitment = some k) (hx : k.timing = none)
    (hc : count ≠ some k.edge) : commitmentEvent count s = s := by
  simp [commitmentEvent, hk, hx, hc]

theorem commitmentEvent_edge_announced (hk : s.launch.commitment = some k) (hx : k.timing = none)
    (hp : phaseOf s k.seq = some .announced) :
    commitmentEvent (some k.edge) s =
      s.withLaunch { s.launch with commitment := some { k with timing := some ⟨0, []⟩ } } := by
  simp [commitmentEvent, hk, hx, hp]

theorem commitmentEvent_edge_abandons (hk : s.launch.commitment = some k) (hx : k.timing = none)
    (hp : phaseOf s k.seq ≠ some .announced) : commitmentEvent (some k.edge) s = abandon k s := by
  simp [commitmentEvent, hk, hx, hp]

/-! ## Abandonment (R131) -/

/-- The record goes back to Staged, the CLAIM out of the queue and the marks to none, and A keeps its value. -/
theorem FirstRecord.abandon (h : FirstRecord s Phase.isClaim k.seq before r after) :
    abandon k s =
      { s with
        lane := { s.lane with queue := before ++ { r with phase := .staged, placement := none } :: after }
        window := (setMarks .none (claimTrays s.cfg.trays k.tray k.span) s).window
        launch := { s.launch with commitment := none }
        line := (askRemoval TxBody.isClaim s).line
        report := { s.report with counters := s.report.counters.raise .abandons } } := by
  have hrecord : FirstRecord (askRemoval TxBody.isClaim s) Phase.isClaim k.seq before r after :=
    ⟨h.queue, h.phase, h.seq, h.first⟩
  simp only [Machine.abandon, hrecord.discardCommitment, setMarks_eq]
  rfl

theorem mark_of_entryOf_setMarks {m : OwnMark} {ts : List Tray} {q : Tray} {y : Entry} (hq : q ∈ ts)
    (hy : entryOf (setMarks m ts s) q = some y) : y.mark = m := by
  rw [entryOf_setMarks, if_pos hq] at hy
  obtain ⟨e, -, rfl⟩ := Option.map_eq_some_iff.mp hy
  rfl

end Sys2Proof.Machine

namespace Sys2Proof.Machine

/-- Settles O35: a tray edge event by the count it brings and the phase of the commitment's record. -/
theorem launchEdgeStartsOrAbandons : Obligations.LaunchEdgeStartsOrAbandons := by
  unfold Obligations.LaunchEdgeStartsOrAbandons
  intro s k hk timed
  refine ⟨fun x count hx => commitmentEvent_after_edge hk hx,
    fun count hx hc => commitmentEvent_before_edge hk hx hc,
    fun hx hp => commitmentEvent_edge_announced hk hx hp, ?abandons⟩
  intro before after r hx h hcommitted t
  have hphase : phaseOf s k.seq ≠ some .announced := by
    rw [h.phaseOf, hcommitted]
    decide
  have ht : t = _ := (commitmentEvent_edge_abandons hk hx hphase).trans h.abandon
  have hline : t.line = (askRemoval TxBody.isClaim s).line := by rw [ht]
  have hentry (q : Tray) : entryOf t q =
      entryOf (setMarks .none (claimTrays s.cfg.trays k.tray k.span) s) q := by rw [ht]; rfl
  refine ⟨by rw [ht], by rw [ht], by rw [ht], by rw [ht], fun f hf hc => ?_, fun q hq y hy => ?_, by rw [ht],
    by rw [ht], by rw [ht], by rw [ht], by rw [ht]⟩
  · exact claim_of_mem_askRemoval (hline ▸ hf) hc
  · exact mark_of_entryOf_setMarks hq (hentry q ▸ hy)

end Sys2Proof.Machine
end

section
/-! PROOFS. The launch moment (R134, R135, R139): which notices bar a tray, what the launch in flight takes from
its commitment, and the statement that an Announced claim with no barred tray is launched. -/

namespace Sys2Proof.Machine

variable {s : State} {k : Commitment} {x : EdgeTiming} {before after : List Parcel} {r : Parcel}

/-! ## Barred trays (R134) -/

/-- A HOLD for this station alone leaves a governed tray to it. -/
theorem Entry.favours_iff (own : LaneOrdinal) (y : Entry) :
    y.favours own = true ↔
      y.governing = none ∨ ∃ holder standing,
        y.governing = some { notice := .hold holder own, standing := standing } := by
  rcases hg : y.governing with _ | ⟨notice, standing⟩
  · simp [Entry.favours, hg]
  · cases notice <;> simp [Entry.favours, Governing.bars, hg]

theorem trayBarred_iff (s : State) (t : Tray) :
    trayBarred s t = true ↔ ∃ y, entryOf s t = some y ∧ y.favours s.cfg.ordinal = false := by
  cases he : entryOf s t <;> simp [trayBarred, Entry.favours, he]

theorem trayBarred_eq_false_iff (s : State) (t : Tray) :
    trayBarred s t = false ↔ ∀ y, entryOf s t = some y → y.favours s.cfg.ordinal = true := by
  rw [← Bool.not_eq_true, trayBarred_iff]
  simp

/-! ## The launch in flight (R134, R139) -/

theorem tailMark_eq (c : Settings) (span : Span) (length : Nat) :
    tailMark c span length = (span.trays * c.pitch + length - 2 * ((span.trays - 1) * c.pitch) + 1) / 2 :=
  divHalfUp_two _

/-- The launch of the commitment's record (R134): the record is Launching, both belts are taken, and the
commitment has become the launch in flight. -/
theorem FirstRecord.startLaunch (h : FirstRecord s Phase.isClaim k.seq before r after) :
    startLaunch k x s = settleLane
      { s with
        lane := { s.lane with
          queue := before ++ { r with phase := .launching } :: after
          stageHolder := .launchUnit
          launchHolder := .launchUnit }
        launch := { s.launch with commitment := none, flight := some (flightOf s k x) } } := by
  simp only [Machine.startLaunch, h.updateRecord]
  rfl

theorem FirstRecord.flightOf {length : Nat} (h : FirstRecord s Phase.isClaim k.seq before r after)
    (hl : r.length = some length) :
    flightOf s k x =
      let mark := tailMark s.cfg k.span length
      let g := exitTolerance s.cfg
      { seq := k.seq, tray := k.tray, span := k.span, speed := k.speed, whole := k.whole,
        period := k.period, timing := x, startedAt := x.clock,
        opening := exitMoment s.cfg k.period k.whole k.span (mark - g)
        closing := exitMoment s.cfg k.period k.whole k.span (mark + g)
        checked := false, first := none, second := none } := by
  simp [Machine.flightOf, h.recordOf, hl]

/-! ## The launch moment by its cases (R134, R135) -/

theorem execLaunchMoment_due (hk : s.launch.commitment = some k) (hx : k.timing = some x)
    (hd : k.delay ≤ x.clock) (hp : phaseOf s k.seq = some .announced)
    (hb : ∀ t ∈ claimTrays s.cfg.trays k.tray k.span, trayBarred s t = false) :
    execLaunchMoment s =
      if s.lane.queue.any (·.phase == .launching) then .next (reportJam .launch s)
      else .next (startLaunch k x s) := by
  have hany : (claimTrays s.cfg.trays k.tray k.span).any (trayBarred s) = false :=
    List.any_eq_false.mpr fun t ht => by simp [hb t ht]
  simp [execLaunchMoment, hk, hx, Nat.not_lt.mpr hd, hp, hany]

theorem execLaunchMoment_of_no_commitment (hk : s.launch.commitment = none) : execLaunchMoment s = .next s := by
  simp [execLaunchMoment, hk]

theorem execLaunchMoment_not_due (hk : s.launch.commitment = some k)
    (h : phaseOf s k.seq ≠ some .announced ∨
      (∃ t ∈ claimTrays s.cfg.trays k.tray k.span, trayBarred s t = true) ∨
      k.timing = none ∨ ∃ x, k.timing = some x ∧ x.clock < k.delay) : execLaunchMoment s = .next s := by
  cases hx : k.timing with
  | none => simp [execLaunchMoment, hk, hx]
  | some x =>
    by_cases hd : x.clock < k.delay
    · simp [execLaunchMoment, hk, hx, hd]
    rcases h with hp | hb | hnone | ⟨y, hy, hlt⟩
    · simp [execLaunchMoment, hk, hx, hp]
    · have hany := List.any_eq_true.mpr hb
      simp [execLaunchMoment, hk, hx, hany]
    · cases hx.symm.trans hnone
    · obtain rfl := Option.some.inj (hx.symm.trans hy)
      exact absurd hlt hd

/-- A JAM report where lane events are taken enters Faulted (R18, R20, R161). -/
theorem reportJam_taken (z : Zone) (h : takesLaneEvents s = true) :
    reportJam z s = enterFaulted (.jam z)
      { s with report := { s.report with flags := { s.report.flags with jam := true } } } := by
  have htaken : takesLaneEvents (setFlag .jam s) = true := by simpa [takesLaneEvents] using h
  rw [reportJam, reportFault, if_pos htaken]
  rfl

end Sys2Proof.Machine

namespace Sys2Proof.Machine

/-- Settles O32: the launch, the second launch and the moments at which nothing happens, then which notices
bar. -/
theorem launchMomentStartsALaunch : Obligations.LaunchMomentStartsALaunch := by
  unfold Obligations.LaunchMomentStartsALaunch
  refine ⟨?launches, ?jam, ?idle, Entry.favours_iff, trayBarred_iff⟩
  case launches =>
    intro s k x before after r length hk hx hd h hl hannounced hother hfavours pitch mark g moment
    have hbar : ∀ t ∈ claimTrays s.cfg.trays k.tray k.span, trayBarred s t = false :=
      fun t ht => (trayBarred_eq_false_iff s t).mpr (hfavours t ht)
    have hphase : phaseOf s k.seq = some .announced := by rw [h.phaseOf, hannounced]
    have hnone : s.lane.queue.any (·.phase == .launching) = false := by
      rw [List.forall_mem_append] at hother
      simp only [h.queue, List.any_append, List.any_cons, hannounced, Bool.or_eq_false_iff, List.any_eq_false]
      exact ⟨by simpa using hother.1, by decide, by simpa using hother.2⟩
    have hmark : tailMark s.cfg k.span length = mark := tailMark_eq _ _ _
    have hflight := h.flightOf (x := x) hl
    rw [hmark] at hflight
    show execLaunchMoment s = _
    rw [execLaunchMoment_due hk hx hd hphase hbar, hnone, h.startLaunch, hflight]
    rfl
  case jam =>
    intro s k x hk hx hd hphase hbar hlaunching htakes
    have hany : s.lane.queue.any (·.phase == .launching) = true := by simpa using hlaunching
    show execLaunchMoment s = _
    rw [execLaunchMoment_due hk hx hd hphase hbar, if_pos hany, reportJam_taken .launch htakes]
  case idle =>
    rintro s (hnone | ⟨k, hk, h⟩)
    · exact execLaunchMoment_of_no_commitment hnone
    · exact execLaunchMoment_not_due hk h

end Sys2Proof.Machine
end

section
/-! PROOFS. What entry into Faulted leaves of the transmit queue and of a launch in flight (R133, R162): no VACATE
leaves the queue, and the Launching record is Conflict. -/

namespace Sys2Proof.Machine

variable {s : State} {f : Flight} {g : TxFrame} {before after : List Parcel} {r : Parcel}

/-! ## A VACATE stays in the transmit queue (R69 to R71) -/

theorem mem_modifyFirst {α : Type} {p : α → Bool} {a : α} (c : α → α) {l : List α} (ha : a ∈ l)
    (hp : p a = false) : a ∈ modifyFirst p c l := by
  induction l with
  | nil => cases ha
  | cons b l ih =>
    rw [modifyFirst]
    split
    case isTrue hb =>
      have hne : a ≠ b := by
        rintro rfl
        simp [hp] at hb
      exact List.mem_cons_of_mem _ (List.mem_of_ne_of_mem hne ha)
    case isFalse =>
      rcases List.mem_cons.mp ha with rfl | ha
      · exact List.mem_cons_self
      · exact List.mem_cons_of_mem _ (ih ha)

theorem mem_requested {b : TxBody} {q : List TxFrame} (hg : g ∈ q) (hb : g.body ≠ b) : g ∈ requested b q := by
  unfold requested
  split
  · exact mem_modifyFirst _ hg (by simpa using hb)
  · exact List.mem_append_left _ hg

theorem mem_enqueue {b : TxBody} (hg : g ∈ s.line.queue) : g ∈ (enqueue b s).line.queue :=
  List.mem_append_left _ hg

theorem fresh_mem_enqueue (b : TxBody) (s : State) : .fresh b ∈ (enqueue b s).line.queue :=
  List.mem_append_right _ List.mem_cons_self

theorem TxBody.isHold_of_isVacate {b : TxBody} (h : b.isVacate = true) : b.isHold = false := by
  cases b <;> trivial

theorem TxBody.isClaim_of_isVacate {b : TxBody} (h : b.isVacate = true) : b.isClaim = false := by
  cases b <;> trivial

/-- A VACATE that is offered displaces at most a HOLD (R69). -/
theorem mem_offerVacate (t : Tray) (span : Span) (hg : g ∈ s.line.queue) (hv : g.body.isVacate = true) :
    g ∈ (offerVacate t span s).line.queue := by
  rw [offerVacate]
  split
  · exact mem_enqueue hg
  · split
    · refine mem_enqueue ?_
      show g ∈ s.line.queue.eraseP _
      rwa [List.mem_eraseP_of_neg (by simp [TxBody.isHold_of_isVacate hv])]
    · exact hg

/-- A VACATE offered to a queue with room joins it (R68, R69). -/
theorem fresh_mem_offerVacate (t : Tray) (span : Span) (h : s.line.queue.countP (·.body.isHoldOrVacate) < 5) :
    .fresh (.vacate t span 8) ∈ (offerVacate t span s).line.queue := by
  have hroom : holdAdmitted s = true := decide_eq_true h
  rw [offerVacate, if_pos hroom]
  exact fresh_mem_enqueue _ _

theorem mem_dropCommitment (hg : g ∈ s.line.queue) (hv : g.body.isVacate = true) :
    g ∈ (dropCommitment s).line.queue := by
  rw [dropCommitment]
  split
  · exact hg
  · split
    · exact mem_offerVacate _ _ (by simpa using hg) hv
    · simpa using (mem_askRemoval TxBody.isClaim s g).mpr (.inl ⟨hg, TxBody.isClaim_of_isVacate hv⟩)

theorem enterFaulted_line (cause : FaultCause) (s : State) :
    (enterFaulted cause s).line.queue = requested .stat (dropCommitment s).line.queue := by
  simp [enterFaulted, offerStat_eq, active]

theorem mem_enterFaulted (cause : FaultCause) (hg : g ∈ s.line.queue) (hv : g.body.isVacate = true) :
    g ∈ (enterFaulted cause s).line.queue := by
  rw [enterFaulted_line]
  refine mem_requested (mem_dropCommitment hg hv) ?_
  intro hstat
  rw [hstat] at hv
  cases hv

/-! ## Entry into Faulted with a launch in flight (R162) -/

theorem enterFaulted_station_eq (cause : FaultCause) (s : State) :
    (enterFaulted cause s).station = { s.station with mode := .faulted, cause := cause } := by
  simp [enterFaulted]

theorem conflictFlight_flight (s : State) : (conflictFlight s).launch.flight = none := by
  rw [conflictFlight]
  split
  · assumption
  · rfl

theorem enterFaulted_flight (cause : FaultCause) (s : State) : (enterFaulted cause s).launch.flight = none := by
  simp [enterFaulted, conflictFlight_flight]

theorem FirstRecord.enterFaulted_queue (h : FirstRecord s Phase.isLaunching f.seq before r after)
    (cause : FaultCause) (hk : s.launch.commitment = none) (hf : s.launch.flight = some f) :
    (enterFaulted cause s).lane.queue = before ++ { r with phase := .conflict } :: after := by
  simp [enterFaulted, dropCommitment_of_no_commitment hk, h.conflictFlight hf, stopStall, takeBelts]

end Sys2Proof.Machine
end

section
/-! PROOFS. The merge confirmation (R141, R142): what a tray edge event reads for the launch in flight, what the
readings decide, what a verdict does, and the statement that joins them. -/

namespace Sys2Proof.Machine

variable {s : State} {f : Flight} {n : SeqNo} {reading : Option Bool} {before after : List Parcel} {r : Parcel}

/-! ## What the readings decide (R141) -/

theorem verdictOf_unread (h1 : f.first = none) (h2 : f.second = none) : verdictOf f = .undecided := by
  cases hs : f.span <;> simp [verdictOf, hs, h1, h2]

theorem verdictOf_one_loaded (hs : f.span = .one) (h1 : f.first = some true) : verdictOf f = .confirmed := by
  simp [verdictOf, hs, h1]

/-- With a span of two, a Loaded first reading leaves the verdict to the second. -/
theorem verdictOf_two_waiting (hs : f.span = .two) (h1 : f.first = some true) (h2 : f.second = none) :
    verdictOf f = .undecided := by
  simp [verdictOf, hs, h1, h2]

theorem verdictOf_two_loaded (hs : f.span = .two) (h1 : f.first = some true) (h2 : f.second = some true) :
    verdictOf f = .confirmed := by
  simp [verdictOf, hs, h1, h2]

/-- An Empty first reading decides for either span. -/
theorem verdictOf_first_empty (h1 : f.first = some false) : verdictOf f = .lost := by
  cases hs : f.span <;> simp [verdictOf, hs, h1]

theorem verdictOf_second_empty (hs : f.span = .two) (h2 : f.second = some false) : verdictOf f = .lost := by
  simp [verdictOf, hs, h2]

/-! ## The reading of a tray edge event (R141) -/

theorem Flight.read_first (h : verdictOf f = .undecided) (hn : f.timing.edges.length = f.whole + 3) :
    f.read reading = { f with first := reading } := by
  simp [Flight.read, h, hn]

theorem Flight.read_second (h : verdictOf f = .undecided) (hs : f.span = .two)
    (hn : f.timing.edges.length = f.whole + 4) : f.read reading = { f with second := reading } := by
  simp [Flight.read, h, hs, hn]

theorem Flight.read_one_other (h : verdictOf f = .undecided) (hs : f.span = .one)
    (hn : f.timing.edges.length ≠ f.whole + 3) : f.read reading = f := by
  simp [Flight.read, h, hs, hn]

/-- The launch in flight with one more tray edge event since its launch edge (R139). -/
def Flight.event (f : Flight) : Flight := { f with timing := f.timing.event }

theorem Flight.event_edges_length (f : Flight) : f.event.timing.edges.length = f.timing.edges.length + 1 := by
  simp [Flight.event, EdgeTiming.event]

/-- The state with another launch in flight. -/
def State.withFlight (s : State) (f : Flight) : State := s.withLaunch { s.launch with flight := some f }

@[simp] theorem State.withFlight_flight (s : State) (f : Flight) :
    (s.withFlight f).launch.flight = some f := rfl

theorem FirstRecord.withFlight (h : FirstRecord s Phase.isLaunching n before r after) (f : Flight) :
    FirstRecord (s.withFlight f) Phase.isLaunching n before r after :=
  ⟨h.queue, h.phase, h.seq, h.first⟩

theorem inProgress_iff (s : State) : inProgress s = true ↔ s.lane.launchHolder = .launchUnit := by
  simp [inProgress]

theorem flightEvent_eq (hf : s.launch.flight = some f) :
    flightEvent reading s =
      if inProgress s then s.withFlight (f.event.read reading)
      else takeVerdict (s.withFlight (f.event.read reading)) := by
  simp only [flightEvent, hf]
  rfl

theorem flightEvent_in_progress (hf : s.launch.flight = some f) (hh : s.lane.launchHolder = .launchUnit) :
    flightEvent reading s = s.withFlight (f.event.read reading) := by
  rw [flightEvent_eq hf, if_pos ((inProgress_iff s).mpr hh)]

theorem flightEvent_cleared (hf : s.launch.flight = some f) (hh : s.lane.launchHolder = .sequencer) :
    flightEvent reading s = takeVerdict (s.withFlight (f.event.read reading)) := by
  rw [flightEvent_eq hf, if_neg (by simp [inProgress_iff, hh])]

/-! ## The verdict (R141, R142) -/

theorem takeVerdict_undecided (hf : s.launch.flight = some f) (hv : verdictOf f = .undecided) :
    takeVerdict s = s := by
  simp [takeVerdict, hf, hv]

theorem FirstRecord.takeVerdict_confirmed (h : FirstRecord s Phase.isLaunching n before r after)
    (hf : s.launch.flight = some f) (hn : f.seq = n) (hv : verdictOf f = .confirmed) :
    takeVerdict s =
      { s with
        lane := { s.lane with queue := before ++ after }
        launch := { s.launch with flight := none }
        report := { s.report with counters := s.report.counters.raise .inductions } } := by
  simp only [takeVerdict, hf, hn, hv, h.deleteRecord]
  rfl

theorem takeVerdict_lost_eq (hf : s.launch.flight = some f) (hv : verdictOf f = .lost)
    (ht : takesLaneEvents s = true) :
    takeVerdict s = enterFaulted .lostParcel (setFlag .lostParcel (offerVacate f.tray f.span s)) := by
  have htaken : takesLaneEvents (setFlag .lostParcel (offerVacate f.tray f.span s)) = true := by
    simpa [takesLaneEvents] using ht
  simp only [takeVerdict, hf, hv, reportFault, if_pos htaken]

/-- A lost parcel (R142): the report and the fault, the Conflict record and the VACATE of its trays. -/
theorem FirstRecord.takeVerdict_lost (h : FirstRecord s Phase.isLaunching n before r after)
    (hf : s.launch.flight = some f) (hn : f.seq = n) (hv : verdictOf f = .lost) (ht : takesLaneEvents s = true) :
    (takeVerdict s).station = { s.station with mode := .faulted, cause := .lostParcel } ∧
    (takeVerdict s).report = { s.report with flags := { s.report.flags with lostParcel := true } } ∧
    (takeVerdict s).launch.flight = none ∧
    (s.launch.commitment = none →
      (takeVerdict s).lane.queue = before ++ { r with phase := .conflict } :: after) ∧
    (s.line.queue.countP (·.body.isHoldOrVacate) < 5 →
      .fresh (.vacate f.tray f.span 8) ∈ (takeVerdict s).line.queue) := by
  subst hn
  have hrecord : FirstRecord (setFlag .lostParcel (offerVacate f.tray f.span s)) Phase.isLaunching f.seq
      before r after := ⟨by simpa using h.queue, h.phase, h.seq, h.first⟩
  rw [takeVerdict_lost_eq hf hv ht]
  refine ⟨?station, ?report, enterFaulted_flight _ _, fun hk => ?queue, fun hroom => ?vacate⟩
  case station => simp [enterFaulted_station_eq]
  case report => simp [setFlag, EventFlags.put]
  case queue => exact hrecord.enterFaulted_queue _ (by simpa using hk) (by simpa using hf)
  case vacate => exact mem_enterFaulted _ (by simpa using fresh_mem_offerVacate f.tray f.span hroom) rfl

/-! ## The deferred verdict (R137, R141) -/

/-- A record once a launch's tail has left the stage zone (R17). -/
def Parcel.afterStage (q : Parcel) : Parcel := if q.phase = .launching then { q with zone := .launch } else q

/-- The state when the exit eye has cleared at the end of a launch whose exit check was taken (R17, R137). -/
def State.exitCleared (s : State) : State :=
  s.withLane { s.lane with
    exitEye := false
    stageHolder := .sequencer
    launchHolder := .sequencer
    queue := s.lane.queue.map Parcel.afterStage }

@[simp] theorem Parcel.afterStage_phase (q : Parcel) : q.afterStage.phase = q.phase := by
  unfold Parcel.afterStage
  split <;> rfl

@[simp] theorem Parcel.afterStage_seq (q : Parcel) : q.afterStage.seq = q.seq := by
  unfold Parcel.afterStage
  split <;> rfl

@[simp] theorem State.exitCleared_station (s : State) : s.exitCleared.station = s.station := rfl

theorem FirstRecord.exitCleared (h : FirstRecord s Phase.isLaunching n before r after) :
    FirstRecord s.exitCleared Phase.isLaunching n (before.map Parcel.afterStage) r.afterStage
      (after.map Parcel.afterStage) where
  queue := by simp [State.exitCleared, h.queue]
  phase := by simpa using h.phase
  seq := by simpa using h.seq
  first := by simpa using h.first

theorem execExitEyeClearing_checked (hf : s.launch.flight = some f) (he : s.lane.exitEye = true)
    (hh : s.lane.launchHolder = .launchUnit) (hc : f.checked = true) (ht : takesLaneEvents s = true) :
    execExitEyeClearing s = .next (settleLane (takeVerdict s.exitCleared)) := by
  have htaken : (takesLaneEvents (s.withLane { s.lane with exitEye := false }) &&
      inProgress (s.withLane { s.lane with exitEye := false })) = true := by
    simpa [takesLaneEvents, inProgress, hh] using ht
  have hcheck : exitCheck (s.withLane { s.lane with exitEye := false }) =
      s.withLane { s.lane with exitEye := false } := by
    simp [exitCheck, hf, hc]
  have hback : giveBackLaunch (s.withLane { s.lane with exitEye := false }) = s.exitCleared := by
    simp [giveBackLaunch, leaveStage, State.exitCleared, withQueue, State.withLane, Parcel.afterStage]
  rw [execExitEyeClearing, if_pos he, if_pos htaken, hcheck, hback]

end Sys2Proof.Machine

namespace Sys2Proof.Machine

/-- Settles O33: each reading by the verdict that it brings about, and the deferred verdict at the clearing of the
exit eye. -/
theorem confirmReadingsDecide : Obligations.ConfirmReadingsDecide := by
  unfold Obligations.ConfirmReadingsDecide
  intro s f before after r hf h ht timing confirmed lost
  have hunread (h1 : f.first = none) (h2 : f.second = none) : verdictOf f.event = .undecided :=
    verdictOf_unread h1 h2
  have hedges := f.event_edges_length
  refine ⟨?first, ?second, ?deferred, ?other, ?clearing⟩
  case first =>
    intro hh h1 h2 hn
    have hevent (b : Bool) :
        flightEvent (some b) s = takeVerdict (s.withFlight { f.event with first := some b }) := by
      rw [flightEvent_cleared hf hh, Flight.read_first (hunread h1 h2) (hedges.trans hn)]
    refine ⟨fun hs => ?_, fun hs => ?_, ?_⟩
    · rw [hevent]
      exact (h.withFlight _).takeVerdict_confirmed (s.withFlight_flight _) rfl (verdictOf_one_loaded hs rfl)
    · rw [hevent]
      exact takeVerdict_undecided (s.withFlight_flight _) (verdictOf_two_waiting hs rfl h2)
    · rw [hevent]
      exact (h.withFlight _).takeVerdict_lost (f := { f.event with first := some false }) rfl rfl
        (verdictOf_first_empty rfl) ht
  case second =>
    intro hh hs h1 h2 hn
    have hwaits : verdictOf f.event = .undecided := verdictOf_two_waiting hs h1 h2
    have hevent (b : Bool) :
        flightEvent (some b) s = takeVerdict (s.withFlight { f.event with second := some b }) := by
      rw [flightEvent_cleared hf hh, Flight.read_second hwaits hs (hedges.trans hn)]
    rw [hevent, hevent]
    exact ⟨(h.withFlight _).takeVerdict_confirmed (s.withFlight_flight _) rfl (verdictOf_two_loaded hs h1 rfl),
      (h.withFlight _).takeVerdict_lost (f := { f.event with second := some false }) rfl rfl
        (verdictOf_second_empty hs rfl) ht⟩
  case deferred =>
    intro hh h1 h2 hn b
    rw [flightEvent_in_progress hf hh, Flight.read_first (hunread h1 h2) (hedges.trans hn)]
    rfl
  case other =>
    intro hs hn h1 h2 b
    have hread : f.event.read (some b) = f.event :=
      Flight.read_one_other (hunread h1 h2) hs (by rw [hedges]; exact hn)
    cases hh : s.lane.launchHolder with
    | launchUnit =>
      rw [flightEvent_in_progress hf hh, hread]
      rfl
    | sequencer =>
      rw [flightEvent_cleared hf hh, hread]
      exact takeVerdict_undecided (s.withFlight_flight _) (hunread h1 h2)
  case clearing =>
    intro he hh hc hs
    have hexec : exec .exitEyeClearing s = .next (settleLane (takeVerdict s.exitCleared)) :=
      execExitEyeClearing_checked hf he hh hc ht
    rw [hexec]
    refine ⟨fun h1 => ?_, fun h1 => ⟨_, rfl, ?_⟩⟩
    · rw [h.exitCleared.takeVerdict_confirmed hf rfl (verdictOf_one_loaded hs h1), ← List.map_append]
      rfl
    · obtain ⟨hstation, hreport, hflight, -, -⟩ :=
        h.exitCleared.takeVerdict_lost hf rfl (verdictOf_first_empty h1) ht
      exact ⟨by simpa using hstation, by simp [hreport], by simpa using hflight⟩

end Sys2Proof.Machine
end

section
/-! PROOFS. The pace interval (R144, R145): the raw interval, the order of the clamps, the bounds that every
configuration in range gives it, and the statement that joins them. -/

namespace Sys2Proof.Machine

variable {c : Settings} {raw : Option Nat} {limit : Nat}

/-! ## The raw interval (R144) -/

theorem rawInterval_of_free {share free : Nat} (p : Ticks) (h : share * free ≠ 0) :
    rawInterval (some p) share free = some (divHalfUp (p * 128) (share * free * Config.ticksPerMs)) := by
  simp only [rawInterval, beq_iff_eq, if_neg h]

theorem rawInterval_eq_none {p : Option Ticks} {share free : Nat} (h : p = none ∨ share * free = 0) :
    rawInterval p share free = none := by
  cases p with
  | none => rfl
  | some p =>
    have hzero : share * free = 0 := h.resolve_left (Option.some_ne_none p)
    simp only [rawInterval, hzero, beq_self_eq_true, if_true]

/-! ## Raised to I_min, then lowered to I_max (R145) -/

theorem effectiveInterval_no_limit (c : Settings) (raw : Option Nat) :
    effectiveInterval c raw 0 = min c.intervalMax (max c.intervalMin (raw.getD c.intervalMax)) := rfl

theorem effectiveInterval_no_raw (c : Settings) : effectiveInterval c none 0 = c.intervalMax :=
  (effectiveInterval_no_limit c none).trans (Nat.min_eq_left (Nat.le_max_right _ _))

/-- Where the bounds are out of order I_max prevails, for the lowering comes last. -/
theorem effectiveInterval_crossed (raw : Option Nat) (h : c.intervalMax < c.intervalMin) :
    effectiveInterval c raw 0 = c.intervalMax :=
  (effectiveInterval_no_limit c raw).trans (Nat.min_eq_left (Nat.le_trans (Nat.le_of_lt h) (Nat.le_max_left _ _)))

theorem effectiveInterval_clamps (x : Nat) (h : c.intervalMin ≤ c.intervalMax) :
    (x < c.intervalMin → effectiveInterval c (some x) 0 = c.intervalMin) ∧
    (c.intervalMin ≤ x → x ≤ c.intervalMax → effectiveInterval c (some x) 0 = x) ∧
    (c.intervalMax < x → effectiveInterval c (some x) 0 = c.intervalMax) := by
  rw [effectiveInterval_no_limit, Option.getD_some]
  omega

/-! ## The pace limit (R145) -/

theorem effectiveInterval_limited (c : Settings) (raw : Option Nat) (h : limit ≠ 0) :
    effectiveInterval c raw limit = max (effectiveInterval c raw 0) (divUp 60000 limit) := by
  simp only [effectiveInterval, beq_iff_eq, if_neg h, if_true]

theorem divUp_le_self (a : Nat) {b : Nat} (h : b ≠ 0) : divUp a b ≤ a := by
  have hle : a ≤ a * b := Nat.le_mul_of_pos_right a (Nat.pos_of_ne_zero h)
  rw [divUp, ← Nat.lt_add_one_iff, Nat.div_lt_iff_lt_mul (Nat.pos_of_ne_zero h), Nat.add_one_mul a b]
  omega

theorem effectiveInterval_no_limit_mem (raw : Option Nat) (h : SettingsInRange c) :
    500 ≤ effectiveInterval c raw 0 ∧ effectiveInterval c raw 0 ≤ 30000 := by
  obtain ⟨hmin, -⟩ := h.intervalMin
  obtain ⟨hmax, hmax'⟩ := h.intervalMax
  rw [effectiveInterval_no_limit]
  omega

/-- A limit raises I to no more than the 60000 ms of one parcel a minute. -/
theorem effectiveInterval_mem (raw : Option Nat) (limit : Nat) (h : SettingsInRange c) :
    500 ≤ effectiveInterval c raw limit ∧ effectiveInterval c raw limit ≤ 60000 := by
  obtain ⟨hlow, hhigh⟩ := effectiveInterval_no_limit_mem raw h
  by_cases hl : limit = 0
  · rw [hl]
    exact ⟨hlow, Nat.le_trans hhigh (by decide)⟩
  · have hdiv : divUp 60000 limit ≤ 60000 := divUp_le_self 60000 hl
    rw [effectiveInterval_limited c raw hl]
    omega

end Sys2Proof.Machine

namespace Sys2Proof.Machine

/-- Settles O25: the clamps in their order, and the bounds of R173 carried through them and the limit. -/
theorem paceIntervalIsBounded : Obligations.PaceIntervalIsBounded := by
  unfold Obligations.PaceIntervalIsBounded
  exact ⟨fun p _ _ h => rawInterval_of_free p h, fun _ _ _ h => rawInterval_eq_none h,
    effectiveInterval_no_raw, fun _ x h => effectiveInterval_clamps x h,
    fun _ raw h => effectiveInterval_crossed raw h, fun c raw _ h => effectiveInterval_limited c raw h,
    fun _ raw limit h _ => effectiveInterval_mem raw limit h⟩

end Sys2Proof.Machine
end

section
/-! PROOFS. The buttons START and STOP (R151, R158 to R160): what a press is, the change of the station state, the
Committed record that STOP returns, the belts that stand outside Running and Holding, and the statement that joins
them. -/

namespace Sys2Proof.Machine

variable {s : State} {q : Quiet} {k : Commitment} {before after : List Parcel} {r : Parcel}

/-! ## Presses (R151) -/

theorem pressTaken_ticks (n : Nat) (s : State) : pressTaken (.ticks n) s = (active s && decide (200 ≤ n)) := rfl

theorem pressTaken_of_active (ha : active s = true) (hq : q = .sinceLoading ∨ ∃ n, q = .ticks n ∧ 200 ≤ n) :
    pressTaken q s = true := by
  rcases hq with rfl | ⟨n, rfl, hn⟩
  · simp [pressTaken, ha]
  · simp [pressTaken_ticks, ha, hn]

theorem pressTaken_of_bounce {n : Nat} (s : State) (h : n < 200) : pressTaken (.ticks n) s = false := by
  simp [pressTaken_ticks, h]

theorem execStart_no_press (h : pressTaken q s = false) : execStart q s = .next s := by
  simp [execStart, h]

theorem execStop_no_press (h : pressTaken q s = false) : execStop q s = .next s := by
  simp [execStop, h]

theorem execClear_no_press (eyes : LaneEyes) (h : pressTaken q s = false) : execClear q eyes s = .next s := by
  simp [execClear, h]

/-! ## The change of the station state (R158, R159, R179) -/

/-- The station state changed, with a STAT joined or renewed in the transmit queue. -/
def State.movedTo (s : State) (m : Mode) : State :=
  { s with station := { s.station with mode := m }, line := (request .stat s).line }

@[simp] theorem State.movedTo_station (s : State) (m : Mode) :
    (s.movedTo m).station = { s.station with mode := m } := rfl
@[simp] theorem State.movedTo_launch (s : State) (m : Mode) : (s.movedTo m).launch = s.launch := rfl
@[simp] theorem State.movedTo_share (s : State) (m : Mode) : (s.movedTo m).share = s.share := rfl
@[simp] theorem State.movedTo_report (s : State) (m : Mode) : (s.movedTo m).report = s.report := rfl

/-- In a state in which the line interface runs, a STAT is offered with the change. -/
theorem setMode_eq_movedTo {m : Mode} (s : State)
    (h : active (s.withStation { s.station with mode := m }) = true) : setMode m s = s.movedTo m := by
  simp only [setMode, offerStat, h, if_true, request_eq, State.movedTo]
  rfl

theorem HoldSet.isEmpty_iff_eq (h : HoldSet) : h.isEmpty = true ↔ h = ⟨false, false, false, false⟩ := by
  obtain ⟨bank, tracking, line, horizon⟩ := h
  simp [HoldSet.isEmpty, and_assoc]

theorem execStart_idle_free (hp : pressTaken q s = true) (hm : s.station.mode = .idle)
    (hh : s.station.holds = ⟨false, false, false, false⟩) :
    execStart q s = .next (settleLane (s.movedTo .running)) := by
  simp [execStart, hp, hm, s.station.holds.isEmpty_iff_eq.mpr hh, setMode_eq_movedTo s (m := .running) rfl]

theorem execStart_idle_held (hp : pressTaken q s = true) (hm : s.station.mode = .idle)
    (hh : s.station.holds ≠ ⟨false, false, false, false⟩) :
    execStart q s = .next (settleLane (s.movedTo .holding)) := by
  simp [execStart, hp, hm, mt s.station.holds.isEmpty_iff_eq.mp hh, setMode_eq_movedTo s (m := .holding) rfl]

theorem execStart_elsewhere (hm : s.station.mode ≠ .idle) : execStart q s = .next s := by
  simp [execStart, hm]

theorem execStop_holding (hp : pressTaken q s = true) (hm : s.station.mode = .holding) :
    execStop q s = .next (settleLane (s.movedTo .idle)) := by
  simp [execStop, hp, hm, setMode_eq_movedTo s (m := .idle) rfl]

theorem execStop_running (hp : pressTaken q s = true) (hm : s.station.mode = .running) :
    execStop q s = .next (settleLane (leaveRunning (s.movedTo .idle))) := by
  simp [execStop, hp, hm, setMode_eq_movedTo s (m := .idle) rfl]

theorem execStop_elsewhere (hr : s.station.mode ≠ .running) (hh : s.station.mode ≠ .holding) :
    execStop q s = .next s := by
  simp [execStop, hr, hh]

/-! ## The commitment when the station leaves Running (R133, R160) -/

theorem leaveRunning_kept
    (h : s.launch.commitment = none ∨
      ∃ k, s.launch.commitment = some k ∧ phaseOf s k.seq = some .announced) : leaveRunning s = s := by
  rcases h with hk | ⟨k, hk, hp⟩
  · exact leaveRunning_of_no_commitment hk
  · exact leaveRunning_of_announced hk hp

/-- A Committed record goes back to Staged and its CLAIM out of the queue, and A keeps its value. -/
theorem FirstRecord.leaveRunning_committed (h : FirstRecord s Phase.isClaim k.seq before r after)
    (hk : s.launch.commitment = some k) (hp : r.phase = .committed) :
    leaveRunning s =
      { s with
        lane := { s.lane with queue := before ++ { r with phase := .staged, placement := none } :: after }
        launch := { s.launch with commitment := none }
        line := (askRemoval TxBody.isClaim s).line } := by
  have hphase : Machine.phaseOf s k.seq = some .committed := by rw [h.phaseOf, hp]
  have hrecord : FirstRecord (askRemoval TxBody.isClaim s) Phase.isClaim k.seq before r after :=
    ⟨h.queue, h.phase, h.seq, h.first⟩
  simp only [leaveRunning, hk, hphase, beq_self_eq_true, if_true, hrecord.discardCommitment]
  rfl

/-! ## The belts outside Running and Holding (R3 to R6) -/

theorem placeBelt_of_not_drawing (h : drawing s = false) : placeBelt s = 0 := by
  simp [placeBelt, placeDraws, h]

theorem measureBelt_of_not_drawing (h : drawing s = false) : measureBelt s = 0 := by
  simp [measureBelt, measureDraws, h]

theorem stageBelt_of_not_drawing (h : drawing s = false) (hs : s.lane.stageHolder = .sequencer) :
    stageBelt s = 0 := by
  simp [stageBelt, stageDraws, h, hs]

theorem launchBelt_of_sequencer (hs : s.lane.launchHolder = .sequencer) : launchBelt s = 0 := by
  simp [launchBelt, hs]

theorem drawing_of_idle (h : s.station.mode = .idle) : drawing s = false := by
  simp [drawing, h]

/-- Nothing is accepted into the stage zone while the lane does not draw (R5). -/
theorem accepts_of_not_drawing (h : drawing s = false) : accepts s = false := by
  simp [accepts, h]

/-- STOP leaves Idle from Running and from Holding. -/
theorem execStop_idles {t : State} (hp : pressTaken q s = true)
    (hm : s.station.mode = .running ∨ s.station.mode = .holding) (ht : execStop q s = .next t) :
    t.station.mode = .idle := by
  rcases hm with hm | hm
  · rw [execStop_running hp hm] at ht
    cases ht
    simp
  · rw [execStop_holding hp hm] at ht
    cases ht
    simp

theorem FirstRecord.execStop_committed (h : FirstRecord s Phase.isClaim k.seq before r after)
    (hp : pressTaken q s = true) (hm : s.station.mode = .running) (hk : s.launch.commitment = some k)
    (hc : r.phase = .committed) :
    ∃ t, execStop q s = .next t ∧ t.station = { s.station with mode := .idle } ∧
      t.lane.queue = before ++ { r with phase := .staged, placement := none } :: after ∧
      t.launch = { s.launch with commitment := none } ∧ t.share = s.share ∧ t.report = s.report ∧
      ∀ f ∈ t.line.queue, f.body.isClaim = true → f.inPassage = true ∧ f.removalAsked = true := by
  have hmoved : FirstRecord (s.movedTo .idle) Phase.isClaim k.seq before r after :=
    ⟨h.queue, h.phase, h.seq, h.first⟩
  have hleft := hmoved.leaveRunning_committed hk hc
  have hstill : accepts (leaveRunning (s.movedTo .idle)) = false :=
    accepts_of_not_drawing (drawing_of_idle (by simp))
  refine ⟨_, execStop_running hp hm, by simp, ?queue, by simp [hleft], by simp,
    by simp, fun f hf hclaim => ?claims⟩
  case queue => rw [settleLane_queue_of_not_accepts _ hstill, hleft]
  case claims =>
    have hline : (settleLane (leaveRunning (s.movedTo .idle))).line =
        (askRemoval TxBody.isClaim (s.movedTo .idle)).line := by simp [hleft]
    exact claim_of_mem_askRemoval (hline ▸ hf) hclaim

end Sys2Proof.Machine

namespace Sys2Proof.Machine

/-- Settles O50: START and STOP by the mode, STOP in Running by the commitment, and a bounce for each button. -/
theorem startAndStopMoveTheStation : Obligations.StartAndStopMoveTheStation := by
  unfold Obligations.StartAndStopMoveTheStation
  refine ⟨fun s q hq => ?pressed, fun s n eyes hn => ?bounced⟩
  case bounced =>
    have hp : pressTaken (.ticks n) s = false := pressTaken_of_bounce s hn
    exact ⟨execStart_no_press hp, execStop_no_press hp, execClear_no_press eyes hp⟩
  case pressed =>
    intro moved
    have taken {m : Mode} (hm : s.station.mode = m) (ha : active { s with station.mode := m } = true) :
        pressTaken q s = true := by
      subst hm
      exact pressTaken_of_active ha hq
    refine ⟨fun hm hh => execStart_idle_free (taken hm rfl) hm hh,
      fun hm hh => execStart_idle_held (taken hm rfl) hm hh,
      fun hm => execStop_holding (taken hm rfl) hm, fun hm hk => ?kept,
      fun k before after r hm hk h hc => h.execStop_committed (taken hm rfl) hm hk hc, fun t hm ht => ?belts,
      fun hm => execStart_elsewhere hm, fun hr hh => execStop_elsewhere hr hh⟩
    case kept =>
      have hleft : leaveRunning (s.movedTo .idle) = s.movedTo .idle := leaveRunning_kept hk
      exact (execStop_running (taken hm rfl) hm).trans (by rw [hleft]; rfl)
    case belts =>
      have hp : pressTaken q s = true := hm.elim (fun hm => taken hm rfl) (fun hm => taken hm rfl)
      have hstill : drawing t = false := drawing_of_idle (execStop_idles hp hm ht)
      exact ⟨placeBelt_of_not_drawing hstill, measureBelt_of_not_drawing hstill,
        stageBelt_of_not_drawing hstill, launchBelt_of_sequencer⟩

end Sys2Proof.Machine
end

section
/-! PROOFS. The timers of the console, the cue lamps and the alert outputs (R147, R148, R150, R181): when each
timer event is due, which lamp is selected, which flags an output follows, and the statement that joins them. -/

namespace Sys2Proof.Machine

variable {s : State} {b : Blink}

/-! ## The pace timer and the blink (R147, R150) -/

theorem drawing_iff (s : State) :
    drawing s = true ↔ s.station.mode = .running ∨ s.station.mode = .holding := by
  cases hm : s.station.mode <;> simp [drawing, hm]

theorem execPaceTimerRunsOut_due (ht : s.pace.timer = some 0)
    (hm : s.station.mode = .running ∨ s.station.mode = .holding) :
    execPaceTimerRunsOut s = .next { s with pace := { s.pace with timer := none } } := by
  simp [execPaceTimerRunsOut, (drawing_iff s).mpr hm, ht, State.withPace]

theorem execPaceTimerRunsOut_not_due
    (h : s.pace.timer ≠ some 0 ∨ (s.station.mode ≠ .running ∧ s.station.mode ≠ .holding)) :
    execPaceTimerRunsOut s = .next s := by
  have hnot : ¬ (drawing s && s.pace.timer == some 0) = true := by
    rw [Bool.and_eq_true, drawing_iff, beq_iff_eq]
    rintro ⟨hm, ht⟩
    obtain ⟨hr, hh⟩ := h.resolve_left (not_not_intro ht)
    exact hm.elim hr hh
  rw [execPaceTimerRunsOut, if_neg hnot]

/-- A phase that ends turns the lamp over; one that has time left is not due. -/
theorem execFaultBlinkPhase_blinking (hb : s.pace.blink = some b) :
    execFaultBlinkPhase s = .next (if b.phaseLeft = 0 then
      { s with pace := { s.pace with blink := some { b with phaseLeft := 2500, lit := !b.lit } } } else s) := by
  simp only [execFaultBlinkPhase, hb, beq_iff_eq]
  split <;> rfl

theorem execFaultBlinkEnd_blinking (hb : s.pace.blink = some b) :
    execFaultBlinkEnd s = .next (if b.left = 0 then { s with pace := { s.pace with blink := none } } else s) := by
  simp only [execFaultBlinkEnd, hb, beq_iff_eq]
  split <;> rfl

theorem execFaultBlinkPhase_steady (hb : s.pace.blink = none) : execFaultBlinkPhase s = .next s := by
  simp [execFaultBlinkPhase, hb]

theorem execFaultBlinkEnd_steady (hb : s.pace.blink = none) : execFaultBlinkEnd s = .next s := by
  simp [execFaultBlinkEnd, hb]

/-! ## The selected lamp (R148) -/

theorem rejectedAtStage_iff (s : State) :
    rejectedAtStage s = true ↔ ∃ r ∈ s.lane.queue, r.phase = .rejected ∧ r.zone = .stage ∧ r.atStage = true := by
  simp [rejectedAtStage, and_assoc]

theorem queueRoom_iff (s : State) : queueRoom s = true ↔ s.lane.queue.length < 4 := decide_eq_true_iff

theorem placeWanted_iff (s : State) :
    placeWanted s = true ↔ s.station.mode = .running ∧ s.lane.placeCount = 0 ∧ s.lane.queue.length < 4 ∧
      s.pace.timer = none := by
  simp [placeWanted, queueRoom_iff, and_assoc]

/-- The first condition of R148's order. -/
def faultShown (s : State) : Prop := s.station.mode = .faulted ∨ s.station.mode = .unconfigured

theorem selectedLamp_of_faultShown (h : faultShown s) : selectedLamp s = .fault := by
  rcases h with h | h <;> simp [selectedLamp, h]

theorem selectedLamp_of_rejected (h : ¬ faultShown s) (hr : rejectedAtStage s = true) :
    selectedLamp s = .remove := by
  simp only [faultShown] at h
  simp [selectedLamp, h, hr]

theorem selectedLamp_of_placeWanted (h : ¬ faultShown s) (hr : rejectedAtStage s = false)
    (hp : placeWanted s = true) : selectedLamp s = .place := by
  simp only [faultShown] at h
  simp [selectedLamp, h, hr, hp]

theorem selectedLamp_of_none (h : ¬ faultShown s) (hr : rejectedAtStage s = false)
    (hp : placeWanted s = false) : selectedLamp s = .wait := by
  simp only [faultShown] at h
  simp [selectedLamp, h, hr, hp]

theorem not_faultShown_of_placeWanted (hp : placeWanted s = true) : ¬ faultShown s := by
  obtain ⟨hm, -⟩ := (placeWanted_iff s).mp hp
  simp [faultShown, hm]

/-- Each lamp but WAIT is selected exactly when its own condition is the first that holds. -/
theorem selectedLamp_iff (s : State) :
    (selectedLamp s = .fault ↔ faultShown s) ∧
    (selectedLamp s = .remove ↔ ¬ faultShown s ∧ rejectedAtStage s = true) ∧
    (selectedLamp s = .place ↔ placeWanted s = true ∧ ¬ rejectedAtStage s = true) := by
  by_cases hf : faultShown s
  · have hp : ¬ placeWanted s = true := fun hp => not_faultShown_of_placeWanted hp hf
    simp [selectedLamp_of_faultShown hf, hf, hp]
  · cases hr : rejectedAtStage s with
    | true => simp [selectedLamp_of_rejected hf hr, hf]
    | false => cases hp : placeWanted s with
      | true => simp [selectedLamp_of_placeWanted hf hr hp, hf]
      | false => simp [selectedLamp_of_none hf hr hp, hf]

theorem lampOutput_iff (s : State) (l : Lamp) :
    lampOutput s l = true ↔ selectedLamp s = l ∧
      (l = .fault → ∀ b, s.pace.blink = some b → b.lit = true) := by
  rw [lampOutput, Bool.and_eq_true, beq_iff_eq, Bool.or_eq_true, bne_iff_ne, Option.all_eq_true]
  refine and_congr_right fun _ => ⟨fun h hl => h.resolve_left (not_not_intro hl), fun h => ?_⟩
  by_cases hl : l = .fault
  · exact .inr (h hl)
  · exact .inl hl

/-! ## The alert outputs (R181) -/

/-- The flags stand in the order by their places. -/
theorem flagOrder_place (f : Flag) : flagOrder[f.place]? = some f := by
  cases f <;> rfl

theorem flagOrder_nodup : flagOrder.Nodup := by decide

/-- A flag stands in the order once, so that a place names it. -/
theorem flagOrder_getElem?_iff (i : Nat) (f : Flag) : flagOrder[i]? = some f ↔ i = f.place := by
  refine ⟨fun h => ?_, fun h => h ▸ flagOrder_place f⟩
  obtain ⟨hi, -⟩ := List.getElem?_eq_some_iff.mp h
  exact (List.getElem?_inj hi flagOrder_nodup).mp (h.trans (flagOrder_place f).symm)

theorem mem_flagOrder (f : Flag) : f ∈ flagOrder := List.mem_of_getElem? (flagOrder_place f)

theorem alertOutput_iff_flag (s : State) (n : Fin 4) :
    alertOutput s n = true ↔ ∃ f, s.report.flags.get f = true ∧ s.report.alerts[f.place]? = some (some n) := by
  have hmapped (f : Flag) : s.report.alerts.getD f.place none = some n ↔
      s.report.alerts[f.place]? = some (some n) := by
    rw [List.getD_eq_getElem?_getD]
    cases s.report.alerts[f.place]? <;> simp
  simp only [alertOutput, List.any_eq_true, mem_flagOrder, true_and, Bool.and_eq_true, beq_iff_eq, hmapped]

/-- The place at which a mapped output stands names the flag that it follows. -/
theorem alertOutput_iff_place (s : State) (n : Fin 4) :
    alertOutput s n = true ↔ ∃ i : Nat, s.report.alerts[i]? = some (some n) ∧
      (flagOrder.map s.report.flags.get)[i]? = some true := by
  simp only [alertOutput_iff_flag, List.getElem?_map, Option.map_eq_some_iff, flagOrder_getElem?_iff]
  constructor
  · rintro ⟨f, hset, hmap⟩
    exact ⟨f.place, hmap, f, rfl, hset⟩
  · rintro ⟨_, hmap, f, rfl, hset⟩
    exact ⟨f, hset, hmap⟩

end Sys2Proof.Machine

namespace Sys2Proof.Machine

/-- Settles O53: each timer by whether it is due, the lamps by the order of R148 and the outputs by the places of
their flags. -/
theorem consoleTimersAndLamps : Obligations.ConsoleTimersAndLamps := by
  unfold Obligations.ConsoleTimersAndLamps
  refine ⟨fun s ht hm => execPaceTimerRunsOut_due ht hm, fun s h => execPaceTimerRunsOut_not_due h,
    fun s b hb => ⟨fun h => ?_, fun h => ?_, fun h => ?_, fun h => ?_⟩,
    fun s hb => ⟨execFaultBlinkPhase_steady hb, execFaultBlinkEnd_steady hb⟩, fun s => ?lamps,
    fun s n => alertOutput_iff_place s n⟩
  · exact (execFaultBlinkPhase_blinking hb).trans (by rw [if_pos h])
  · exact (execFaultBlinkEnd_blinking hb).trans (by rw [if_pos h])
  · exact (execFaultBlinkPhase_blinking hb).trans (by rw [if_neg h])
  · exact (execFaultBlinkEnd_blinking hb).trans (by rw [if_neg h])
  case lamps =>
    obtain ⟨hfault, hremove, hplace⟩ := selectedLamp_iff s
    rw [rejectedAtStage_iff, faultShown, not_or, and_assoc] at hremove
    rw [placeWanted_iff, rejectedAtStage_iff, and_assoc, and_assoc, and_assoc] at hplace
    exact ⟨hfault, hremove, hplace, lampOutput_iff s⟩

end Sys2Proof.Machine
end

section
/-! PROOFS. The hold causes (R156, R157, R160, R179): the hold set changed with its STAT, the moves between Running
and Holding, what they do to the commitment, and the statement that joins them. -/

namespace Sys2Proof.Machine

variable {s : State} {c : HoldCause} {k : Commitment} {before after : List Parcel} {r : Parcel} {g : TxFrame}

/-! ## The hold set with its STAT (R156, R179) -/

/-- The hold set changed, with a STAT joined or renewed in the transmit queue. -/
def State.heldBy (s : State) (h : HoldSet) : State :=
  { s with station := { s.station with holds := h }, line := (request .stat s).line }

theorem setHolds_eq_heldBy (h : HoldSet) (ha : active s = true) : setHolds h s = s.heldBy h := by
  have hactive : active (s.withStation { s.station with holds := h }) = true := ha
  simp only [setHolds, offerStat, hactive, if_true, request_eq, State.heldBy]
  rfl

theorem exists_stat_request (s : State) : ∃ f ∈ (request .stat s).line.queue, f.body = .stat := by
  rw [request_eq]
  exact exists_requested .stat s.line.queue

theorem addHold_keeps_mode (ha : active s = true) (hc : s.station.holds.has c = false)
    (h : ¬ (s.station.mode = .running ∧ s.station.holds = ⟨false, false, false, false⟩)) :
    addHold c s = s.heldBy (s.station.holds.put true c) := by
  rw [← HoldSet.isEmpty_iff_eq] at h
  simp [addHold, hc, h, setHolds_eq_heldBy _ ha]

theorem addHold_leaves_running (hc : s.station.holds.has c = false) (hm : s.station.mode = .running)
    (hh : s.station.holds = ⟨false, false, false, false⟩) :
    addHold c s = leaveRunning ((s.heldBy (s.station.holds.put true c)).movedTo .holding) := by
  have ha : active s = true := by simp [active, hm]
  simp [addHold, hc, hm, s.station.holds.isEmpty_iff_eq.mpr hh, setHolds_eq_heldBy _ ha,
    setMode_eq_movedTo (m := .holding) _ rfl]

theorem removeHold_keeps_mode (ha : active s = true) (hc : s.station.holds.has c = true)
    (h : ¬ (s.station.mode = .holding ∧ s.station.holds.put false c = ⟨false, false, false, false⟩)) :
    removeHold c s = s.heldBy (s.station.holds.put false c) := by
  rw [← HoldSet.isEmpty_iff_eq] at h
  simp [removeHold, hc, h, setHolds_eq_heldBy _ ha]

theorem removeHold_leaves_holding (hc : s.station.holds.has c = true) (hm : s.station.mode = .holding)
    (hh : s.station.holds.put false c = ⟨false, false, false, false⟩) :
    removeHold c s = (s.heldBy (s.station.holds.put false c)).movedTo .running := by
  have ha : active s = true := by simp [active, hm]
  simp [removeHold, hc, hm, (HoldSet.isEmpty_iff_eq _).mpr hh, setHolds_eq_heldBy _ ha,
    setMode_eq_movedTo (m := .running) _ rfl]

/-! ## Each change offers a STAT (R179) -/

/-- Leaving Running asks the removal of CLAIM frames alone. -/
theorem mem_leaveRunning (hg : g ∈ s.line.queue) (hc : g.body.isClaim = false) :
    g ∈ (leaveRunning s).line.queue := by
  rw [leaveRunning]
  split
  · exact hg
  · split
    · simpa using (mem_askRemoval TxBody.isClaim s g).mpr (.inl ⟨hg, hc⟩)
    · exact hg

theorem exists_stat_addHold (ha : active s = true) (hc : s.station.holds.has c = false) :
    ∃ f ∈ (addHold c s).line.queue, f.body = .stat := by
  by_cases h : s.station.mode = .running ∧ s.station.holds = ⟨false, false, false, false⟩
  · obtain ⟨hm, hh⟩ := h
    obtain ⟨f, hf, hstat⟩ := exists_stat_request (s.heldBy (s.station.holds.put true c))
    rw [addHold_leaves_running hc hm hh]
    exact ⟨f, mem_leaveRunning hf (by rw [hstat]; rfl), hstat⟩
  · rw [addHold_keeps_mode ha hc h]
    exact exists_stat_request s

theorem exists_stat_removeHold (ha : active s = true) (hc : s.station.holds.has c = true) :
    ∃ f ∈ (removeHold c s).line.queue, f.body = .stat := by
  by_cases h : s.station.mode = .holding ∧ s.station.holds.put false c = ⟨false, false, false, false⟩
  · obtain ⟨hm, hh⟩ := h
    rw [removeHold_leaves_holding hc hm hh]
    exact exists_stat_request _
  · rw [removeHold_keeps_mode ha hc h]
    exact exists_stat_request s

/-! ## The lane and the commitment (R133, R157, R160) -/

theorem addHold_keeps_lane (ha : active s = true) (hc : s.station.holds.has c = false)
    (h : s.station.mode ≠ .running ∨ s.station.holds ≠ ⟨false, false, false, false⟩ ∨
      s.launch.commitment = none ∨ ∃ k, s.launch.commitment = some k ∧ phaseOf s k.seq = some .announced) :
    (addHold c s).lane = s.lane ∧ (addHold c s).launch = s.launch := by
  by_cases hr : s.station.mode = .running ∧ s.station.holds = ⟨false, false, false, false⟩
  · obtain ⟨hm, hh⟩ := hr
    have hleft : leaveRunning ((s.heldBy (s.station.holds.put true c)).movedTo .holding) =
        (s.heldBy (s.station.holds.put true c)).movedTo .holding :=
      leaveRunning_kept ((h.resolve_left (absurd hm ·)).resolve_left (absurd hh ·))
    rw [addHold_leaves_running hc hm hh, hleft]
    exact ⟨rfl, rfl⟩
  · rw [addHold_keeps_mode ha hc hr]
    exact ⟨rfl, rfl⟩

theorem FirstRecord.addHold_committed (h : FirstRecord s Phase.isClaim k.seq before r after)
    (hc : s.station.holds.has c = false) (hm : s.station.mode = .running)
    (hh : s.station.holds = ⟨false, false, false, false⟩) (hk : s.launch.commitment = some k)
    (hp : r.phase = .committed) :
    (addHold c s).lane =
        { s.lane with queue := before ++ { r with phase := .staged, placement := none } :: after } ∧
      (addHold c s).launch = { s.launch with commitment := none } ∧
      ∀ f ∈ (addHold c s).line.queue, f.body.isClaim = true → f.inPassage = true ∧ f.removalAsked = true := by
  have hmoved : FirstRecord ((s.heldBy (s.station.holds.put true c)).movedTo .holding)
      Phase.isClaim k.seq before r after := ⟨h.queue, h.phase, h.seq, h.first⟩
  rw [addHold_leaves_running hc hm hh, hmoved.leaveRunning_committed hk hp]
  exact ⟨rfl, rfl, fun f hf hclaim => claim_of_mem_askRemoval hf hclaim⟩

/-- A removal changes the transmit queue and station control alone. -/
theorem removeHold_eq (ha : active s = true) (hc : s.station.holds.has c = true) :
    removeHold c s = { s with
      line := (removeHold c s).line
      station := { s.station with
        holds := s.station.holds.put false c
        mode := if s.station.mode = .holding ∧ s.station.holds.put false c = ⟨false, false, false, false⟩
          then .running else s.station.mode } } := by
  by_cases h : s.station.mode = .holding ∧ s.station.holds.put false c = ⟨false, false, false, false⟩
  · obtain ⟨hm, hh⟩ := h
    rw [if_pos ⟨hm, hh⟩, removeHold_leaves_holding hc hm hh]
    rfl
  · rw [if_neg h, removeHold_keeps_mode ha hc h]
    rfl

end Sys2Proof.Machine

namespace Sys2Proof.Machine

/-- Settles O49: an addition by whether it takes the station out of Running and what it finds committed there,
a removal by whether it is the last. -/
theorem holdCausesMoveTheStation : Obligations.HoldCausesMoveTheStation := by
  unfold Obligations.HoldCausesMoveTheStation
  intro s c ha t u
  refine ⟨addHold_of_has, fun hc => ⟨?station, exists_stat_addHold ha hc, by simp [t], by simp [t], by simp [t],
    by simp [t], by simp [t], by simp [t], by simp [t], fun h => ?kept, fun k before after r hm hh hk h => ?running⟩,
    removeHold_of_not_has, fun hc => ⟨exists_stat_removeHold ha hc, removeHold_eq ha hc⟩⟩
  case station => simpa only [HoldSet.isEmpty_iff_eq] using addHold_station c s hc
  case kept => exact addHold_keeps_lane ha hc (h.imp_right (·.imp_right .inl))
  case running =>
    refine ⟨fun hp => addHold_keeps_lane ha hc (.inr (.inr (.inr ⟨k, hk, ?_⟩))), h.addHold_committed hc hm hh hk⟩
    rw [h.phaseOf, hp]

end Sys2Proof.Machine
end

section
/-! PROOFS. Entry into Faulted (R133, R162): the whole of it as one equation over what the commitment and the launch
in flight leave, what each of these does to the lane, the launch unit and the line, and the statement that joins
them. -/

namespace Sys2Proof.Machine

variable {s : State} {k : Commitment} {f : Flight} {before after : List Parcel} {r : Parcel} {g : TxFrame}

/-- After the commitment is dropped and the launch in flight is Conflict, the belts and the stall timers stop, the
station is Faulted and a STAT is offered (R162, R179). -/
theorem enterFaulted_eq (cause : FaultCause) (s : State) :
    enterFaulted cause s =
      let t := conflictFlight (dropCommitment s)
      { t with
        lane := { t.lane with stall := .stopped, stageHolder := .sequencer, launchHolder := .sequencer }
        line := (request .stat t).line
        station := { t.station with mode := .faulted, cause := cause } } := by
  simp only [enterFaulted, offerStat_eq, request_eq]
  rfl

/-! ## The records that stay (R133, R162) -/

/-- What a parcel's record has from its measurement and its place: all but its phase and committed fields. -/
def Parcel.measurements (r : Parcel) : Option SeqNo × Option Nat × Option Span × Zone :=
  (r.seq, r.length, r.span, r.zone)

/-- What dropping a commitment or a launch in flight leaves of the lane: the place count, the next sequence number
and each record but for its phase and committed fields. -/
def Lane.KeepsRecords (x y : Lane) : Prop :=
  y.placeCount = x.placeCount ∧ y.nextSeq = x.nextSeq ∧
    y.queue.map Parcel.measurements = x.queue.map Parcel.measurements

theorem updateRecord_keepsRecords (among : Phase → Bool) (n : SeqNo) (c : Parcel → Parcel) (s : State)
    (h : ∀ r, (c r).measurements = r.measurements) :
    s.lane.KeepsRecords (updateRecord among n c s).lane :=
  ⟨rfl, rfl, modifyFirst_map _ c Parcel.measurements h _⟩

theorem dropCommitment_keepsRecords (s : State) : s.lane.KeepsRecords (dropCommitment s).lane := by
  rw [dropCommitment]
  split
  · exact ⟨rfl, rfl, rfl⟩
  · split
    · simp only [offerVacate_frame]
      exact updateRecord_keepsRecords Phase.isClaim _ Parcel.returned s fun _ => rfl
    · exact updateRecord_keepsRecords Phase.isClaim _ Parcel.returned s fun _ => rfl

theorem conflictFlight_keepsRecords (s : State) : s.lane.KeepsRecords (conflictFlight s).lane := by
  rw [conflictFlight]
  split
  · exact ⟨rfl, rfl, rfl⟩
  · exact updateRecord_keepsRecords Phase.isLaunching _ _ s fun _ => rfl

theorem enterFaulted_keepsRecords (cause : FaultCause) (s : State) :
    s.lane.KeepsRecords (enterFaulted cause s).lane := by
  obtain ⟨hplace, hseq, hqueue⟩ := dropCommitment_keepsRecords s
  obtain ⟨hplace', hseq', hqueue'⟩ := conflictFlight_keepsRecords (dropCommitment s)
  rw [enterFaulted_eq]
  exact ⟨hplace'.trans hplace, hseq'.trans hseq, hqueue'.trans hqueue⟩

/-! ## The launch unit and the share unit (R69, R133, R162) -/

theorem dropCommitment_launch (s : State) :
    (dropCommitment s).launch = { s.launch with commitment := none } := by
  rw [dropCommitment]
  split
  next hk => rw [← hk]
  next => split <;> simp [discardCommitment]

theorem conflictFlight_launch (s : State) :
    (conflictFlight s).launch = { s.launch with flight := none } := by
  rw [conflictFlight]
  split
  next hf => rw [← hf]
  next => simp

theorem enterFaulted_launch (cause : FaultCause) (s : State) :
    (enterFaulted cause s).launch = { commitment := none, flight := none, horizon := s.launch.horizon } := by
  rw [enterFaulted_eq]
  show (conflictFlight (dropCommitment s)).launch = _
  rw [conflictFlight_launch, dropCommitment_launch]

/-- A VACATE can displace a HOLD, whose placed-hold entry goes with it; nothing else of the share unit changes. -/
theorem offerVacate_share (t : Tray) (span : Span) (s : State) :
    (offerVacate t span s).share = { s.share with held := (offerVacate t span s).share.held } := by
  rw [offerVacate]
  split
  · simp
  · split
    · simp [dropHeld]
    · rfl

theorem dropCommitment_share (s : State) :
    (dropCommitment s).share = { s.share with held := (dropCommitment s).share.held } := by
  rw [dropCommitment]
  split
  · rfl
  · split
    · rw [offerVacate_share]
      simp
    · simp

theorem enterFaulted_share (cause : FaultCause) (s : State) :
    (enterFaulted cause s).share = (dropCommitment s).share := by
  rw [enterFaulted_eq]
  show (conflictFlight (dropCommitment s)).share = _
  simp

/-! ## The commitment's record and its frames (R71, R133) -/

/-- With no launch in flight the queue is as the dropped commitment leaves it. -/
theorem enterFaulted_queue_of_no_flight (cause : FaultCause) (hf : s.launch.flight = none) :
    (enterFaulted cause s).lane.queue = (dropCommitment s).lane.queue := by
  have hno : (dropCommitment s).launch.flight = none := by rw [dropCommitment_launch]; exact hf
  rw [enterFaulted_eq, conflictFlight_of_no_flight hno]

theorem dropCommitment_of_announced (hk : s.launch.commitment = some k)
    (hp : phaseOf s k.seq = some .announced) :
    dropCommitment s = offerVacate k.tray k.span (discardCommitment k s) := by
  simp [dropCommitment, hk, hp]

theorem dropCommitment_of_not_announced (hk : s.launch.commitment = some k)
    (hp : phaseOf s k.seq ≠ some .announced) :
    dropCommitment s = discardCommitment k (askRemoval TxBody.isClaim s) := by
  simp [dropCommitment, hk, hp]

theorem FirstRecord.dropCommitment_queue (h : FirstRecord s Phase.isClaim k.seq before r after)
    (hk : s.launch.commitment = some k) :
    (dropCommitment s).lane.queue = before ++ { r with phase := .staged, placement := none } :: after := by
  by_cases hp : Machine.phaseOf s k.seq = some .announced
  · simp [dropCommitment_of_announced hk hp, h.discardCommitment]
  · have hrecord : FirstRecord (askRemoval TxBody.isClaim s) Phase.isClaim k.seq before r after :=
      ⟨h.queue, h.phase, h.seq, h.first⟩
    rw [dropCommitment_of_not_announced hk hp, hrecord.discardCommitment]

/-- An offer of a DEMAND or STAT puts no other frame into the queue. -/
theorem mem_of_mem_requested {b : TxBody} {q : List TxFrame} (hg : g ∈ requested b q) (hb : g.body ≠ b) :
    g ∈ q := by
  rw [requested] at hg
  split at hg
  case isTrue hany =>
    obtain ⟨near, x, far, rfl, hx, hnear⟩ := exists_split_first (·.body == b) q (by simpa using hany)
    rw [modifyFirst_split _ _ _ _ _ hnear hx] at hg
    have hne : g ≠ { x with renewed := x.renewed || x.inPassage } := by
      rintro rfl
      exact hb (eq_of_beq hx)
    rcases List.mem_append.mp hg with hg | hg
    · exact List.mem_append_left _ hg
    · exact List.mem_append_right _ (List.mem_cons_of_mem _ (List.mem_of_ne_of_mem hne hg))
  case isFalse =>
    rcases List.mem_append.mp hg with hg | hg
    · exact hg
    · obtain rfl := List.mem_singleton.mp hg
      exact absurd rfl hb

theorem FirstRecord.claim_of_mem_enterFaulted (h : FirstRecord s Phase.isClaim k.seq before r after)
    (cause : FaultCause) (hk : s.launch.commitment = some k) (hp : r.phase = .committed)
    (hg : g ∈ (enterFaulted cause s).line.queue) (hc : g.body.isClaim = true) :
    g.inPassage = true ∧ g.removalAsked = true := by
  have hphase : Machine.phaseOf s k.seq ≠ some .announced := by simp [h.phaseOf, hp]
  have hline : (dropCommitment s).line = (askRemoval TxBody.isClaim s).line := by
    simp [dropCommitment_of_not_announced hk hphase]
  have hstat : g.body ≠ .stat := fun hstat => by simp [hstat, TxBody.isClaim] at hc
  rw [enterFaulted_line, hline] at hg
  exact claim_of_mem_askRemoval (mem_of_mem_requested hg hstat) hc

theorem FirstRecord.vacate_mem_enterFaulted (h : FirstRecord s Phase.isClaim k.seq before r after)
    (cause : FaultCause) (hk : s.launch.commitment = some k) (hp : r.phase = .announced)
    (hroom : s.line.queue.countP (·.body.isHoldOrVacate) < 5) :
    .fresh (.vacate k.tray k.span 8) ∈ (enterFaulted cause s).line.queue := by
  have hphase : Machine.phaseOf s k.seq = some .announced := by rw [h.phaseOf, hp]
  rw [enterFaulted_line, dropCommitment_of_announced hk hphase]
  exact mem_requested (fresh_mem_offerVacate _ _ (by simpa using hroom)) (by simp [TxFrame.fresh])

end Sys2Proof.Machine

namespace Sys2Proof.Machine

/-- Settles O16: what every entry does by the parts of the state, then the three cases of what was committed or in
flight. -/
theorem entryIntoFaulted : Obligations.EntryIntoFaulted := by
  unfold Obligations.EntryIntoFaulted
  intro s cause t
  have hstill : drawing t = false := by simp [t, drawing]
  have hstage : t.lane.stageHolder = .sequencer := by simp only [t, enterFaulted_eq]
  have hlaunch : t.lane.launchHolder = .sequencer := by simp only [t, enterFaulted_eq]
  have hstall : t.lane.stall = .stopped := by simp only [t, enterFaulted_eq]
  obtain ⟨hplace, hseq, hrecords⟩ := enterFaulted_keepsRecords cause s
  refine ⟨enterFaulted_station_eq cause s, hstage, hlaunch, placeBelt_of_not_drawing hstill,
    measureBelt_of_not_drawing hstill, stageBelt_of_not_drawing hstill hstage, launchBelt_of_sequencer hlaunch,
    fun z => ?timers, enterFaulted_launch cause s, hplace, hseq, hrecords, by simp [t], by simp [t], by simp [t],
    by simp [t], by simp [t], by simp [t], by simp [t], ?share, fun hk hf => ?nothing,
    fun k before after r hk hf h => ⟨?staged,
      fun hp g hg hc => h.claim_of_mem_enterFaulted cause hk hp hg hc, h.vacate_mem_enterFaulted cause hk⟩,
    fun f before after r hk hf h => h.enterFaulted_queue cause hk hf⟩
  case timers =>
    rw [hstall]
    cases z <;> rfl
  case share =>
    show (enterFaulted cause s).share = { s.share with held := (enterFaulted cause s).share.held }
    rw [enterFaulted_share]
    exact dropCommitment_share s
  case nothing =>
    have ht : t = _ := enterFaulted_of_no_launch cause hk hf
    rw [ht]
    exact ⟨rfl, rfl, rfl⟩
  case staged => exact (enterFaulted_queue_of_no_flight cause hf).trans (h.dropCommitment_queue hk)

end Sys2Proof.Machine
end

section
/-! PROOFS. CLEAR (R150, R163 to R166, R177): the button by the mode and the lane eyes, which flags it leaves, the
state after an accepted Clear, and the statements for Faulted and elsewhere. -/

namespace Sys2Proof.Machine

variable {s : State} {q : Quiet} {eyes : LaneEyes}

/-! ## The press by the mode and the eyes (R163, R165) -/

theorem laneClear_iff (eyes : LaneEyes) :
    laneClear eyes = true ↔ eyes = ⟨false, false, false, false, false⟩ := by
  obtain ⟨place, measure, transfer, stage, exit⟩ := eyes
  simp [laneClear, and_assoc]

theorem execClear_refused (hp : pressTaken q s = true) (hm : s.station.mode = .faulted)
    (he : eyes ≠ ⟨false, false, false, false, false⟩) : execClear q eyes s = .next (startBlink s) := by
  simp [execClear, hp, hm, mt (laneClear_iff eyes).mp he]

theorem execClear_accepted (hp : pressTaken q s = true) (hm : s.station.mode = .faulted)
    (he : eyes = ⟨false, false, false, false, false⟩) :
    execClear q eyes s = .next (clearTogether (readEyes eyes s)) := by
  simp [execClear, hp, hm, (laneClear_iff eyes).mpr he]

theorem execClear_idle (hp : pressTaken q s = true) (hm : s.station.mode = .idle) :
    execClear q eyes s = .next (clearFlags s) := by
  simp [execClear, hp, hm]

theorem execClear_elsewhere (hf : s.station.mode ≠ .faulted) (hi : s.station.mode ≠ .idle) :
    execClear q eyes s = .next s := by
  simp [execClear, hf, hi]

/-! ## The flags that stay (R176, R177) -/

theorem clearFlags_get (s : State) (f : Flag) :
    (clearFlags s).report.flags.get f = (s.report.flags.get f && causeStands s f) :=
  s.report.flags.get_keep (causeStands s) f

/-- With every record gone, no Rejected record rests at the stage eye. -/
theorem causeStands_of_no_record (h : s.lane.queue = []) (f : Flag) :
    causeStands s f = match f with
      | .lineFault => s.line.faulted
      | .configFault => true
      | .laxPeer => s.share.peers.any (·.presence == .lax)
      | _ => false := by
  cases f <;> simp [causeStands, rejectedAtStage, h]

/-! ## An accepted Clear (R164, R166) -/

/-- The state after a Clear that finds every lane eye clear. -/
def State.cleared (s : State) : State :=
  { s with
    lane := { s.lane with
      queue := []
      placeCount := 0
      measureEye := false
      transferEye := false
      stageEye := false
      exitEye := false
      transferStray := false
      stall := .stopped
      stageHolder := .sequencer
      launchHolder := .sequencer }
    scan := { s.scan with slot := none }
    window := { s.window with entries := s.window.entries.map (fun e => { e with mark := .none }) }
    share := { s.share with credit := 0, held := [] }
    launch := { s.launch with commitment := none, flight := none }
    pace := { s.pace with timer := none, blink := none }
    line := (request .stat (askRemoval TxBody.isHold s)).line
    station := { s.station with mode := .idle, cause := .none, again := none }
    report := (clearFlags (clearLane s)).report }

theorem acceptClear_readEyes (s : State) :
    acceptClear (readEyes ⟨false, false, false, false, false⟩ s) = s.cleared := by
  simp only [acceptClear, offerStat_eq, request_eq, State.cleared]
  rfl

theorem execClear_alone (hp : pressTaken q s = true) (hm : s.station.mode = .faulted)
    (he : eyes = ⟨false, false, false, false, false⟩) (ha : s.station.again = none) :
    execClear q eyes s = .next s.cleared := by
  subst he
  have hagain : (readEyes ⟨false, false, false, false, false⟩ s).station.again = none := ha
  rw [execClear_accepted hp hm rfl, clearTogether, hagain, ← acceptClear_readEyes]

/-- The Clear leaves Idle, in which the report that came with it is taken (R161, R166). -/
theorem execClear_with_fault {cause : FaultCause} (hp : pressTaken q s = true) (hm : s.station.mode = .faulted)
    (he : eyes = ⟨false, false, false, false, false⟩) (ha : s.station.again = some cause) :
    execClear q eyes s = .next (enterFaulted cause s.cleared) := by
  subst he
  have hagain : (readEyes ⟨false, false, false, false, false⟩ s).station.again = some cause := ha
  have htaken : takesLaneEvents s.cleared = true := rfl
  rw [execClear_accepted hp hm rfl, clearTogether, hagain]
  simp only [acceptClear_readEyes, reportFault, htaken, if_true]

end Sys2Proof.Machine

namespace Sys2Proof.Machine

/-- Settles O51: the refusal, then the accepted Clear alone and with a fault reported together with it. -/
theorem clearNeedsAClearLane : Obligations.ClearNeedsAClearLane := by
  unfold Obligations.ClearNeedsAClearLane
  intro s q eyes hm hq
  have hp : pressTaken q s = true := pressTaken_of_active (by simp [active, hm]) hq
  refine ⟨execClear_refused hp hm, fun he => ⟨s.cleared.report.flags, fun f => ?flags, ?accepted⟩⟩
  case flags =>
    have hstands := causeStands_of_no_record (s := clearLane s) rfl f
    exact (clearFlags_get (clearLane s) f).trans (congrArg (s.report.flags.get f && ·) hstands)
  case accepted => exact ⟨execClear_alone hp hm he, fun cause => execClear_with_fault hp hm he⟩

/-- Settles O52: Clear in Idle is the clearing of flags, and in no other mode but Faulted is it taken. -/
theorem clearElsewhereTouchesNoParcel : Obligations.ClearElsewhereTouchesNoParcel := by
  unfold Obligations.ClearElsewhereTouchesNoParcel
  intro s q eyes
  refine ⟨fun hm hq => ⟨clearFlags s, ?idle, rfl, clearFlags_get s⟩, fun hm => ?elsewhere⟩
  case idle =>
    have hp : pressTaken q s = true := pressTaken_of_active (by simp [active, hm]) hq
    exact execClear_idle hp hm
  case elsewhere =>
    exact execClear_elsewhere (fun hf => by simp [hf] at hm) (fun hi => by simp [hi] at hm)

end Sys2Proof.Machine
end

section
/-! PROOFS. The check value of the configuration block (R172): the division of the string with its first 16 bits
inverted, and the register that starts at FFFF hex; and the statement that they agree. -/

namespace Sys2Proof.Machine

/-! ## The register (R172) -/

/-- One step of a CRC register, which takes a bit against its top bit. -/
def registerStep {w : Nat} (poly r : BitVec w) (b : Bool) : BitVec w :=
  if r.msb != b then (r <<< 1) ^^^ poly else r <<< 1

/-- What the zero bits that multiply the string by x¹⁶ make of a remainder. -/
def timesX16 (r : BitVec 16) : BitVec 16 := (List.replicate 16 false).foldl (divStep crc16Poly) r

theorem divStep_false (r : BitVec 16) :
    divStep crc16Poly r false = if r.msb then (r <<< 1) ^^^ crc16Poly else r <<< 1 := by
  simp [divStep]

theorem divStep_eq_xor (r : BitVec 16) (b : Bool) :
    divStep crc16Poly r b = divStep crc16Poly r false ^^^ divStep crc16Poly 0 b := by
  simpa using divStep_xor crc16Poly r 0 false b

theorem timesX16_xor (r q : BitVec 16) : timesX16 (r ^^^ q) = timesX16 r ^^^ timesX16 q :=
  foldl_divStep_xor crc16Poly r q (.replicate 16 false) (.replicate 16 false) rfl

/-- A 17th zero bit may stand before the 16 as well as after them. -/
theorem timesX16_divStep_false (r : BitVec 16) :
    timesX16 (divStep crc16Poly r false) = divStep crc16Poly (timesX16 r) false := rfl

/-- The lone bit times x¹⁶ is the generator's lower terms. -/
theorem timesX16_divStep_zero (b : Bool) :
    timesX16 (divStep crc16Poly 0 b) = if b then crc16Poly else 0 := by
  cases b <;> decide +kernel

/-- The register holds the remainder times x¹⁶. -/
theorem timesX16_divStep (r : BitVec 16) (b : Bool) :
    timesX16 (divStep crc16Poly r b) = registerStep crc16Poly (timesX16 r) b := by
  rw [divStep_eq_xor, timesX16_xor, timesX16_divStep_false, timesX16_divStep_zero, divStep_false, registerStep]
  cases (timesX16 r).msb <;> cases b <;>
    simp only [bne_self_eq_false, bne_iff_ne, ne_eq, reduceCtorEq, not_false_eq_true, if_true, Bool.false_eq_true,
      if_false, BitVec.ofNat_eq_ofNat, BitVec.xor_assoc, BitVec.xor_self, BitVec.xor_zero]

theorem timesX16_foldl_divStep (r : BitVec 16) (bits : Bits) :
    timesX16 (bits.foldl (divStep crc16Poly) r) = bits.foldl (registerStep crc16Poly) (timesX16 r) := by
  induction bits generalizing r with
  | nil => rfl
  | cons b bits ih => simp only [List.foldl_cons, ih, timesX16_divStep]

/-! ## The inverted bits (R172) -/

/-- The remainder that 16 set bits take to 0, and 16 zero bits to FFFF hex. -/
def invertingStart : BitVec 16 := 0x84CF

theorem timesX16_invertingStart : timesX16 invertingStart = 0xFFFF := by decide +kernel

theorem foldl_divStep_invertingStart :
    (List.replicate 16 true).foldl (divStep crc16Poly) invertingStart = 0 := by decide +kernel

theorem zipWith_xor_true (bits : Bits) :
    List.zipWith xor (bits.map not) (.replicate bits.length true) = bits := by
  induction bits with
  | nil => rfl
  | cons b bits ih => simp [List.replicate_succ, ih]

/-- To invert 16 bits is to start the division at another remainder. -/
theorem foldl_divStep_map_not (bits : Bits) (h : bits.length = 16) :
    (bits.map not).foldl (divStep crc16Poly) 0 = bits.foldl (divStep crc16Poly) invertingStart := by
  have hinvert : List.zipWith xor (bits.map not) (.replicate 16 true) = bits := h ▸ zipWith_xor_true bits
  have hsum := foldl_divStep_xor crc16Poly 0 invertingStart (bits.map not) (.replicate 16 true) (by simp [h])
  rw [hinvert, foldl_divStep_invertingStart] at hsum
  simpa using hsum.symm

theorem length_natBits (w n : Nat) : (natBits w n).length = w := by
  induction w with
  | zero => rfl
  | succ w ih => simp [natBits, ih]

theorem length_flatMap_natBits (bytes : List Byte) :
    (bytes.flatMap (fun b => natBits 8 b.toNat)).length = bytes.length * 8 := by
  induction bytes with
  | nil => rfl
  | cons b bytes ih =>
    rw [List.flatMap_cons, List.length_append, length_natBits, ih, List.length_cons]
    omega

theorem remainder_inverted_eq_register (bits : Bits) (h : 16 ≤ bits.length) :
    remainder crc16Poly ((bits.take 16).map not ++ bits.drop 16 ++ List.replicate 16 false) =
      bits.foldl (registerStep crc16Poly) 0xFFFF := by
  have hfirst : (bits.take 16).length = 16 := by
    rw [List.length_take]
    omega
  calc remainder crc16Poly ((bits.take 16).map not ++ bits.drop 16 ++ List.replicate 16 false)
      = timesX16 ((bits.drop 16).foldl (divStep crc16Poly)
          (((bits.take 16).map not).foldl (divStep crc16Poly) 0)) := by
        simp only [remainder, timesX16, List.foldl_append]
    _ = timesX16 (bits.foldl (divStep crc16Poly) invertingStart) := by
        rw [foldl_divStep_map_not _ hfirst, ← List.foldl_append, List.take_append_drop]
    _ = bits.foldl (registerStep crc16Poly) 0xFFFF := by
        rw [timesX16_foldl_divStep, timesX16_invertingStart]

end Sys2Proof.Machine

namespace Sys2Proof.Machine

/-- Settles O8: the register holds the remainder times x¹⁶, from the remainder that stands for the inversion. -/
theorem blockCheckIsTheRegisterForm : Obligations.BlockCheckIsTheRegisterForm := by
  unfold Obligations.BlockCheckIsTheRegisterForm
  intro bytes hlen
  have h : 16 ≤ (bytes.flatMap (fun b => natBits 8 b.toNat)).length := by
    rw [length_flatMap_natBits]
    omega
  exact remainder_inverted_eq_register _ h

end Sys2Proof.Machine
end

section
/-! PROOFS. The configuration block (R172, R173, R186): its fatal faults, the reading of one field, the ranges and
the clamps of the whole block, and the statement that joins them. -/

namespace Sys2Proof.Machine

variable {block : Vector Byte 64} {lo hi dflt : Nat}

/-! ## Bytes, words and fatal faults (R172, R186) -/

theorem byteAt_lt (block : Vector Byte 64) (a : Nat) : byteAt block a < 256 := (block.toList.getD a 0).isLt

theorem blockFault_eq_none_iff (block : Vector Byte 64) :
    blockFault block = none ↔ ¬ ((blockCheck (block.toList.take 62)).toNat ≠ wordAt block 62 ∨ byteAt block 0 ≠ 1 ∨
      14 < byteAt block 1 ∨ wordAt block 5 < 64 ∨ 4095 < wordAt block 5 ∨ wordAt block 7 < 400 ∨
      1600 < wordAt block 7) := by
  simp only [blockFault, bne_iff_ne, Bool.or_eq_true, decide_eq_true_eq]
  repeat' split
  all_goals
    simp only [false_iff, true_iff, reduceCtorEq, Classical.not_not]
    omega

/-- The bounds that a block without a fatal fault meets (R172). -/
theorem bounds_of_good (hgood : blockFault block = none) :
    byteAt block 1 ≤ 14 ∧ (64 ≤ wordAt block 5 ∧ wordAt block 5 ≤ 4095) ∧
      (400 ≤ wordAt block 7 ∧ wordAt block 7 ≤ 1600) := by
  rw [blockFault_eq_none_iff] at hgood
  omega

/-! ## Numbers (R173) -/

theorem clampField_fst (h : lo ≤ hi) (v : Nat) : (clampField lo hi v).1 = min hi (max lo v) := by
  rw [clampField]
  repeat' split
  all_goals omega

theorem clampField_snd (lo hi v : Nat) : (clampField lo hi v).2 = true ↔ v < lo ∨ hi < v := by
  rw [clampField]
  repeat' split
  all_goals
    simp only [Bool.false_eq_true, true_iff, false_iff]
    omega

theorem defaultField_fst (h : lo ≤ hi) (dflt v : Nat) :
    (defaultField lo hi dflt v).1 = if v = 0 then dflt else min hi (max lo v) := by
  rw [defaultField]
  cases v with
  | zero => rfl
  | succ v => exact clampField_fst h (v + 1)

theorem defaultField_snd (lo hi dflt v : Nat) :
    (defaultField lo hi dflt v).2 = true ↔ v ≠ 0 ∧ (v < lo ∨ hi < v) := by
  rw [defaultField]
  cases v with
  | zero => exact iff_of_false Bool.false_ne_true (fun h => h.1 rfl)
  | succ v => exact (clampField_snd lo hi (v + 1)).trans (and_iff_right (Nat.succ_ne_zero v)).symm

theorem clampField_range (h : lo ≤ hi) (v : Nat) : lo ≤ (clampField lo hi v).1 ∧ (clampField lo hi v).1 ≤ hi := by
  rw [clampField_fst h]
  omega

theorem defaultField_range (h : lo ≤ dflt ∧ dflt ≤ hi) (v : Nat) :
    lo ≤ (defaultField lo hi dflt v).1 ∧ (defaultField lo hi dflt v).1 ≤ hi := by
  rw [defaultField_fst (Nat.le_trans h.1 h.2)]
  split <;> omega

theorem pathField_fst (pitch v : Nat) : (pathField pitch v).1 = max pitch (min 6000 (max 500 v)) := by
  simp only [pathField, clampField_fst (show 500 ≤ 6000 by decide)]
  split
  · omega
  · rw [clampField_fst (by decide)]
    omega

/-- d_path counts as clamped where it is raised, too (log entry 14). -/
theorem pathField_snd (pitch v : Nat) :
    (pathField pitch v).2 = true ↔ (v < 500 ∨ 6000 < v) ∨ v < pitch := by
  simp only [pathField, clampField_fst (show 500 ≤ 6000 by decide)]
  split
  · simp only [true_iff]
    omega
  · rw [clampField_snd]
    omega

/-! ## Choices (R173, R186) -/

theorem noReadField_eq (code : Nat) :
    choiceField noReadOfCode .reject code = (if code = 2 then .induct else .reject, decide (2 < code)) := by
  rcases code with _ | _ | _ | code <;> simp [choiceField, noReadOfCode]

theorem bitRateField_eq (code : Nat) :
    choiceField bitRateOfCode .kbit125 code =
      (if code = 1 then .kbit62 else if code = 3 then .kbit250 else .kbit125, decide (3 < code)) := by
  rcases code with _ | _ | _ | _ | code <;> simp [choiceField, bitRateOfCode]

theorem scanBaudField_eq (code : Nat) :
    choiceField scanBaudOfCode .baud38400 code =
      (if code = 1 then .baud19200 else if code = 3 then .baud115200 else .baud38400, decide (3 < code)) := by
  rcases code with _ | _ | _ | _ | code <;> simp [choiceField, scanBaudOfCode]

theorem alertField_eq (code : Nat) :
    alertField code =
      (if code = 1 then some 0 else if code = 2 then some 1 else if code = 3 then some 2
        else if code = 4 then some 3 else none, decide (4 < code)) := by
  rcases code with _ | _ | _ | _ | _ | code <;> simp [alertField]

/-! ## Alert nibbles and filters (R173, R186) -/

/-- Nibble i of the alert mapping: the high ones of bytes 49 to 55 have the even numbers (R186). -/
def alertNibble (block : Vector Byte 64) (i : Nat) : Nat :=
  if i % 2 = 0 then byteAt block (49 + i / 2) / 16 else byteAt block (49 + i / 2) % 16

theorem alertNibbles_eq (block : Vector Byte 64) : alertNibbles block = (List.range 14).map (alertNibble block) := rfl

theorem any_alertNibbles_clamped (block : Vector Byte 64) :
    ((alertNibbles block).map alertField).any (·.2) = true ↔ ∃ i, i < 14 ∧ 4 < alertNibble block i := by
  simp [alertNibbles_eq, alertField_eq]

theorem filterAt_eq (block : Vector Byte 64) (n : Nat) :
    filterAt block n = {
      enabled := byteAt block 32 / 2 ^ n % 2 == 1
      base := BitVec.ofNat 16 (wordAt block (33 + 4 * n))
      mask := BitVec.ofNat 16 (wordAt block (35 + 4 * n)) } := by
  rw [filterAt, Nat.testBit_eq_decide_div_mod_eq]
  rfl

/-! ## The whole block (R173) -/

theorem readSettings_trays (block : Vector Byte 64) : (readSettings block).1.trays = wordAt block 5 := rfl

theorem readSettings_pitch (block : Vector Byte 64) : (readSettings block).1.pitch = wordAt block 7 := rfl

theorem readSettings_offset (block : Vector Byte 64) :
    (readSettings block).1.offset = min (wordAt block 3) (wordAt block 5 - 1) := by
  show (clampField 0 (wordAt block 5 - 1) (wordAt block 3)).1 = _
  rw [clampField_fst (Nat.zero_le _), Nat.zero_max, Nat.min_comm]

theorem readSettings_path (block : Vector Byte 64) :
    (readSettings block).1.path = max (wordAt block 7) (min 6000 (max 500 (wordAt block 11))) :=
  pathField_fst _ _

theorem readSettings_laneClass (block : Vector Byte 64) :
    (readSettings block).1.laneClass = if byteAt block 2 % 2 = 1 then .express else .standard := by
  show (if (byteAt block 2).testBit 0 then LaneClass.express else .standard) = _
  simp

theorem readSettings_filters (block : Vector Byte 64) :
    (readSettings block).1.filters = [0, 1, 2, 3].map (fun n => {
      enabled := byteAt block 32 / 2 ^ n % 2 == 1
      base := BitVec.ofNat 16 (wordAt block (33 + 4 * n))
      mask := BitVec.ofNat 16 (wordAt block (35 + 4 * n)) }) :=
  List.map_congr_left fun n _ => filterAt_eq block n

theorem readSettings_alerts (block : Vector Byte 64) :
    (readSettings block).1.alerts = (List.range 14).map (fun i =>
      if alertNibble block i = 1 then some 0 else if alertNibble block i = 2 then some 1
      else if alertNibble block i = 3 then some 2 else if alertNibble block i = 4 then some 3 else none) := by
  show ((alertNibbles block).map alertField).map (·.1) = _
  rw [alertNibbles_eq, List.map_map, List.map_map]
  exact List.map_congr_left fun i _ => congrArg Prod.fst (alertField_eq _)

/-- What is read from a good block lies in the ranges of R173. -/
theorem readSettings_inRange (hgood : blockFault block = none) : SettingsInRange (readSettings block).1 := by
  obtain ⟨hordinal, htrays, hpitch⟩ := bounds_of_good hgood
  exact {
    ordinal := hordinal
    trays := htrays
    offset := by
      rw [readSettings_offset, readSettings_trays]
      omega
    pitch := hpitch
    window := defaultField_range (by decide) _
    margin := defaultField_range (by decide) _
    path := by
      rw [readSettings_path, readSettings_pitch]
      omega
    accel := clampField_range (by decide) _
    conveying := clampField_range (by decide) _
    noiseFloor := defaultField_range (by decide) _
    minLength := defaultField_range (by decide) _
    stallTime := defaultField_range (by decide) _
    scanWindow := defaultField_range (by decide) _
    floorShare := defaultField_range (by decide) _
    starveThreshold := defaultField_range (by decide) _
    intervalMin := defaultField_range (by decide) _
    intervalMax := defaultField_range (by decide) _
    filters := rfl
    alerts := rfl }

/-- A field counts as clamped exactly where its value lies outside its range (R173). -/
theorem readSettings_clamped_iff (hgood : blockFault block = none) :
    (readSettings block).2 = true ↔
      wordAt block 5 ≤ wordAt block 3 ∨ (byteAt block 9 ≠ 0 ∧ (byteAt block 9 < 9 ∨ 63 < byteAt block 9)) ∨
      4 < byteAt block 10 ∨ (wordAt block 11 < 500 ∨ 6000 < wordAt block 11) ∨ wordAt block 11 < wordAt block 7 ∨
      (wordAt block 13 < 1000 ∨ 20000 < wordAt block 13) ∨ (wordAt block 15 < 300 ∨ 1500 < wordAt block 15) ∨
      (byteAt block 17 ≠ 0 ∧ (byteAt block 17 < 10 ∨ 100 < byteAt block 17)) ∨
      (wordAt block 18 ≠ 0 ∧ (wordAt block 18 < 20 ∨ 800 < wordAt block 18)) ∨ 30 < byteAt block 20 ∨
      (wordAt block 21 ≠ 0 ∧ (wordAt block 21 < 50 ∨ 2000 < wordAt block 21)) ∨ 2 < byteAt block 23 ∨
      16 < byteAt block 24 ∨ (wordAt block 26 ≠ 0 ∧ (wordAt block 26 < 500 ∨ 10000 < wordAt block 26)) ∨
      (wordAt block 28 ≠ 0 ∧ (wordAt block 28 < 2000 ∨ 30000 < wordAt block 28)) ∨ 3 < byteAt block 30 ∨
      3 < byteAt block 31 ∨ ∃ i, i < 14 ∧ 4 < alertNibble block i := by
  obtain ⟨-, htrays, -⟩ := bounds_of_good hgood
  simp only [readSettings, Bool.or_eq_true, clampField_snd, defaultField_snd,
    pathField_snd, noReadField_eq, bitRateField_eq, scanBaudField_eq,
    any_alertNibbles_clamped, decide_eq_true_eq]
  have hoffset : (wordAt block 3 < 0 ∨ wordAt block 5 - 1 < wordAt block 3) ↔ wordAt block 5 ≤ wordAt block 3 := by
    omega
  have hfromOne (n a : Nat) : byteAt block a ≠ 0 ∧ (byteAt block a < 1 ∨ n < byteAt block a) ↔ n < byteAt block a := by
    omega
  have hneverClamped : ¬ 255 < byteAt block 25 := by
    have := byteAt_lt block 25
    omega
  simp only [hoffset, hfromOne]
  simp only [hneverClamped, false_or, or_assoc]

end Sys2Proof.Machine

namespace Sys2Proof.Machine

/-- Settles O7: the fields by the readings of their kinds, then the ranges and the clamps of the whole block. -/
theorem loadedSettingsLieInRange : Obligations.LoadedSettingsLieInRange := by
  unfold Obligations.LoadedSettingsLieInRange
  intro block hgood
  dsimp only
  exact ⟨readSettings_inRange hgood, rfl, readSettings_laneClass block, readSettings_offset block, rfl, rfl,
    defaultField_fst (by decide) _ _, defaultField_fst (by decide) _ _, readSettings_path block,
    clampField_fst (by decide) _, clampField_fst (by decide) _, defaultField_fst (by decide) _ _,
    defaultField_fst (by decide) _ _, defaultField_fst (by decide) _ _, defaultField_fst (by decide) _ _,
    congrArg Prod.fst (noReadField_eq _), defaultField_fst (by decide) _ _, defaultField_fst (by decide) _ _,
    defaultField_fst (by decide) _ _, defaultField_fst (by decide) _ _, congrArg Prod.fst (bitRateField_eq _),
    congrArg Prod.fst (scanBaudField_eq _), readSettings_filters block, readSettings_alerts block,
    readSettings_clamped_iff hgood⟩

end Sys2Proof.Machine
end

section
/-! PROOFS. The memory port (R168 to R172): line recovery sample by sample, the attempts of the transfer, and the
load that fails. -/

namespace Sys2Proof.Machine

variable {s : State} {n k left : Nat} {rest samples : List RecoverySample} {cause : RefusalCause}
  {block : Vector Byte 64} {eyes : LaneEyes} {f : BlockFault}

/-! ## The pulses of line recovery (R169) -/

/-- Each low sample takes one pulse. -/
theorem recoverPulses_low (k left : Nat) (rest : List RecoverySample) :
    recoverPulses (left + k) (List.replicate k .dataLow ++ rest) = recoverPulses left rest := by
  induction k with
  | zero => rfl
  | succ k ih => exact ih

theorem pulseActs_low (k left : Nat) (rest : List RecoverySample) :
    pulseActs (left + k) (List.replicate k .dataLow ++ rest) = List.replicate k .pulse ++ pulseActs left rest := by
  induction k with
  | zero => rfl
  | succ k ih => exact congrArg (.pulse :: ·) ih

/-- The first low sample starts the nine pulses, and k more take k of them. -/
theorem recoverLine_low (h : left + k = 9) (rest : List RecoverySample) :
    recoverLine (List.replicate (k + 1) .dataLow ++ rest) = recoverPulses left rest := by
  rw [← recoverPulses_low k left rest, h]
  rfl

theorem recoveryActs_low (h : left + k = 9) (rest : List RecoverySample) :
    recoveryActs (List.replicate (k + 1) .dataLow ++ rest) = List.replicate k .pulse ++ pulseActs left rest := by
  rw [← pulseActs_low k left rest, h]
  rfl

/-! ## How line recovery ends (R169) -/

theorem recoverPulses_high (h : rest.head? ≠ some .clockLow) :
    recoverPulses (left + 1) (.dataHigh :: rest) = .complete := by
  rw [recoverPulses]
  rintro tail rfl
  exact h rfl

theorem recoverLine_high (h : left + 1 + k = 9) (hrest : rest.head? ≠ some .clockLow) :
    recoverLine (List.replicate (k + 1) .dataLow ++ .dataHigh :: rest) = .complete := by
  rw [recoverLine_low h, recoverPulses_high hrest]

theorem recoverLine_high_clockLow (h : left + 1 + k = 9) (rest : List RecoverySample) :
    recoverLine (List.replicate (k + 1) .dataLow ++ .dataHigh :: .clockLow :: rest) = .failed :=
  recoverLine_low h _

theorem recoveryActs_high (h : left + 1 + k = 9) (rest : List RecoverySample) :
    recoveryActs (List.replicate (k + 1) .dataLow ++ .dataHigh :: rest) =
      List.replicate (k + 1) .pulse ++ [.stopCondition] := by
  rw [recoveryActs_low h, List.replicate_succ', List.append_assoc]
  rfl

/-- The clock line is held low at the first sample or at a pulse. -/
theorem recoverLine_clockLow (hk : k ≤ 9) (rest : List RecoverySample) :
    recoverLine (List.replicate k .dataLow ++ .clockLow :: rest) = .failed := by
  cases k with
  | zero => rfl
  | succ k =>
    obtain ⟨left, h⟩ : ∃ left, left + 1 + k = 9 := ⟨8 - k, by omega⟩
    exact recoverLine_low h _

theorem recoveryActs_clockLow (hk : k ≤ 9) (rest : List RecoverySample) :
    recoveryActs (List.replicate k .dataLow ++ .clockLow :: rest) = List.replicate k .pulse := by
  cases k with
  | zero => rfl
  | succ k =>
    obtain ⟨left, h⟩ : ∃ left, left + 1 + k = 9 := ⟨8 - k, by omega⟩
    rw [recoveryActs_low h, List.replicate_succ']
    rfl

/-- The data line is low after the ninth pulse. -/
theorem recoverLine_spent (rest : List RecoverySample) :
    recoverLine (List.replicate 10 .dataLow ++ rest) = .failed :=
  recoverLine_low (k := 9) (Nat.zero_add 9) rest

theorem recoveryActs_spent (rest : List RecoverySample) :
    recoveryActs (List.replicate 10 .dataLow ++ rest) = List.replicate 9 .pulse :=
  recoveryActs_low (k := 9) (Nat.zero_add 9) rest

/-! ## The commands of the loader (R168 to R172) -/

theorem failLoad_setPort (acts : List PortAct) (s : State) : failLoad (setPort acts s) = s.withFailedLoad acts := rfl

theorem execLineRecovery_complete (hm : s.station.mode = .loading) (hp : s.loader.phase = .recovering n)
    (h : recoverLine samples = .complete) :
    execLineRecovery samples s =
      .next { s with loader := { s.loader with phase := .transferring n, port := recoveryActs samples } } := by
  simp only [execLineRecovery, hm, hp, h]
  rfl

theorem execLineRecovery_failed (hm : s.station.mode = .loading) (hp : s.loader.phase = .recovering n)
    (h : recoverLine samples = .failed) :
    execLineRecovery samples s = .next (s.withFailedLoad (recoveryActs samples)) := by
  simp only [execLineRecovery, hm, hp, h, failLoad_setPort]

theorem execRefusal_retry (hm : s.station.mode = .loading) (hp : s.loader.phase = .transferring n) (hn : n < 3) :
    execRefusal cause s =
      .next { s with loader := { s.loader with phase := .recovering (n + 1), port := refusalActs cause } } := by
  have hleft : n + 1 < Config.loadAttempts := Nat.succ_lt_succ hn
  simp only [execRefusal, hm, hp, hleft, if_true]
  rfl

/-- The fourth refusal. -/
theorem execRefusal_last (hm : s.station.mode = .loading) (hp : s.loader.phase = .transferring 3) :
    execRefusal cause s = .next (s.withFailedLoad (refusalActs cause)) := by
  have hspent : ¬ 3 + 1 < Config.loadAttempts := Nat.lt_irrefl 4
  simp only [execRefusal, hm, hp, hspent, if_false, failLoad_setPort]

theorem execTransfer_fault (hm : s.station.mode = .loading) (hp : s.loader.phase = .transferring n)
    (h : blockFault block = some f) :
    execTransfer block eyes s = .next (s.withFailedLoad transferActs) := by
  simp only [execTransfer, hm, hp, h, failLoad_setPort]

theorem execTransfer_good (hm : s.station.mode = .loading) (hp : s.loader.phase = .transferring n)
    (h : blockFault block = none) :
    execTransfer block eyes s =
      .next (endLoading eyes (handOver (readSettings block) (setPort transferActs s))) := by
  simp only [execTransfer, hm, hp, h]

/-- Outside Loading no command of the memory port has an effect (log entry 11). -/
theorem execLineRecovery_elsewhere (samples : List RecoverySample) (h : s.station.mode ≠ .loading) :
    execLineRecovery samples s = .next s := by
  rw [execLineRecovery]
  split
  · exact absurd ‹s.station.mode = .loading› h
  · rfl

theorem execRefusal_elsewhere (cause : RefusalCause) (h : s.station.mode ≠ .loading) :
    execRefusal cause s = .next s := by
  rw [execRefusal]
  split
  · exact absurd ‹s.station.mode = .loading› h
  · rfl

theorem execTransfer_elsewhere (block : Vector Byte 64) (eyes : LaneEyes) (h : s.station.mode ≠ .loading) :
    execTransfer block eyes s = .next s := by
  rw [execTransfer]
  split
  · exact absurd ‹s.station.mode = .loading› h
  · rfl

/-! ## The state that a failed load leaves (R172, R148, R181) -/

theorem alertOutput_withFailedLoad (s : State) (port : List PortAct) :
    alertOutput (s.withFailedLoad port) 0 = true :=
  (alertOutput_iff_flag _ 0).mpr ⟨.configFault, rfl, rfl⟩

theorem selectedLamp_withFailedLoad (s : State) (port : List PortAct) :
    selectedLamp (s.withFailedLoad port) = .fault :=
  selectedLamp_of_faultShown (.inr rfl)

end Sys2Proof.Machine

namespace Sys2Proof.Machine

/-- Settles O4: the reset, the recoveries that complete, the attempts that are left, and the port's transfer. -/
theorem loadingStartsRecoversAndRetries : Obligations.LoadingStartsRecoversAndRetries := by
  unfold Obligations.LoadingStartsRecoversAndRetries
  refine ⟨fun s => rfl, ?recovery, fun s n cause hm hp hn => execRefusal_retry hm hp hn, rfl,
    fun s samples cause hm => ⟨execLineRecovery_elsewhere samples hm, execRefusal_elsewhere cause hm⟩⟩
  intro s n rest hm hp
  refine ⟨execLineRecovery_complete (samples := .dataHigh :: rest) hm hp rfl, fun k hk hk' hrest => ?_⟩
  obtain ⟨j, left, rfl, hj⟩ : ∃ j left, k = j + 1 ∧ left + 1 + j = 9 := ⟨k - 1, 9 - k, by omega, by omega⟩
  rw [← recoveryActs_high hj rest]
  exact execLineRecovery_complete hm hp (recoverLine_high hj hrest)

/-- Settles O5: each failed recovery, the fourth refusal and each fatal fault, and what the failed load shows. -/
theorem loadFails : Obligations.LoadFails := by
  unfold Obligations.LoadFails
  refine ⟨fun s n rest hm hp => ⟨?spent, fun k hk => ?clockLow, fun k hk hk' => ?stop⟩,
    fun s cause hm hp => execRefusal_last hm hp, fun s n block eyes hm hp hbad => ?block,
    fun s port => ⟨alertOutput_withFailedLoad s port, selectedLamp_withFailedLoad s port⟩⟩
  case spent =>
    rw [← recoveryActs_spent rest]
    exact execLineRecovery_failed hm hp (recoverLine_spent rest)
  case clockLow =>
    rw [← recoveryActs_clockLow hk rest]
    exact execLineRecovery_failed hm hp (recoverLine_clockLow hk rest)
  case stop =>
    obtain ⟨j, left, rfl, hj⟩ : ∃ j left, k = j + 1 ∧ left + 1 + j = 9 := ⟨k - 1, 9 - k, by omega, by omega⟩
    rw [← recoveryActs_high hj (.clockLow :: rest)]
    exact execLineRecovery_failed hm hp (recoverLine_high_clockLow hj rest)
  case block =>
    obtain ⟨f, hf⟩ := Option.ne_none_iff_exists'.mp (fun hnone => (blockFault_eq_none_iff block).mp hnone hbad)
    exact execTransfer_fault hm hp hf

end Sys2Proof.Machine
end

section
/-! PROOFS. The end of Loading (R126, R127, R146, R155, R173 to R175, R179): what is handed over with the
configuration, the hold set and the STAT with which the station starts, and the statement that joins them. -/

namespace Sys2Proof.Machine

variable {s : State} {eyes : LaneEyes} {holds : HoldSet}

/-! ## The hand-over (R126, R146, R173 to R175) -/

theorem handOver_eq (conf : Clamped Settings) (s : State) :
    handOver conf s = { s with
      loader := { s.loader with conf := some conf.1, locked := true, phase := .released }
      report := { s.report with
        alerts := conf.1.alerts
        flags := { s.report.flags with configClamped := s.report.flags.configClamped || conf.2 } }
      pace := { s.pace with interval := conf.1.intervalMax }
      launch := { s.launch with horizon := conf.1.path / conf.1.pitch + 1 + conf.1.margin } } := by
  obtain ⟨c, clamped⟩ := conf
  cases clamped with
  | true => rw [Bool.or_true]; rfl
  | false => rw [Bool.or_false]; rfl

/-! ## The state in which the station starts (R127, R155, R179) -/

/-- The eyes read, station control with a hold set, and the STAT in the transmit queue, when Loading has ended. -/
def State.started (s : State) (eyes : LaneEyes) (holds : HoldSet) : State :=
  { s with
    lane := { s.lane with
      measureEye := eyes.measure
      transferEye := eyes.transfer
      stageEye := eyes.stage
      exitEye := eyes.exit
      transferStray := false }
    station := { s.station with
      mode := if laneClear eyes then .idle else .faulted
      holds := holds
      cause := if laneClear eyes then .none else .laneNotClear }
    line := { s.line with queue := [.fresh .stat] } }

@[simp] theorem State.started_holds : (s.started eyes holds).station.holds = holds := rfl

theorem State.started_mode :
    (s.started eyes holds).station.mode = .idle ∨ (s.started eyes holds).station.mode = .faulted :=
  (Decidable.em (laneClear eyes = true)).imp (fun h => if_pos h) (fun h => if_neg h)

theorem active_started : active (s.started eyes holds) = true := by
  rcases State.started_mode (s := s) (eyes := eyes) (holds := holds) with hm | hm <;> simp [active, hm]

/-- An offer of a STAT changes nothing while one waits (R70). -/
theorem State.started_heldBy (h : HoldSet) : (s.started eyes holds).heldBy h = s.started eyes h := by
  have hwaits : (request .stat (s.started eyes holds)).line = (s.started eyes holds).line := by
    rw [request_eq]
    rfl
  rw [State.heldBy, hwaits]
  rfl

/-- Outside Running and Holding a cause joins the hold set and nothing else changes (R156). -/
theorem addHold_started {c : HoldCause} (hc : holds.has c = false) :
    addHold c (s.started eyes holds) = s.started eyes (holds.put true c) := by
  have hrest : (s.started eyes holds).station.mode ≠ .running := by
    rcases State.started_mode (s := s) (eyes := eyes) (holds := holds) with hm | hm <;> simp [hm]
  rw [addHold_keeps_mode active_started hc (fun h => hrest h.1)]
  exact State.started_heldBy _

theorem removeHold_started {c : HoldCause} (hc : holds.has c = false) :
    removeHold c (s.started eyes holds) = s.started eyes holds := by
  simp [removeHold, hc]

/-- H is reported against a hold set that holds TRACKING alone (R127). -/
theorem reportHorizon_started :
    reportHorizon (s.started eyes ⟨false, true, false, false⟩) =
      s.started eyes ⟨false, true, false, decide (s.cfg.window - 1 < s.launch.horizon)⟩ := by
  rw [reportHorizon]
  split
  case isTrue h => rw [addHold_started rfl, decide_eq_true (show s.cfg.window - 1 < s.launch.horizon from h)]; rfl
  case isFalse h => rw [removeHold_started rfl, decide_eq_false (show ¬ s.cfg.window - 1 < s.launch.horizon from h)]

/-- The station state changes and a STAT is offered (R155, R179). -/
theorem offerStat_at_end (hc : s.station.cause = .none) (hq : s.line.queue = []) :
    offerStat ((readEyes eyes s).withStation
      (if laneClear eyes then { s.station with mode := .idle }
        else { s.station with mode := .faulted, cause := .laneNotClear })) =
      s.started eyes s.station.holds := by
  have hfirst : requested .stat s.line.queue = [.fresh .stat] := by rw [hq]; rfl
  rw [offerStat_eq, State.started]
  cases laneClear eyes with
  | true => simp [active, hfirst, readEyes, hc]
  | false => simp [active, hfirst, readEyes]

theorem endLoading_eq (hc : s.station.cause = .none) (hh : s.station.holds = ⟨false, false, false, false⟩)
    (hq : s.line.queue = []) :
    endLoading eyes s =
      s.started eyes ⟨false, true, false, decide (s.cfg.window - 1 < s.launch.horizon)⟩ := by
  have htracking : addHold .tracking (s.started eyes s.station.holds) =
      s.started eyes ⟨false, true, false, false⟩ := by
    rw [hh]
    exact addHold_started rfl
  rw [endLoading, offerStat_at_end hc hq, htracking, reportHorizon_started]

end Sys2Proof.Machine

namespace Sys2Proof.Machine

/-- Settles O6: the hand-over, then the start of the station on what is handed over. -/
theorem goodBlockEndsLoading : Obligations.GoodBlockEndsLoading := by
  unfold Obligations.GoodBlockEndsLoading
  intro s n block eyes hm hp hgood hc hh hq
  have hstation : (handOver (readSettings block) (setPort transferActs s)).station = s.station := by simp
  have hline : (handOver (readSettings block) (setPort transferActs s)).line = s.line := by simp
  show execTransfer block eyes s = _
  rw [execTransfer_good hm hp hgood, endLoading_eq (by rw [hstation, hc]) (by rw [hstation, hh]) (by rw [hline, hq]),
    handOver_eq]
  rfl

end Sys2Proof.Machine
end

section
/-! PROOFS. The configuration through every step (R175): what the loader's own commands can do, what no other
command touches, and the statement that joins them. -/

namespace Sys2Proof.Machine

variable {s t : State} {c : Instr}

/-! ## The loader's own commands (R168 to R175) -/

/-- The commands on the memory port. -/
def Instr.onMemoryPort : Instr → Bool
  | .lineRecovery _ | .refusal _ | .transfer _ _ => true
  | _ => false

/-- All that a command on the memory port can do. -/
inductive LoaderStep (s : State) : State → Prop where
  | still : LoaderStep s s
  | attempt (phase : LoaderPhase) (port : List PortAct) (hm : s.station.mode = .loading) :
      LoaderStep s { s with loader := { s.loader with phase := phase, port := port } }
  | failed (port : List PortAct) (hm : s.station.mode = .loading) : LoaderStep s (s.withFailedLoad port)
  | loaded (block : Vector Byte 64) (eyes : LaneEyes) (hm : s.station.mode = .loading)
      (hgood : blockFault block = none) :
      LoaderStep s (endLoading eyes (handOver (readSettings block) (setPort transferActs s)))

theorem loaderStep_of_lineRecovery {samples : List RecoverySample} (h : execLineRecovery samples s = .next t) :
    LoaderStep s t := by
  unfold execLineRecovery at h
  split at h
  · rename_i hm hp
    split at h <;> cases h
    · exact .attempt _ _ hm
    · exact .failed _ hm
    · exact .still
  · cases h
    exact .still

theorem loaderStep_of_refusal {cause : RefusalCause} (h : execRefusal cause s = .next t) : LoaderStep s t := by
  unfold execRefusal at h
  split at h
  · rename_i hm hp
    split at h <;> cases h
    · exact .attempt _ _ hm
    · exact .failed _ hm
  · cases h
    exact .still

theorem loaderStep_of_transfer {block : Vector Byte 64} {eyes : LaneEyes}
    (h : execTransfer block eyes s = .next t) : LoaderStep s t := by
  unfold execTransfer at h
  dsimp only at h
  split at h
  · rename_i hm hp
    split at h <;> cases h
    · exact .failed _ hm
    · exact .loaded block eyes hm ‹_›
  · cases h
    exact .still

theorem loaderStep_of_exec (hc : Instr.onMemoryPort c = true) (h : exec c s = .next t) : LoaderStep s t := by
  cases c
  case lineRecovery => exact loaderStep_of_lineRecovery h
  case refusal => exact loaderStep_of_refusal h
  case transfer => exact loaderStep_of_transfer h
  all_goals exact nomatch hc

/-! ## What the other commands leave (R175) -/

/-- The next state, where there is one, has the property. -/
def Leads (P : State → Prop) (o : Host.Outcome State Fault Refusal) : Prop := ∀ t, o = .next t → P t

@[simp] theorem leads_next {P : State → Prop} : Leads P (.next t) ↔ P t :=
  ⟨fun h => h t rfl, fun h _ ht => by cases ht; exact h⟩

@[simp] theorem leads_refused {P : State → Prop} {r : Refusal} : Leads P (.refused r) := fun _ h => nomatch h

theorem receiveFrame_loader {a : Arrival} {bits : Bits} {take : State → State}
    (h : ∀ x, (take x).loader = x.loader) : (receiveFrame a bits take s).loader = s.loader := by
  unfold receiveFrame
  split
  · split <;> simp [h]
  · rfl

theorem receiveBank_loader {order : Nat} {frame : Heard Bits} {act : Bits → State → State}
    (h : ∀ bits x, (act bits x).loader = x.loader) :
    Leads (fun t => t.loader = s.loader) (receiveBank order frame act s) := by
  unfold receiveBank
  dsimp only
  split
  · exact leads_refused
  · refine leads_next.mpr (receiveFrame_loader fun x => ?_)
    split
    · exact h _ x
    · rfl

/-- No command but the loader's own reaches the loader. -/
theorem exec_leaves_loader (hr : c ≠ .powerOnReset) (hc : Instr.onMemoryPort c = false) :
    Leads (fun t => t.loader = s.loader) (exec c s) := by
  cases c
  case powerOnReset => exact absurd rfl hr
  case lineRecovery | refusal | transfer => exact nomatch hc
  case placeEyeFrontEdge | measureEyeFrontEdge | measureEyeClearing | transferEyeFrontEdge | transferEyeClearing
      | stageEyeFrontEdge | stageEyeClearing | exitEyeFrontEdge | exitEyeClearing | stallTimerRunsOut =>
    dsimp only [exec, execPlaceEyeFrontEdge, execMeasureEyeFrontEdge, execMeasureEyeClearing,
      execTransferEyeFrontEdge, execTransferEyeClearing, execStageEyeFrontEdge, execStageEyeClearing,
      execExitEyeFrontEdge, execExitEyeClearing, execStallTimerRunsOut]
    repeat' split
    all_goals simp
  case scanRecord chars =>
    dsimp only [exec, execScanRecord]
    split <;> simp [foldl_loader takeChar]
  case scanWindowRunsOut | trayEdgeEvent | confirmEyeBlocked | timeout =>
    dsimp only [exec, execScanWindowRunsOut, execTrayEdgeEvent, execConfirmEyeBlocked, execTimeout]
    split <;> simp
  case launchMoment | exitWindowClosing =>
    dsimp only [exec, execLaunchMoment, execExitWindowClosing]
    repeat' split
    all_goals simp
  case joiningEnds | frameBegin | lostArbitration | bitError | bitTimingError | lineFault | lineConditionNormal
      | claimCompletion | holdCompletion | frameCompletion =>
    dsimp only [exec, execJoiningEnds, execFrameBegin, execLostArbitration, execBitError, execBitTimingError,
      execLineFault, execLineConditionNormal, execClaimCompletion, execHoldCompletion, execFrameCompletion]
    repeat' split
    all_goals simp
  case claimNotice =>
    refine leads_next.mpr (receiveFrame_loader fun x => ?_)
    dsimp only
    split <;> simp
  case holdNotice | vacateNotice | demandNotice | statNotice | unknownKindFrame =>
    exact leads_next.mpr (receiveFrame_loader fun x => by simp)
  case bankHold | bankResume | bankPace =>
    dsimp only [exec, execBankHold, execBankResume, execBankPace]
    refine receiveBank_loader fun bits x => ?_
    simp
  case start | stop | clear | paceTimerRunsOut | faultBlinkPhase | faultBlinkEnd =>
    dsimp only [exec, execStart, execStop, execClear, execPaceTimerRunsOut, execFaultBlinkPhase, execFaultBlinkEnd]
    repeat' split
    all_goals simp

/-! ## While the blocks do not run (R1, R36, R54, R151) -/

theorem takesLaneEvents_of_inactive (h : active s = false) : takesLaneEvents s = false := by
  cases hm : s.station.mode <;> simp_all [active, takesLaneEvents]

theorem drawing_of_inactive (h : active s = false) : drawing s = false := by
  cases hm : s.station.mode <;> simp_all [active, drawing]

theorem reportJam_inactive (z : Zone) (h : active s = false) : (reportJam z s).station = s.station := by
  have hm : s.station.mode ≠ .faulted := fun hm => by simp [active, hm] at h
  have htakes : takesLaneEvents (setFlag .jam s) = false := takesLaneEvents_of_inactive h
  simp [reportJam, reportFault, htakes, hm]

theorem receiveFrame_inactive {a : Arrival} {bits : Bits} {take : State → State} (h : active s = false) :
    receiveFrame a bits take s = s := by
  simp [receiveFrame, completes, receives, h]

/-- Before the end of Loading no command but the loader's own changes the station state. -/
theorem exec_inactive_leaves_station (hr : c ≠ .powerOnReset) (hc : Instr.onMemoryPort c = false)
    (h : active s = false) : Leads (fun t => t.station = s.station) (exec c s) := by
  have htakes := takesLaneEvents_of_inactive h
  have hlane (x : Lane) : takesLaneEvents (s.withLane x) = false := htakes
  have hdrawing := drawing_of_inactive h
  cases c
  case powerOnReset => exact absurd rfl hr
  case lineRecovery | refusal | transfer => exact nomatch hc
  case placeEyeFrontEdge | measureEyeFrontEdge | measureEyeClearing | transferEyeFrontEdge | transferEyeClearing
      | stageEyeFrontEdge | stageEyeClearing | exitEyeFrontEdge | exitEyeClearing =>
    simp only [exec, execPlaceEyeFrontEdge, execMeasureEyeFrontEdge, execMeasureEyeClearing,
      execTransferEyeFrontEdge, execTransferEyeClearing, execStageEyeFrontEdge, execStageEyeClearing,
      execExitEyeFrontEdge, execExitEyeClearing, htakes, hlane, Bool.false_and, Bool.false_eq_true, if_false]
    repeat' split
    all_goals simp
  case stallTimerRunsOut =>
    dsimp only [exec, execStallTimerRunsOut]
    split <;> simp [reportJam_inactive _ h]
  case scanRecord | scanWindowRunsOut | trayEdgeEvent | confirmEyeBlocked | timeout | joiningEnds | lineFault
      | lineConditionNormal =>
    simp [exec, execScanRecord, execScanWindowRunsOut, execTrayEdgeEvent, execConfirmEyeBlocked, execTimeout,
      execJoiningEnds, execLineFault, execLineConditionNormal, h, hdrawing]
  case bitTimingError =>
    simp [exec, execBitTimingError, receives, h]
  case launchMoment | exitWindowClosing =>
    dsimp only [exec, execLaunchMoment, execExitWindowClosing]
    repeat' split
    all_goals simp [reportJam_inactive _ h]
  case frameBegin | lostArbitration | bitError | claimCompletion | holdCompletion | frameCompletion =>
    dsimp only [exec, execFrameBegin, execLostArbitration, execBitError, execClaimCompletion, execHoldCompletion,
      execFrameCompletion]
    repeat' split
    all_goals simp
  case claimNotice | holdNotice | vacateNotice | demandNotice | statNotice | unknownKindFrame =>
    exact leads_next.mpr (congrArg State.station (receiveFrame_inactive h))
  case bankHold | bankResume | bankPace =>
    dsimp only [exec, execBankHold, execBankResume, execBankPace, receiveBank]
    split <;> simp [receiveFrame_inactive h]
  case start | stop | clear | paceTimerRunsOut =>
    simp [exec, execStart, execStop, execClear, execPaceTimerRunsOut, pressTaken, h, hdrawing]
  case faultBlinkPhase | faultBlinkEnd =>
    dsimp only [exec, execFaultBlinkPhase, execFaultBlinkEnd]
    repeat' split
    all_goals simp

/-! ## The lock and the configuration (R168, R172, R173, R175) -/

theorem active_congr (h : t.station.mode = s.station.mode) : active t = active s := by
  simp only [active, h]

theorem active_of_loading (h : s.station.mode = .loading) : active s = false := by
  simp [active, h]

/-- The loader's configuration and lock are kept, and the blocks run only where they ran. -/
theorem LoaderSound.of_kept (hs : LoaderSound s) (hconf : t.loader.conf = s.loader.conf)
    (hlock : t.loader.locked = s.loader.locked) (hrun : active t = true → active s = true) : LoaderSound t where
  lock := by rw [hlock, hconf, hs.lock]
  loaded ht := by rw [hconf, hs.loaded (hrun ht)]
  range c hc := hs.range c (hconf ▸ hc)

theorem LoaderSound.of_unloaded (hconf : t.loader.conf = none) (hlock : t.loader.locked = false)
    (hrun : active t = false) : LoaderSound t where
  lock := by rw [hlock, hconf]; rfl
  loaded ht := absurd ht (by simp [hrun])
  range c hc := by rw [hconf] at hc; exact nomatch hc

theorem LoaderSound.of_loaded {c : Settings} (hconf : t.loader.conf = some c) (hlock : t.loader.locked = true)
    (hrange : SettingsInRange c) : LoaderSound t where
  lock := by rw [hlock, hconf]; rfl
  loaded _ := by rw [hconf]; rfl
  range d hd := by rw [hconf] at hd; cases hd; exact hrange

theorem LoaderStep.keeps_loaderSound (h : LoaderStep s t) (hs : LoaderSound s) : LoaderSound t := by
  cases h with
  | still => exact hs
  | attempt => exact hs.of_kept rfl rfl id
  | failed => exact .of_unloaded rfl rfl rfl
  | loaded block eyes hm hgood =>
    refine .of_loaded (c := (readSettings block).1) ?_ ?_ (readSettings_inRange hgood) <;>
      simp [handOver_eq]

/-- From the end of Loading the commands on the memory port do nothing. -/
theorem LoaderStep.eq_of_active (h : LoaderStep s t) (ha : active s = true) : t = s := by
  cases h with
  | still => rfl
  | attempt _ _ hm | failed _ hm | loaded _ _ hm => simp [active_of_loading hm] at ha

theorem exec_keeps_loaderSound (h : exec c s = .next t) (hs : LoaderSound s) : LoaderSound t := by
  by_cases hr : c = .powerOnReset
  · subst hr
    cases h
    exact .of_unloaded rfl rfl rfl
  by_cases hc : Instr.onMemoryPort c = true
  · exact (loaderStep_of_exec hc h).keeps_loaderSound hs
  rw [Bool.not_eq_true] at hc
  have hloader := exec_leaves_loader hr hc t h
  refine hs.of_kept (congrArg Loader.conf hloader) (congrArg Loader.locked hloader) fun ht => ?_
  cases ha : active s with
  | true => rfl
  | false =>
    have hstation := exec_inactive_leaves_station hr hc ha t h
    rw [← ha, ← active_congr (congrArg Station.mode hstation), ht]

theorem exec_keeps_loader (h : exec c s = .next t) (ha : active s = true) (hr : c ≠ .powerOnReset) :
    t.loader = s.loader := by
  by_cases hc : Instr.onMemoryPort c = true
  · rw [(loaderStep_of_exec hc h).eq_of_active ha]
  · exact exec_leaves_loader hr (Bool.not_eq_true _ ▸ hc) t h

theorem tick_keeps_loaderSound (hs : LoaderSound s) : LoaderSound (tick s) :=
  hs.of_kept (by simp) (by simp) (fun ht => by rwa [active_congr (s := s) (by simp)] at ht)

/-- A step is a tick or the command at the front of the queue. -/
theorem step_cases (h : step s = .next t) :
    (s.pending = [] ∧ t = tick s) ∨ ∃ c rest, s.pending = c :: rest ∧ exec c (s.withPending rest) = .next t := by
  unfold step at h
  split at h
  · cases h
    exact .inl ⟨‹_›, rfl⟩
  · exact .inr ⟨_, _, ‹_›, h⟩

end Sys2Proof.Machine

namespace Sys2Proof.Machine

/-- Settles O57, by the cases of a step: a tick, the loader's own commands, and those that do not reach it. -/
theorem everyStepKeepsTheConfiguration : Obligations.EveryStepKeepsTheConfiguration := by
  unfold Obligations.EveryStepKeepsTheConfiguration
  intro s t h
  rcases step_cases h with ⟨-, rfl⟩ | ⟨c, rest, hq, hexec⟩
  · exact ⟨tick_keeps_loaderSound, fun _ _ => by simp⟩
  · refine ⟨fun hs => exec_keeps_loaderSound hexec (hs.of_kept rfl rfl id), fun ha hhead => ?_⟩
    have hr : c ≠ .powerOnReset := fun hr => hhead (by rw [hq, hr]; rfl)
    exact exec_keeps_loader (s := s.withPending rest) hexec ha hr

end Sys2Proof.Machine
end

section
/-! PROOFS. The state after power-on reset (R14, R61, R68, R94, R168, R178), block by block, and the statement that
joins the blocks. -/

namespace Sys2Proof.Machine

/-! ## The lane, the records and the belts (R5, R14, R19) -/

theorem laneBounds_reset : LaneBounds State.reset.lane where
  queue := by decide
  place := by decide
  stray := nofun

theorem not_mem_queue_reset (r : Parcel) : r ∉ State.reset.lane.queue := List.not_mem_nil

theorem parcelsSound_reset : ParcelsSound State.reset where
  before _ := rfl
  measuring := Nat.zero_le _
  blocked _ r hr := absurd hr (not_mem_queue_reset r)
  numbered r hr := absurd hr (not_mem_queue_reset r)
  stage := Nat.zero_le _
  resting r hr := absurd hr (not_mem_queue_reset r)
  launching := Nat.zero_le _
  committed r hr := absurd hr (not_mem_queue_reset r)
  commitment _ hk := nomatch hk
  launched r hr := absurd hr (not_mem_queue_reset r)
  flight _ hf := nomatch hf
  slot r hr := absurd hr (not_mem_queue_reset r)

theorem beltsSound_reset : BeltsSound State.reset where
  settled := rfl
  stall z := by cases z <;> rfl
  commitment _ := rfl
  flight _ := rfl
  holders _ := ⟨rfl, rfl⟩

/-! ## The tracker and the window (R40, R76, R94) -/

theorem trackerSound_reset : TrackerSound State.reset.tracker where
  history := by decide
  timer := nofun
  count := rfl
  full h := absurd rfl h

theorem windowAligned_reset : WindowAligned State.reset where
  before _ := rfl
  count := rfl
  empty _ := rfl
  aligned := nofun

theorem pendingSound_reset : PendingSound State.reset where
  empty _ := rfl
  beyond := nofun
  order := nofun
  single := .nil

/-! ## The share unit (R98, R120) -/

theorem peerBounds_unheard : PeerBounds .unheard where
  backlog := by decide
  starve := by decide
  age := by decide
  lapses := by decide

theorem shareBounds_reset : ShareBounds State.reset.share where
  peers := rfl
  peer _ hp := List.eq_of_mem_replicate hp ▸ peerBounds_unheard
  share := by decide
  credit := by decide
  starve := by decide
  epoch := by decide
  free := by decide
  last := by decide
  upper := by decide
  lower := by decide
  held := by decide

/-! ## The line interface (R57, R61, R68) -/

theorem queueLimits_reset : QueueLimits State.reset.line.queue where
  claim := Nat.zero_le _
  demand := Nat.zero_le _
  stat := Nat.zero_le _
  shared := Nat.zero_le _

theorem assemblerSound_reset : AssemblerSound State.reset.line where
  bits _ := rfl
  passage := nofun
  faulted := nofun

/-! ## Station control and the report unit (R167, R178 to R180) -/

theorem stationSound_reset : StationSound State.reset where
  tracking := nofun
  line := nofun
  horizon := nofun
  before _ := ⟨rfl, rfl, rfl⟩
  running := nofun
  holding := nofun
  faulted := by decide
  again := nofun

theorem reportBounds_reset : ReportBounds State.reset.report where
  counters c := by cases c <;> exact Nat.zero_le _
  interval := by decide
  group := by decide

end Sys2Proof.Machine

namespace Sys2Proof.Machine

/-- Settles O54, block by block. -/
theorem resetIsSound : Obligations.ResetIsSound := by
  unfold Obligations.ResetIsSound
  exact ⟨laneBounds_reset, ⟨Nat.zero_le _⟩, shareBounds_reset, queueLimits_reset, rfl, assemblerSound_reset,
    parcelsSound_reset, pendingSound_reset, reportBounds_reset, ⟨Nat.zero_le _, Nat.zero_le _⟩, trackerSound_reset,
    .of_unloaded rfl rfl rfl, windowAligned_reset, stationSound_reset, beltsSound_reset⟩

end Sys2Proof.Machine
end

section
/-! PROOFS. A step on a queue that holds a command (log entry 1), and the statement on the front command. -/

namespace Sys2Proof.Machine

/-- The equation of a step on a queue that holds a command; `step_cases` is its inversion. -/
theorem step_of_pending_cons {s : State} {c : Instr} {rest : List Instr} (hq : s.pending = c :: rest) :
    step s = exec c (s.withPending rest) := by
  unfold step
  rw [hq]

end Sys2Proof.Machine

namespace Sys2Proof.Machine

/-- Settles O1: the command is taken off the queue before it runs, and setting the queue twice sets it once. -/
theorem stepRunsTheFrontCommand : Obligations.StepRunsTheFrontCommand := by
  unfold Obligations.StepRunsTheFrontCommand
  intro c rest s
  calc step (s.withPending (c :: rest))
      = exec c ((s.withPending (c :: rest)).withPending rest) := step_of_pending_cons (s.withPending_pending _)
    _ = exec c (s.withPending rest) := by rw [State.withPending_withPending]

end Sys2Proof.Machine
end

section
/-! PROOFS. The share unit's figures and the pace bounds through every step (R75, R98 to R120, R145): each
operation that changes the share unit keeps the figures, and so does every command. -/

namespace Sys2Proof.Machine

variable {s t : State} {c : Instr}

/-! ## The figures after a change of one of them -/

theorem bitsNat_lt (bits : Bits) : bitsNat bits < 2 ^ bits.length := by
  have main : ∀ (bs : Bits) (n k : Nat), n < 2 ^ k →
      bs.foldl (fun n b => 2 * n + b.toNat) n < 2 ^ (k + bs.length) := by
    intro bs
    induction bs with
    | nil => exact fun n k h => h
    | cons b bs ih =>
      intro n k h
      have hb : b.toNat ≤ 1 := Bool.toNat_le b
      have hstep : 2 * n + b.toNat < 2 ^ (k + 1) := by rw [Nat.pow_succ]; omega
      have := ih _ _ hstep
      rwa [List.length_cons, Nat.add_comm bs.length, ← Nat.add_assoc]
  simpa [bitsNat] using main bits 0 0 (by decide)

theorem field_lt (bits : Bits) (a w : Nat) : field bits a w < 2 ^ w :=
  Nat.lt_of_lt_of_le (bitsNat_lt _) (Nat.pow_le_pow_right (by decide) (by simp [List.length_take]))

theorem PeerBounds.unheard : PeerBounds .unheard := ⟨by decide, by decide, by decide, by decide⟩

theorem PeerBounds.grow {p : Peer} (hp : PeerBounds p) : PeerBounds p.grow := by
  unfold Peer.grow
  split
  · exact hp
  · split
    · exact { hp with age := Nat.le_of_lt ‹_› }
    · exact { hp with age := Nat.le_refl _ }
  · split
    · exact { hp with age := Nat.le_of_lt ‹_› }
    · exact { hp with age := Nat.le_refl _ }

theorem PeerBounds.lapse {p : Peer} (hp : PeerBounds p) : PeerBounds p.lapse :=
  { hp with lapses := Nat.min_le_right _ _ }

theorem PeerBounds.accept {p : Peer} (trays : Nat) (d : DemandReport) (hd : d.starve ≤ 255)
    (hp : PeerBounds p) : PeerBounds (p.accept trays d) where
  backlog := Nat.min_le_right _ _
  starve := hd
  age := Nat.zero_le _
  lapses := by
    have := hp.lapses
    unfold Peer.accept
    cases p.presence
    · exact Nat.zero_le _
    · exact this
    · exact this

theorem PeerBounds.forgiven {p : Peer} (hp : PeerBounds p) : PeerBounds { p with lapses := 0 } :=
  { hp with lapses := Nat.zero_le _ }

theorem PeerBounds.pardoned {p : Peer} (hp : PeerBounds p) :
    PeerBounds { p with presence := .active, lapses := 0 } :=
  { hp with lapses := Nat.zero_le _ }

theorem PeerBounds.contradicted {p : Peer} (hp : PeerBounds p) :
    PeerBounds { p with presence := .absent, offset := none } :=
  { hp with }

/-- A placed-hold list that is no longer. -/
theorem ShareBounds.of_held {h : Share} (hs : ShareBounds h) {l : List PlacedHold} (hl : l.length ≤ h.held.length) :
    ShareBounds { h with held := l } :=
  { hs with held := Nat.le_trans hl hs.held }

theorem updatePeer_shareBounds {k : LaneOrdinal} {f : Peer → Peer} (hf : ∀ p, PeerBounds p → PeerBounds (f p))
    (hs : ShareBounds s.share) : ShareBounds (updatePeer k f s).share :=
  { hs with
    peers := by simpa [updatePeer] using hs.peers
    peer := fun p hp => by
      obtain ⟨i, hi⟩ := List.mem_iff_getElem?.mp (show p ∈ s.share.peers.modify k f from hp)
      rw [List.getElem?_modify] at hi
      obtain ⟨q, hq, rfl⟩ := Option.map_eq_some_iff.mp hi
      have hb := hs.peer q (List.mem_of_getElem? hq)
      split
      · exact hf q hb
      · exact hb }

/-! ## The operations of the line, the launch unit and station control -/

@[simp] theorem dropHeld_shareBounds (d : Tray) (hs : ShareBounds s.share) : ShareBounds (dropHeld d s).share :=
  hs.of_held (List.length_filter_le _ _)

@[simp] theorem offerVacate_shareBounds (d : Tray) (span : Span) (hs : ShareBounds s.share) :
    ShareBounds (offerVacate d span s).share := by
  unfold offerVacate
  split
  · simp [hs]
  · split <;> simp [hs]

@[simp] theorem addCredit_shareBounds (n : Nat) (hs : ShareBounds s.share) : ShareBounds (addCredit n s).share :=
  { hs with credit := Nat.min_le_right _ _ }

@[simp] theorem dropCommitment_shareBounds (hs : ShareBounds s.share) : ShareBounds (dropCommitment s).share := by
  unfold dropCommitment
  split
  · exact hs
  · split <;> simp [hs]

@[simp] theorem enterFaulted_shareBounds (cause : FaultCause) (hs : ShareBounds s.share) :
    ShareBounds (enterFaulted cause s).share := by
  simp [enterFaulted, hs]

@[simp] theorem reportFault_shareBounds (cause : FaultCause) (hs : ShareBounds s.share) :
    ShareBounds (reportFault cause s).share := by
  unfold reportFault
  split
  · simp [hs]
  · split <;> simp [hs]

@[simp] theorem reportJam_shareBounds (z : Zone) (hs : ShareBounds s.share) : ShareBounds (reportJam z s).share := by
  simp [reportJam, hs]

@[simp] theorem resync_shareBounds (hs : ShareBounds s.share) : ShareBounds (resync s).share := by
  have hempty : ShareBounds { s.share with credit := 0, held := [] } :=
    { hs with credit := Nat.zero_le _, held := Nat.zero_le _ }
  simp [resync, hempty]

@[simp] theorem commitClaim_shareBounds (r : Parcel) (e d : Tray) (span : Span) (cost : Nat)
    (hs : ShareBounds s.share) : ShareBounds (commitClaim r e d span cost s).share := by
  unfold commitClaim
  dsimp only
  split <;> simp [refuseClaim, hs]

@[simp] theorem withdraw_shareBounds (k : Commitment) (hs : ShareBounds s.share) :
    ShareBounds (withdraw k s).share := by
  simp [withdraw, hs]

@[simp] theorem lateConflict_shareBounds (hs : ShareBounds s.share) : ShareBounds (lateConflict s).share := by
  simp [lateConflict, hs]

@[simp] theorem governedAway_shareBounds (d : Tray) (hs : ShareBounds s.share) :
    ShareBounds (governedAway d s).share := by
  unfold governedAway
  repeat' split
  all_goals simp [hs]

@[simp] theorem takeVerdict_shareBounds (hs : ShareBounds s.share) : ShareBounds (takeVerdict s).share := by
  unfold takeVerdict
  repeat' split
  all_goals simp [hs]

@[simp] theorem launchEvent_shareBounds (reading : Option Bool) (hs : ShareBounds s.share) :
    ShareBounds (launchEvent reading s).share := by
  have hflight : ShareBounds (flightEvent reading s).share := by
    unfold flightEvent
    split
    · exact hs
    · dsimp only
      split
      · exact hs
      · exact takeVerdict_shareBounds hs
  simp [launchEvent, hflight]

@[simp] theorem reportDeadline_shareBounds (f : TxFrame) (hs : ShareBounds s.share) :
    ShareBounds (reportDeadline s f).share := by
  unfold reportDeadline
  repeat' split
  all_goals simp [hs]

/-- What every member of a list keeps, the list in turn keeps. -/
theorem foldl_keeps {α : Type} {P : State → Prop} {f : State → α → State} (h : ∀ s x, P s → P (f s x))
    (l : List α) : ∀ {s}, P s → P (l.foldl f s) := by
  induction l with
  | nil => exact id
  | cons x xs ih => exact fun hs => ih (h _ x hs)

@[simp] theorem lineEvent_shareBounds (last : Bool) (hs : ShareBounds s.share) :
    ShareBounds (lineEvent last s).share := by
  unfold lineEvent
  refine foldl_keeps (P := fun s => ShareBounds s.share) (fun u f hu => reportDeadline_shareBounds f hu) _ ?_
  dsimp only
  split <;> simp [hs]

/-! ## The operations of the window -/

@[simp] theorem placePart_shareBounds (offset : Nat) (p : Part) (hs : ShareBounds s.share) :
    ShareBounds (placePart offset p s).share := by
  have happly : ShareBounds (applyPart p s).share := by
    unfold applyPart
    repeat' split
    all_goals simp [hs]
  unfold placePart
  dsimp only
  repeat' split
  all_goals simp [hs, happly]

@[simp] theorem hearParts_shareBounds (k : LaneOrdinal) (valid : Bool) (parts : List Part)
    (hs : ShareBounds s.share) : ShareBounds (hearParts k valid parts s).share := by
  unfold hearParts
  split
  · exact hs
  · split
    · simp [hs]
    · split
      · exact foldl_keeps (P := fun s => ShareBounds s.share) (fun u p hu => placePart_shareBounds _ p hu) _ hs
      · exact hs

@[simp] theorem hearClaim_shareBounds (k : LaneOrdinal) (tray : Nat) (span : Span) (hs : ShareBounds s.share) :
    ShareBounds (hearClaim k tray span s).share := hearParts_shareBounds _ _ _ hs

@[simp] theorem hearVacate_shareBounds (k : LaneOrdinal) (tray : Nat) (span : Span) (hs : ShareBounds s.share) :
    ShareBounds (hearVacate k tray span s).share := hearParts_shareBounds _ _ _ hs

@[simp] theorem hearHold_shareBounds (k : LaneOrdinal) (tray : Nat) (j : LaneOrdinal) (hs : ShareBounds s.share) :
    ShareBounds (hearHold k tray j s).share := hearParts_shareBounds _ _ _ hs

/-! ## The share unit's own operations -/

theorem takeDemand_shareBounds (k : LaneOrdinal) {d : DemandReport} (hd : d.starve ≤ 255)
    (hs : ShareBounds s.share) : ShareBounds (takeDemand k d s).share := by
  unfold takeDemand
  split
  · simpa using updatePeer_shareBounds (fun _ hp => hp.contradicted) hs
  · exact updatePeer_shareBounds (fun _ hp => hp.accept _ _ hd) hs

theorem demandOf_starve_le (bits : Bits) : (demandOf bits).starve ≤ 255 :=
  Nat.le_of_lt_succ (field_lt bits 23 8)

@[simp] theorem agePeers_shareBounds (hs : ShareBounds s.share) : ShareBounds (agePeers s).share :=
  { hs with
    peers := by simpa [agePeers] using hs.peers
    peer := fun p hp => by
      obtain ⟨q, hq, rfl⟩ := List.mem_map.mp (show p ∈ s.share.peers.map Peer.grow from hp)
      exact (hs.peer q hq).grow }

theorem shareOf_le (floor w dw : Nat) : shareOf floor w dw ≤ 16 := by
  unfold shareOf
  split <;> omega

@[simp] theorem recomputeShare_shareBounds (hs : ShareBounds s.share) : ShareBounds (recomputeShare s).share :=
  { hs with share := shareOf_le _ _ _, last := hs.free, free := Nat.zero_le _ }

@[simp] theorem epochEvent_shareBounds (hs : ShareBounds s.share) : ShareBounds (epochEvent s).share := by
  have hcount := hs.epoch
  unfold epochEvent
  split
  · have hzero : ShareBounds { s.share with epochCount := 0 } := { hs with epoch := Nat.zero_lt_succ 7 }
    simp [epochBoundary, hzero]
  · rename_i hn
    refine { hs with epoch := ?_ }
    simp only [boundaryNext, Config.epochLength, beq_iff_eq] at hn hcount ⊢
    show s.share.epochCount + 1 < 8
    omega

theorem firstAfter_lt {n pointer k : Nat} {taken : Nat → Bool} (h : firstAfter n pointer taken = some k) : k < n := by
  obtain ⟨i, hi, rfl⟩ := List.mem_map.mp (List.mem_of_find?_eq_some h)
  exact Nat.mod_lt _ (by have := List.mem_range.mp hi; omega)

theorem firstAfter_taken {n pointer k : Nat} {taken : Nat → Bool} (h : firstAfter n pointer taken = some k) :
    taken k = true := List.find?_some h

/-- A choice stands within the rotations; one at place 15 names a station. -/
theorem chooseTarget_bounds {x : Choice} (h : chooseTarget s = some x) :
    x.position ≤ 15 ∧ (x.position = 15 → x.target ≤ 14) := by
  unfold chooseTarget at h
  split at h
  · cases h
  · rename_i p hp
    have hlt := firstAfter_lt hp
    split at h
    · obtain ⟨k, hk, rfl⟩ := Option.map_eq_some_iff.mp h
      exact ⟨Nat.le_refl _, fun _ => Nat.le_of_lt_succ (firstAfter_lt hk)⟩
    · cases h
      rename_i hne
      exact ⟨Nat.le_of_lt_succ hlt, fun he => absurd (beq_iff_eq.mpr he) hne⟩

@[simp] theorem yieldTray_shareBounds (d : Tray) (hs : ShareBounds s.share) : ShareBounds (yieldTray d s).share := by
  unfold yieldTray
  split
  · rename_i hroom
    simp only [Bool.and_eq_true, decide_eq_true_eq] at hroom
    split
    · rename_i x hx
      obtain ⟨hposition, htarget⟩ := chooseTarget_bounds hx
      have hplaced : ShareBounds { s.share with
          held := s.share.held ++ [⟨d, x.target, false, expiryOf s d x.target⟩]
          upper := x.position
          lower := if x.position == 15 then x.target else s.share.lower } :=
        { hs with
          held := by simpa using hroom.1.2
          upper := hposition
          lower := by
            dsimp only
            split
            · exact htarget (beq_iff_eq.mp ‹_›)
            · exact hs.lower }
      simpa [placeHold] using hplaced
    · exact hs
  · exact hs

@[simp] theorem raiseStarve_shareBounds (hs : ShareBounds s.share) : ShareBounds (raiseStarve s).share :=
  { hs with starve := Nat.min_le_right _ _ }

@[simp] theorem makeClaim_shareBounds (e d : Tray) (r : Parcel) (hs : ShareBounds s.share) :
    ShareBounds (makeClaim e d r s).share := by
  refine commitClaim_shareBounds _ _ _ _ _ ?_
  rw [foldl_share _ (fun u x => by simp)]
  exact { hs with credit := Nat.le_trans (Nat.sub_le _ _) hs.credit, starve := Nat.zero_le _ }

@[simp] theorem decideTray_shareBounds (e d : Tray) (hs : ShareBounds s.share) :
    ShareBounds (decideTray e d s).share := by
  have hcredit : ShareBounds (addCredit s.share.share (setDecided d s)).share :=
    addCredit_shareBounds _ (by simpa using hs)
  unfold decideTray starveSecond
  dsimp only
  repeat' split
  · exact yieldTray_shareBounds _ hcredit
  · exact makeClaim_shareBounds _ _ _ hcredit
  · exact yieldTray_shareBounds _ (raiseStarve_shareBounds hcredit)
  · exact yieldTray_shareBounds _ hcredit
  · exact hs
  · exact raiseStarve_shareBounds hs

@[simp] theorem recordLapse_shareBounds (j : LaneOrdinal) (hs : ShareBounds s.share) :
    ShareBounds (recordLapse j s).share := by
  have hlapse := updatePeer_shareBounds (k := j) (fun _ hp => hp.lapse) hs
  unfold recordLapse
  dsimp only
  split <;> simpa using hlapse

@[simp] theorem expireHolds_shareBounds (e : Tray) (hs : ShareBounds s.share) :
    ShareBounds (expireHolds e s).share :=
  foldl_keeps (P := fun s => ShareBounds s.share) (fun _ h hu => recordLapse_shareBounds h.target hu) _
    (hs.of_held (List.length_filter_le _ _))

@[simp] theorem takeDownstreamClaim_shareBounds (j : LaneOrdinal) (ts : List Tray) (hs : ShareBounds s.share) :
    ShareBounds (takeDownstreamClaim j ts s).share := by
  have hheld : ShareBounds (s.withShare { s.share with
      held := s.share.held.filter (fun h => !(h.target == j && ts.contains h.tray)) }).share :=
    hs.of_held (List.length_filter_le _ _)
  have hforgiven (u : State) (hu : ShareBounds u.share) :=
    updatePeer_shareBounds (k := j) (fun _ hp => hp.forgiven) hu
  have hpardoned (u : State) (hu : ShareBounds u.share) :=
    updatePeer_shareBounds (k := j) (fun _ hp => hp.pardoned) hu
  unfold takeDownstreamClaim
  dsimp only
  repeat' split
  · exact hpardoned _ (hforgiven _ hheld)
  · exact hforgiven _ hheld
  · exact hpardoned _ hheld
  · exact hheld

@[simp] theorem markHoldSent_shareBounds (d : Tray) (hs : ShareBounds s.share) :
    ShareBounds (markHoldSent d s).share :=
  hs.of_held (by simp)

@[simp] theorem countFree_shareBounds (d : Tray) (hs : ShareBounds s.share) : ShareBounds (countFree d s).share := by
  unfold countFree
  split
  · exact { hs with free := Nat.min_le_right _ _ }
  · exact hs

@[simp] theorem shareEvent_shareBounds (hs : ShareBounds s.share) : ShareBounds (shareEvent s).share := by
  unfold shareEvent
  split
  · simp [hs]
  · rename_i e _
    have hcounted (d : Tray) :
        ShareBounds (countFree d (passOver e s.launch.horizon (epochEvent (expireHolds e s)))).share :=
      countFree_shareBounds d (by simp [hs])
    dsimp only
    repeat' split
    all_goals simp [hs, hcounted]

/-! ## The tray edge event, the timeout and Clear -/

@[simp] theorem implausibleInterval_shareBounds (hs : ShareBounds s.share) :
    ShareBounds (implausibleInterval s).share := by
  unfold implausibleInterval
  dsimp only
  split <;> simp [resyncHold, hs]

@[simp] theorem takeTurn_shareBounds (turn : TrayTurn) (loaded : Bool) (hs : ShareBounds s.share) :
    ShareBounds (takeTurn turn loaded s).share := by
  unfold takeTurn
  split <;> simp [resyncHold, hs]

@[simp] theorem clearTogether_shareBounds (hs : ShareBounds s.share) : ShareBounds (clearTogether s).share := by
  have hempty : ShareBounds { s.share with credit := 0, held := [] } :=
    { hs with credit := Nat.zero_le _, held := Nat.zero_le _ }
  have hclear : ShareBounds (acceptClear s).share := by simp [acceptClear, hempty]
  unfold clearTogether
  split <;> simp [hclear]

theorem State.reset_shareBounds : ShareBounds State.reset.share where
  peers := List.length_replicate
  peer p hp := List.eq_of_mem_replicate hp ▸ .unheard
  share := Nat.zero_le _
  credit := Nat.zero_le _
  starve := Nat.zero_le _
  epoch := by decide
  free := Nat.zero_le _
  last := Nat.zero_le _
  upper := Nat.le_refl _
  lower := Nat.le_refl _
  held := Nat.zero_le _

/-! ## The commands -/

/-- A frame that completes does one of three things. -/
theorem leads_receiveFrame {P : State → Prop} {a : Arrival} {bits : Bits} {take : State → State} (hs : P s)
    (herror : P (frameError s)) (hclash : P (ordinalClash (awaitStart s))) (htake : P (take (awaitStart s))) :
    Leads P (.next (receiveFrame a bits take s)) := by
  rw [leads_next]
  unfold receiveFrame
  split
  · split <;> assumption
  · exact hs

theorem leads_receiveBank {P : State → Prop} {order : Nat} {frame : Heard Bits} {act : Bits → State → State}
    (hs : P s) (herror : P (frameError s)) (hclash : P (ordinalClash (awaitStart s))) (hwait : P (awaitStart s))
    (hact : ∀ bits, P (act bits (awaitStart s))) : Leads P (receiveBank order frame act s) := by
  unfold receiveBank
  dsimp only
  split
  · exact leads_refused
  · refine leads_receiveFrame hs herror hclash ?_
    split
    · exact hact _
    · exact hwait

/-- Every command keeps the share unit's figures. -/
theorem exec_keeps_shareBounds (hs : ShareBounds s.share) : Leads (fun t => ShareBounds t.share) (exec c s) := by
  have herror : ShareBounds (frameError s).share := by simp [hs]
  have hclash : ShareBounds (ordinalClash (awaitStart s)).share := by simp [ordinalClash, hs]
  have hjam (z : Zone) (x : Lane) : ShareBounds (reportJam z (s.withLane x)).share := reportJam_shareBounds z hs
  cases c
  case powerOnReset => exact leads_next.mpr (by simpa using State.reset_shareBounds)
  case lineRecovery | refusal | transfer =>
    dsimp only [exec, execLineRecovery, execRefusal, execTransfer]
    repeat' split
    all_goals simp [hs]
  case placeEyeFrontEdge | measureEyeFrontEdge | measureEyeClearing | transferEyeFrontEdge | transferEyeClearing
      | stageEyeFrontEdge | stageEyeClearing | exitEyeFrontEdge | exitEyeClearing | stallTimerRunsOut =>
    dsimp only [exec, execPlaceEyeFrontEdge, execMeasureEyeFrontEdge, execMeasureEyeClearing,
      execTransferEyeFrontEdge, execTransferEyeClearing, execStageEyeFrontEdge, execStageEyeClearing,
      execExitEyeFrontEdge, execExitEyeClearing, execStallTimerRunsOut]
    repeat' split
    all_goals simp [hs, hjam]
  case scanRecord chars =>
    dsimp only [exec, execScanRecord]
    split <;> simp [foldl_share takeChar, hs]
  case trayEdgeEvent =>
    dsimp only [exec, execTrayEdgeEvent]
    split
    · have hturn (turn : TrayTurn) (loaded confirm : Bool) :
          ShareBounds (takeTurn turn loaded (trackerTimes confirm (ageVacates s))).share := by simp [hs]
      simpa using lineEvent_shareBounds _ (launchEvent_shareBounds _ (shareEvent_shareBounds (hturn _ _ _)))
    · exact leads_next.mpr hs
  case scanWindowRunsOut | confirmEyeBlocked | timeout =>
    dsimp only [exec, execScanWindowRunsOut, execConfirmEyeBlocked, execTimeout]
    split <;> simp [hs]
  case launchMoment | exitWindowClosing =>
    dsimp only [exec, execLaunchMoment, execExitWindowClosing]
    repeat' split
    all_goals simp [hs]
  case joiningEnds | frameBegin | lostArbitration | bitError | bitTimingError | lineFault | lineConditionNormal
      | claimCompletion | holdCompletion | frameCompletion =>
    dsimp only [exec, execJoiningEnds, execFrameBegin, execLostArbitration, execBitError, execBitTimingError,
      execLineFault, execLineConditionNormal, execClaimCompletion, execHoldCompletion, execFrameCompletion]
    repeat' split
    all_goals simp [hs]
  case claimNotice =>
    refine leads_receiveFrame hs herror hclash ?_
    dsimp only
    split <;> simp [hs]
  case demandNotice =>
    exact leads_receiveFrame hs herror hclash
      (takeDemand_shareBounds _ (demandOf_starve_le _) (by simpa using hs))
  case holdNotice | vacateNotice | statNotice | unknownKindFrame =>
    exact leads_receiveFrame hs herror hclash (by simp [hs])
  case bankHold | bankResume | bankPace =>
    dsimp only [exec, execBankHold, execBankResume, execBankPace]
    exact leads_receiveBank hs herror hclash (by simpa using hs) (fun bits => by simpa using hs)
  case start | stop | clear | paceTimerRunsOut | faultBlinkPhase | faultBlinkEnd =>
    dsimp only [exec, execStart, execStop, execClear, execPaceTimerRunsOut, execFaultBlinkPhase, execFaultBlinkEnd]
    repeat' split
    all_goals simp [hs]

/-! ## The pace bounds (R75, R145) -/

theorem LoaderSound.cfg_inRange (hs : LoaderSound s) (ha : active s = true) : SettingsInRange s.cfg := by
  obtain ⟨c, hc⟩ := Option.isSome_iff_exists.mp (hs.loaded ha)
  simpa [State.cfg, hc] using hs.range c hc

theorem recomputeInterval_paceBounds (hc : SettingsInRange s.cfg) (hp : PaceBounds s.pace) :
    PaceBounds (recomputeInterval s).pace :=
  { hp with interval := (effectiveInterval_mem _ _ hc).2 }

@[simp] theorem shareEvent_paceBounds (hc : SettingsInRange s.cfg) (hp : PaceBounds s.pace) :
    PaceBounds (shareEvent s).pace := by
  have hepoch {u : State} (hcu : SettingsInRange u.cfg) (hu : PaceBounds u.pace) :
      PaceBounds (epochEvent u).pace := by
    unfold epochEvent
    split
    · simpa [epochBoundary] using recomputeInterval_paceBounds
        (s := recomputeHorizon (recomputeShare (agePeers (request .demand (u.withShare { u.share with epochCount := 0 })))))
        (by simpa using hcu) (by simpa using hu)
    · exact hu
  unfold shareEvent
  split
  · exact hepoch hc hp
  · rename_i e _
    have hpassed : PaceBounds (epochEvent (expireHolds e s)).pace := hepoch (by simpa using hc) (by simpa using hp)
    dsimp only
    repeat' split
    all_goals simp [hpassed]

theorem setPaceLimit_paceBounds (limit : Nat) (hp : PaceBounds s.pace) : PaceBounds (setPaceLimit limit s).pace :=
  { hp with limit := Nat.min_le_right _ _ }

theorem exec_keeps_paceBounds (hl : LoaderSound s) (hp : PaceBounds s.pace) :
    Leads (fun t => PaceBounds t.pace) (exec c s) := by
  have herror : PaceBounds (frameError s).pace := by simp [hp]
  have hclash : PaceBounds (ordinalClash (awaitStart s)).pace := by simp [ordinalClash, hp]
  have htimer (x : Option Ticks) (b : Option Blink) : PaceBounds { s.pace with timer := x, blink := b } := { hp with }
  cases c
  case powerOnReset => exact leads_next.mpr ⟨Nat.zero_le _, Nat.zero_le _⟩
  case lineRecovery | refusal =>
    dsimp only [exec, execLineRecovery, execRefusal]
    repeat' split
    all_goals simp [hp]
  case transfer =>
    dsimp only [exec, execTransfer]
    repeat' split
    · simp [hp]
    · rename_i hgood
      have hloaded (f : Settings) (hf : f.intervalMax ≤ 30000) :
          PaceBounds { s.pace with interval := f.intervalMax } :=
        { hp with interval := Nat.le_trans hf (by decide) }
      simp [handOver_eq, hloaded _ (readSettings_inRange hgood).intervalMax.2]
    · exact leads_next.mpr hp
  case placeEyeFrontEdge | measureEyeFrontEdge | measureEyeClearing | transferEyeFrontEdge | transferEyeClearing
      | stageEyeFrontEdge | stageEyeClearing | exitEyeFrontEdge | exitEyeClearing | stallTimerRunsOut =>
    dsimp only [exec, execPlaceEyeFrontEdge, execMeasureEyeFrontEdge, execMeasureEyeClearing,
      execTransferEyeFrontEdge, execTransferEyeClearing, execStageEyeFrontEdge, execStageEyeClearing,
      execExitEyeFrontEdge, execExitEyeClearing, execStallTimerRunsOut]
    repeat' split
    all_goals simp [hp, restartPace, htimer]
  case scanRecord chars =>
    dsimp only [exec, execScanRecord]
    split <;> simp [foldl_pace takeChar, hp]
  case trayEdgeEvent =>
    dsimp only [exec, execTrayEdgeEvent]
    split
    · rename_i home load confirm last ha
      have hevent := shareEvent_paceBounds (s := takeTurn (trayTurn s.cfg home s.tracker) load
        (trackerTimes confirm (ageVacates s))) (by simpa using hl.cfg_inRange ha) (by simpa using hp)
      simpa using hevent
    · exact leads_next.mpr hp
  case scanWindowRunsOut | confirmEyeBlocked | timeout =>
    dsimp only [exec, execScanWindowRunsOut, execConfirmEyeBlocked, execTimeout]
    split <;> simp [hp]
  case launchMoment | exitWindowClosing =>
    dsimp only [exec, execLaunchMoment, execExitWindowClosing]
    repeat' split
    all_goals simp [hp]
  case joiningEnds | frameBegin | lostArbitration | bitError | bitTimingError | lineFault | lineConditionNormal
      | claimCompletion | holdCompletion | frameCompletion =>
    dsimp only [exec, execJoiningEnds, execFrameBegin, execLostArbitration, execBitError, execBitTimingError,
      execLineFault, execLineConditionNormal, execClaimCompletion, execHoldCompletion, execFrameCompletion]
    repeat' split
    all_goals simp [hp]
  case claimNotice =>
    refine leads_receiveFrame hp herror hclash ?_
    dsimp only
    split <;> simp [hp]
  case demandNotice | holdNotice | vacateNotice | statNotice | unknownKindFrame =>
    exact leads_receiveFrame hp herror hclash (by simp [hp])
  case bankHold | bankResume =>
    dsimp only [exec, execBankHold, execBankResume]
    exact leads_receiveBank hp herror hclash (by simpa using hp) (fun bits => by simpa using hp)
  case bankPace =>
    dsimp only [exec, execBankPace]
    exact leads_receiveBank hp herror hclash (by simpa using hp)
      (fun bits => setPaceLimit_paceBounds _ (by simpa using hp))
  case clear =>
    have hclear (eyes : LaneEyes) : PaceBounds (acceptClear (readEyes eyes s)).pace := by
      simp [acceptClear, htimer]
    have htogether (eyes : LaneEyes) : PaceBounds (clearTogether (readEyes eyes s)).pace := by
      unfold clearTogether
      split <;> simp [hclear]
    dsimp only [exec, execClear]
    repeat' split
    all_goals simp [hp, htimer, startBlink, htogether]
  case start | stop | paceTimerRunsOut | faultBlinkPhase | faultBlinkEnd =>
    dsimp only [exec, execStart, execStop, execPaceTimerRunsOut, execFaultBlinkPhase, execFaultBlinkEnd]
    repeat' split
    all_goals simp [hp, htimer]

theorem tick_pace (s : State) : (tick s).pace = tickPace s := by
  simp [tick, elapse]

theorem tick_keeps_paceBounds (hp : PaceBounds s.pace) : PaceBounds (tick s).pace := by
  rw [tick_pace]
  exact { hp with }

/-- Settles O56, by the cases of a step: a tick touches neither, and every command keeps both. -/
theorem everyStepKeepsSharesAndPace : Obligations.EveryStepKeepsSharesAndPace := by
  unfold Obligations.EveryStepKeepsSharesAndPace
  intro s t h
  rcases step_cases h with ⟨-, rfl⟩ | ⟨c, rest, hq, hexec⟩
  · exact ⟨fun hs => by simpa using hs, fun _ hp => tick_keeps_paceBounds hp⟩
  · exact ⟨fun hs => exec_keeps_shareBounds (by simpa using hs) t hexec,
      fun hl hp => exec_keeps_paceBounds (c := c) (s := s.withPending rest) (hl.of_kept rfl rfl id) hp t hexec⟩

end Sys2Proof.Machine
end

section
/-! PROOFS. The line interface through every step (R57, R58, R61, R67 to R72): what each operation keeps of the
transmit queue, the passage and the assembler, and which one lets a CLAIM or a HOLD join the queue. -/

namespace Sys2Proof.Machine

variable {s t : State} {c : Instr} {joins : Prop} {l m : Line}

/-- A change of the line interface that keeps what is sound of it, and adds a CLAIM or a HOLD to the transmit
queue only where `joins` holds. -/
structure LineKept (joins : Prop) (l m : Line) : Prop where
  limits    : QueueLimits l.queue → QueueLimits m.queue
  passage   : PassageSound l → PassageSound m
  assembler : AssemblerSound l → AssemblerSound m
  claims    : ¬ joins → m.queue.countP (·.body.isClaim) ≤ l.queue.countP (·.body.isClaim)
  holds     : ¬ joins → m.queue.countP (·.body.isHold) ≤ l.queue.countP (·.body.isHold)

@[simp] theorem LineKept.refl (l : Line) : LineKept joins l l := ⟨id, id, id, fun _ => Nat.le_refl _, fun _ => Nat.le_refl _⟩

theorem LineKept.trans {l m n : Line} (h : LineKept joins l m) (k : LineKept joins m n) : LineKept joins l n where
  limits := k.limits ∘ h.limits
  passage := k.passage ∘ h.passage
  assembler := k.assembler ∘ h.assembler
  claims hj := Nat.le_trans (k.claims hj) (h.claims hj)
  holds hj := Nat.le_trans (k.holds hj) (h.holds hj)

/-! ## The transmit queue (R68 to R71) -/

/-- The queue's bodies and passage marks decide the limits, the passage and the counts. -/
theorem LineKept.of_queue {q : List TxFrame}
    (hcount : ∀ p : TxBody → Bool, q.countP (fun f => p f.body) ≤ l.queue.countP (fun f => p f.body))
    (hpassage : q.countP (·.inPassage) = l.queue.countP (·.inPassage)) :
    LineKept joins l { l with queue := q } where
  limits h := ⟨Nat.le_trans (hcount _) h.claim, Nat.le_trans (hcount _) h.demand,
    Nat.le_trans (hcount _) h.stat, Nat.le_trans (hcount _) h.shared⟩
  passage h := hpassage.trans h
  assembler h := ⟨h.bits, h.passage, h.faulted⟩
  claims _ := hcount _
  holds _ := hcount _

/-- Frames that are changed beyond their bodies and passage marks. -/
theorem LineKept.of_map {f : TxFrame → TxFrame} (hbody : ∀ x, (f x).body = x.body)
    (hpassage : ∀ x, (f x).inPassage = x.inPassage) :
    LineKept joins l { l with queue := l.queue.map f } :=
  .of_queue (fun p => by simp [List.countP_map, Function.comp_def, hbody])
    (by simp [List.countP_map, Function.comp_def, hpassage])

/-- A DEMAND or STAT that is offered (R70). -/
theorem LineKept.requested {b : TxBody} (hb : b = .demand ∨ b = .stat) :
    LineKept joins l { l with queue := requested b l.queue } := by
  have hpassage : (Machine.requested b l.queue).countP (·.inPassage) = l.queue.countP (·.inPassage) := by
    unfold Machine.requested
    split
    · exact modifyFirst_countP (fun f : TxFrame => f.body == b) _ (fun f => { f with renewed := f.renewed || f.inPassage })
        (fun _ => rfl) _
    · simp [List.countP_append, TxFrame.fresh]
  have hother (p : TxBody → Bool) (hp : p b = false) :
      (Machine.requested b l.queue).countP (fun f => p f.body) = l.queue.countP (fun f => p f.body) := by
    simp [requested_countP, hp]
  have hnone (p : TxBody → Bool) (hp : p b = true) (hpb : ∀ x, p x = true → x = b)
      (h : l.queue.countP (fun f => p f.body) ≤ 1) :
      (Machine.requested b l.queue).countP (fun f => p f.body) ≤ 1 := by
    rw [requested_countP]
    by_cases hany : l.queue.any (·.body == b)
    · simpa [hany] using h
    · have hzero : l.queue.countP (fun f => p f.body) = 0 := by
        rw [List.countP_eq_zero]
        intro f hf hpf
        exact hany (List.any_eq_true.mpr ⟨f, hf, by simp [hpb _ hpf]⟩)
      simp only [hzero, Nat.zero_add]
      split <;> omega
  have hdemand (x : TxBody) (h : x.isDemand = true) : x = .demand := by
    cases x
    case demand => rfl
    all_goals cases h
  have hstat (x : TxBody) (h : x.isStat = true) : x = .stat := by
    cases x
    case stat => rfl
    all_goals cases h
  refine ⟨fun h => ?_, fun h => hpassage.trans h, fun h => ⟨h.bits, h.passage, h.faulted⟩, fun _ => ?_, fun _ => ?_⟩
  · rcases hb with rfl | rfl
    · exact ⟨(hother _ rfl).trans_le h.claim, hnone _ rfl hdemand h.demand, (hother _ rfl).trans_le h.stat,
        (hother _ rfl).trans_le h.shared⟩
    · exact ⟨(hother _ rfl).trans_le h.claim, (hother _ rfl).trans_le h.demand, hnone _ rfl hstat h.stat,
        (hother _ rfl).trans_le h.shared⟩
  · rcases hb with rfl | rfl <;> exact (hother _ rfl).le
  · rcases hb with rfl | rfl <;> exact (hother _ rfl).le

/-- A frame that joins where the limit on its kind allows it (R68). -/
theorem LineKept.enqueued {b : TxBody} {q : List TxFrame}
    (hq : ∀ p : TxBody → Bool, q.countP (fun f => p f.body) ≤ l.queue.countP (fun f => p f.body))
    (hpassage : q.countP (·.inPassage) = l.queue.countP (·.inPassage))
    (hbody : b.isDemand = false ∧ b.isStat = false)
    (hclaim : b.isClaim = true → joins ∧ q.countP (·.body.isClaim) = 0)
    (hhold : b.isHold = true → joins)
    (hroom : QueueLimits l.queue → b.isHoldOrVacate = true → q.countP (·.body.isHoldOrVacate) < 5) :
    LineKept joins l { l with queue := q ++ [.fresh b] } := by
  have hcount (p : TxBody → Bool) :
      (q ++ [TxFrame.fresh b]).countP (fun f => p f.body) =
        q.countP (fun f => p f.body) + if p b = true then 1 else 0 := by
    simp [List.countP_append, List.countP_cons, TxFrame.fresh]
  refine ⟨fun h => ⟨?_, ?_, ?_, ?_⟩, fun h => ?_, fun h => ⟨h.bits, h.passage, h.faulted⟩, fun hj => ?_, fun hj => ?_⟩
  · rw [hcount (·.isClaim)]
    have := Nat.le_trans (hq (·.isClaim)) h.claim
    split
    · rw [(hclaim ‹_›).2]
    · exact this
  · rw [hcount (·.isDemand), if_neg (by simp [hbody.1])]
    exact Nat.le_trans (hq _) h.demand
  · rw [hcount (·.isStat), if_neg (by simp [hbody.2])]
    exact Nat.le_trans (hq _) h.stat
  · rw [hcount (·.isHoldOrVacate)]
    split
    · exact hroom h ‹_›
    · exact Nat.le_trans (hq _) h.shared
  · have : (q ++ [TxFrame.fresh b]).countP (·.inPassage) = l.queue.countP (·.inPassage) := by
      simp [List.countP_append, TxFrame.fresh, hpassage]
    exact this.trans h
  · rw [hcount (·.isClaim), if_neg fun hb => hj (hclaim hb).1]
    exact hq _
  · rw [hcount (·.isHold), if_neg fun hb => hj (hhold hb)]
    exact hq _

@[simp] theorem request_lineKept {b : TxBody} (hb : b = .demand ∨ b = .stat) (h : LineKept joins l s.line) :
    LineKept joins l (request b s).line := by
  rw [request_eq]
  exact h.trans (.requested hb)

@[simp] theorem offerStat_lineKept (h : LineKept joins l s.line) : LineKept joins l (offerStat s).line := by
  unfold offerStat
  split
  · exact request_lineKept (.inr rfl) h
  · exact h

@[simp] theorem askRemoval_lineKept (p : TxBody → Bool) (h : LineKept joins l s.line) :
    LineKept joins l (askRemoval p s).line := by
  refine h.trans (.of_queue (fun q => askRemoval_countP_le p q s) ?_)
  rw [List.countP_map, List.countP_filter]
  refine List.countP_congr fun f _ => ?_
  by_cases hf : p f.body <;> simp [hf]

@[simp] theorem sparePassage_lineKept (h : LineKept joins l s.line) : LineKept joins l (sparePassage s).line :=
  h.trans (.of_map (fun f => by split <;> rfl) (fun f => by split <;> rfl))

/-- The oldest waiting HOLD, which a VACATE displaces (R69). -/
theorem exists_displaced {d : Tray} (h : displacedHold s = some d) :
    ∃ f ∈ s.line.queue, f.body.isHold = true ∧ f.inPassage = false := by
  obtain ⟨f, hf, hd⟩ := List.exists_of_findSome?_eq_some h
  refine ⟨f, hf, ?_⟩
  split at hd
  · rename_i hb
    split at hd
    · cases hd
    · rename_i hp
      exact ⟨by rw [hb]; rfl, by simpa using hp⟩
  all_goals cases hd

@[simp] theorem offerVacate_lineKept (d : Tray) (span : Span) (h : LineKept joins l s.line) :
    LineKept joins l (offerVacate d span s).line := by
  unfold offerVacate
  split
  · rename_i hroom
    exact h.trans (.enqueued (fun _ => Nat.le_refl _) rfl ⟨rfl, rfl⟩ (fun hb => nomatch hb) (fun hb => nomatch hb)
      (fun _ _ => of_decide_eq_true hroom))
  · split
    · rename_i hd
      obtain ⟨before, f, after, hq, hf, hb⟩ := exists_split_first (fun f : TxFrame => f.body.isHold && !f.inPassage)
        s.line.queue (by
          obtain ⟨f, hf, hh, hp⟩ := exists_displaced hd
          exact ⟨f, hf, by simp [hh, hp]⟩)
      have hq' := eraseP_split _ before after f hb hf
      rw [← hq] at hq'
      obtain ⟨hhold, hwaits⟩ : f.body.isHold = true ∧ f.inPassage = false := by simpa using hf
      refine h.trans (.enqueued (fun p => List.eraseP_sublist.countP_le) ?_ ⟨rfl, rfl⟩ (fun hb => nomatch hb)
        (fun hb => nomatch hb) (fun hl _ => ?_))
      · show (s.line.queue.eraseP _).countP _ = _
        rw [hq', hq]
        simp [List.countP_append, hwaits]
      · show (s.line.queue.eraseP _).countP _ < 5
        have hshared := hl.shared
        rw [hq] at hshared
        rw [hq']
        simp only [List.countP_append, List.countP_cons, TxBody.isHoldOrVacate, hhold, Bool.true_or, if_true,
          Config.holdVacateRoom] at hshared ⊢
        omega
    · exact h

/-! ## Station control and the launch unit -/

@[simp] theorem leaveRunning_lineKept (h : LineKept joins l s.line) : LineKept joins l (leaveRunning s).line := by
  unfold leaveRunning
  split
  · exact h
  · split <;> simp [h]

@[simp] theorem dropCommitment_lineKept (h : LineKept joins l s.line) : LineKept joins l (dropCommitment s).line := by
  unfold dropCommitment
  split
  · exact h
  · split <;> simp [h]

@[simp] theorem setMode_lineKept (m : Mode) (h : LineKept joins l s.line) : LineKept joins l (setMode m s).line :=
  offerStat_lineKept h

@[simp] theorem setHolds_lineKept (x : HoldSet) (h : LineKept joins l s.line) : LineKept joins l (setHolds x s).line :=
  offerStat_lineKept h

@[simp] theorem addHold_lineKept (x : HoldCause) (h : LineKept joins l s.line) :
    LineKept joins l (addHold x s).line := by
  unfold addHold
  split
  · exact h
  · dsimp only
    split
    · exact leaveRunning_lineKept (setMode_lineKept _ (setHolds_lineKept _ h))
    · exact setHolds_lineKept _ h

@[simp] theorem removeHold_lineKept (x : HoldCause) (h : LineKept joins l s.line) :
    LineKept joins l (removeHold x s).line := by
  unfold removeHold
  split
  · dsimp only
    split
    · exact setMode_lineKept _ (setHolds_lineKept _ h)
    · exact setHolds_lineKept _ h
  · exact h

@[simp] theorem enterFaulted_lineKept (cause : FaultCause) (h : LineKept joins l s.line) :
    LineKept joins l (enterFaulted cause s).line :=
  offerStat_lineKept (by simp [h])

@[simp] theorem reportFault_lineKept (cause : FaultCause) (h : LineKept joins l s.line) :
    LineKept joins l (reportFault cause s).line := by
  unfold reportFault
  split
  · exact enterFaulted_lineKept _ h
  · split
    · exact h
    · exact h

@[simp] theorem reportJam_lineKept (z : Zone) (h : LineKept joins l s.line) : LineKept joins l (reportJam z s).line :=
  reportFault_lineKept _ h

@[simp] theorem resyncHold_lineKept (h : LineKept joins l s.line) : LineKept joins l (resyncHold s).line := by
  have hspared : LineKept joins l (sparePassage ((s.withWindow { entries := [], pending := [] }).withShare
      { s.share with credit := 0, held := [] })).line := sparePassage_lineKept h
  exact addHold_lineKept _ (dropCommitment_lineKept (askRemoval_lineKept _ hspared))

@[simp] theorem reportHorizon_lineKept (h : LineKept joins l s.line) : LineKept joins l (reportHorizon s).line := by
  unfold reportHorizon
  split <;> simp [h]

@[simp] theorem withdraw_lineKept (k : Commitment) (h : LineKept joins l s.line) :
    LineKept joins l (withdraw k s).line := by
  simp [withdraw, h]

@[simp] theorem abandon_lineKept (k : Commitment) (h : LineKept joins l s.line) :
    LineKept joins l (abandon k s).line := by
  simp [abandon, h]

@[simp] theorem lateConflict_lineKept (h : LineKept joins l s.line) : LineKept joins l (lateConflict s).line := by
  simp [lateConflict, h]

@[simp] theorem governedAway_lineKept (d : Tray) (h : LineKept joins l s.line) :
    LineKept joins l (governedAway d s).line := by
  unfold governedAway
  repeat' split
  all_goals simp [h]

@[simp] theorem takeVerdict_lineKept (h : LineKept joins l s.line) : LineKept joins l (takeVerdict s).line := by
  unfold takeVerdict
  repeat' split
  all_goals simp [h]

theorem commitmentEvent_lineKept (count : Option Tray) (h : LineKept joins l s.line) :
    LineKept joins l (commitmentEvent count s).line := by
  unfold commitmentEvent
  repeat' split
  all_goals simp [h]

@[simp] theorem launchEvent_lineKept (reading : Option Bool) (h : LineKept joins l s.line) :
    LineKept joins l (launchEvent reading s).line := by
  have hflight : LineKept joins l (flightEvent reading s).line := by
    unfold flightEvent
    split
    · exact h
    · dsimp only
      split
      · exact h
      · exact takeVerdict_lineKept h
  exact commitmentEvent_lineKept _ hflight

/-! ## The window -/

@[simp] theorem placePart_lineKept (offset : Nat) (p : Part) (h : LineKept joins l s.line) :
    LineKept joins l (placePart offset p s).line := by
  have happly : LineKept joins l (applyPart p s).line := by
    unfold applyPart
    repeat' split
    all_goals simp [h]
  unfold placePart
  dsimp only
  repeat' split
  all_goals simp [h, happly]

@[simp] theorem hearParts_lineKept (k : LaneOrdinal) (valid : Bool) (parts : List Part)
    (h : LineKept joins l s.line) : LineKept joins l (hearParts k valid parts s).line := by
  unfold hearParts
  split
  · exact h
  · split
    · simp [h]
    · split
      · exact foldl_keeps (P := fun s => LineKept joins l s.line) (fun u p hu => placePart_lineKept _ p hu) _ h
      · exact h

@[simp] theorem hearClaim_lineKept (k : LaneOrdinal) (tray : Nat) (span : Span) (h : LineKept joins l s.line) :
    LineKept joins l (hearClaim k tray span s).line := hearParts_lineKept _ _ _ h

@[simp] theorem hearVacate_lineKept (k : LaneOrdinal) (tray : Nat) (span : Span) (h : LineKept joins l s.line) :
    LineKept joins l (hearVacate k tray span s).line := hearParts_lineKept _ _ _ h

@[simp] theorem hearHold_lineKept (k : LaneOrdinal) (tray : Nat) (j : LaneOrdinal) (h : LineKept joins l s.line) :
    LineKept joins l (hearHold k tray j s).line := hearParts_lineKept _ _ _ h

/-! ## The share unit -/

theorem epochBoundary_lineKept (h : LineKept joins l s.line) : LineKept joins l (epochBoundary s).line := by
  have hhorizon : LineKept joins l (recomputeHorizon (recomputeShare (agePeers (request .demand s)))).line :=
    reportHorizon_lineKept (request_lineKept (.inl rfl) h)
  have hinterval : LineKept joins l
      (recomputeInterval (recomputeHorizon (recomputeShare (agePeers (request .demand s))))).line := hhorizon
  unfold epochBoundary statInterval
  split
  · exact hinterval
  · exact offerStat_lineKept hinterval

@[simp] theorem epochEvent_lineKept (h : LineKept joins l s.line) : LineKept joins l (epochEvent s).line := by
  unfold epochEvent
  split
  · exact epochBoundary_lineKept h
  · exact h

@[simp] theorem yieldTray_lineKept (hj : joins) (d : Tray) (h : LineKept joins l s.line) :
    LineKept joins l (yieldTray d s).line := by
  unfold yieldTray
  split
  · rename_i hroom
    split
    · simp only [Bool.and_eq_true] at hroom
      exact h.trans (.enqueued (fun _ => Nat.le_refl _) rfl ⟨rfl, rfl⟩ (fun hb => nomatch hb) (fun _ => hj)
        (fun _ _ => of_decide_eq_true hroom.2))
    · exact h
  · exact h

@[simp] theorem commitClaim_lineKept (hj : joins) (r : Parcel) (e d : Tray) (span : Span) (cost : Nat)
    (h : LineKept joins l s.line) : LineKept joins l (commitClaim r e d span cost s).line := by
  unfold commitClaim makeCommitment
  dsimp only
  repeat' split
  · rename_i hclaim
    refine h.trans (.enqueued (fun _ => Nat.le_refl _) rfl ⟨rfl, rfl⟩ (fun _ => ⟨hj, ?_⟩) (fun _ => hj)
      (fun _ hb => nomatch hb))
    exact List.countP_eq_zero.mpr fun f hf => by simpa using (claimAdmitted_iff _).mp hclaim f hf
  · exact h
  · simpa [refuseClaim] using h

@[simp] theorem decideTray_lineKept (hj : joins) (e d : Tray) (h : LineKept joins l s.line) :
    LineKept joins l (decideTray e d s).line := by
  have hmarked (r : Parcel) (u : State) (hu : LineKept joins l u.line) : LineKept joins l (makeClaim e d r u).line := by
    refine commitClaim_lineKept hj _ _ _ _ _ ?_
    rw [foldl_line _ (fun u x => by simp)]
    exact hu
  have hcredit : LineKept joins l (addCredit s.share.share (setDecided d s)).line := by simpa using h
  unfold decideTray starveSecond
  dsimp only
  repeat' split
  · exact yieldTray_lineKept hj _ hcredit
  · exact hmarked _ _ hcredit
  · exact yieldTray_lineKept hj _ hcredit
  · exact yieldTray_lineKept hj _ hcredit
  · exact h
  · exact h

/-- A decision, which alone lets a CLAIM or a HOLD join, is taken in Locked where the share unit finds the
station Running (R107). -/
@[simp] theorem shareEvent_lineKept (hj : s.tracker.tracking = .locked → s.station.mode = .running → joins)
    (h : LineKept joins l s.line) : LineKept joins l (shareEvent s).line := by
  unfold shareEvent
  split
  · exact epochEvent_lineKept h
  · rename_i e _
    have hcounted (d : Tray) :
        LineKept joins l (countFree d (passOver e s.launch.horizon (epochEvent (expireHolds e s)))).line := by
      simpa using epochEvent_lineKept (s := expireHolds e s) (by simpa using h)
    dsimp only
    split
    · rename_i hlocked
      split
      · rename_i hdue
        simp only [decisionDue, Bool.and_eq_true, beq_iff_eq] at hdue
        exact decideTray_lineKept (hj (by simpa using hlocked) hdue.1.1.1) _ _ (hcounted _)
      · exact hcounted _
    · simpa using epochEvent_lineKept (s := expireHolds e s) (by simpa using h)

/-! ## Passages and deadlines (R57 to R60, R72) -/

theorem countP_inPassage_none (hs : PassageSound l) (hp : l.passage = none) : l.queue.countP (·.inPassage) = 0 := by
  simpa [PassageSound, hp] using hs

theorem awaitStart_lineKept (hp : s.line.passage = none) (h : LineKept joins l s.line) :
    LineKept joins l (awaitStart s).line :=
  h.trans ⟨id, id, fun ha => ⟨fun _ => rfl, fun hsome => by simp [awaitStart, hp] at hsome,
    fun hf => ⟨hp, by simp [awaitStart]⟩⟩, fun _ => Nat.le_refl _, fun _ => Nat.le_refl _⟩

theorem assemble_lineKept (bits : Bits) (hp : s.line.passage = none) (hf : s.line.faulted = false)
    (h : LineKept joins l s.line) : LineKept joins l (assemble bits s).line :=
  h.trans ⟨id, id, fun ha => ⟨fun hn => absurd rfl hn, fun hsome => by simp [assemble, hp] at hsome,
    fun hfault => by simp [assemble, hf] at hfault⟩, fun _ => Nat.le_refl _, fun _ => Nat.le_refl _⟩

/-- Frames that leave, and all passage marks taken away. -/
def unmarked (q : List TxFrame) : List TxFrame := q.map (fun f => { f with inPassage := false, renewed := false })

theorem unmarked_countP (p : TxBody → Bool) (q : List TxFrame) :
    (unmarked q).countP (fun f => p f.body) = q.countP (fun f => p f.body) := by
  simp [unmarked, List.countP_map, Function.comp_def]

theorem unmarked_inPassage (q : List TxFrame) : (unmarked q).countP (·.inPassage) = 0 := by
  simp [unmarked]

/-- A passage that ends, whatever becomes of the assembler. -/
theorem LineKept.passageEnds {p : TxFrame → Bool} (ha : AssemblerSound l → AssemblerSound m)
    (hm : m.passage = none) (hq : m.queue = unmarked (l.queue.filter p)) : LineKept joins l m := by
  have hle (k : TxBody → Bool) : m.queue.countP (fun f => k f.body) ≤ l.queue.countP (fun f => k f.body) := by
    rw [hq, unmarked_countP]
    exact List.filter_sublist.countP_le
  exact ⟨fun h => ⟨Nat.le_trans (hle _) h.claim, Nat.le_trans (hle _) h.demand, Nat.le_trans (hle _) h.stat,
    Nat.le_trans (hle _) h.shared⟩, fun _ => by simp [PassageSound, hm, hq, unmarked_inPassage], ha,
    fun _ => hle _, fun _ => hle _⟩

theorem releasePassage_lineKept (h : LineKept joins l s.line) : LineKept joins l (releasePassage s).line :=
  h.trans (.passageEnds (p := fun f => !(f.inPassage && (f.removalAsked || f.expired)))
    (fun ha => { bits := ha.bits, passage := fun hsome => (nomatch hsome), faulted := fun hf => ⟨rfl, (ha.faulted hf).2⟩ })
    rfl rfl)

@[simp] theorem completePassage_lineKept (h : LineKept joins l s.line) : LineKept joins l (completePassage s).line :=
  h.trans (.passageEnds (p := fun f => !(f.inPassage && !f.renewed))
    (fun _ => { bits := fun _ => rfl, passage := fun hsome => (nomatch hsome), faulted := fun _ => ⟨rfl, nofun⟩ }) rfl rfl)

/-- The chosen frame is the first of its kind (R57). -/
theorem chooseFrame_split {q : List TxFrame} {f : TxFrame} (h : chooseFrame q = some f) :
    ∃ before after, q = before ++ f :: after ∧ ∀ g ∈ before, (g.body.kind == f.body.kind) = false := by
  obtain ⟨k, -, hk⟩ := List.exists_of_findSome?_eq_some h
  obtain ⟨hf, before, after, hq, hb⟩ := List.find?_eq_some_iff_append.mp hk
  refine ⟨before, after, hq, fun g hg => ?_⟩
  rw [eq_of_beq hf]
  simpa using hb g hg

theorem beginFrame_lineKept {f : TxFrame} (hf : chooseFrame s.line.queue = some f) (hline : s.line.faulted = false)
    (hp : s.line.passage = none) (h : LineKept joins l s.line) : LineKept joins l (beginFrame f s).line := by
  have hcount (p : TxBody → Bool) : (beginFrame f s).line.queue.countP (fun f => p f.body) =
      s.line.queue.countP (fun f => p f.body) :=
    modifyFirst_countP (fun g : TxFrame => g.body.kind == f.body.kind) _ (fun g => { g with inPassage := true }) (fun _ => rfl) _
  refine h.trans ⟨fun hl => ⟨(hcount _).trans_le hl.claim, (hcount _).trans_le hl.demand,
    (hcount _).trans_le hl.stat, (hcount _).trans_le hl.shared⟩, fun hs => ?_,
    fun _ => ⟨fun hn => absurd rfl hn, fun _ => ⟨rfl, rfl⟩, fun hfault => ?_⟩, fun _ => (hcount _).le, fun _ => (hcount _).le⟩
  · obtain ⟨before, after, hq, hb⟩ := chooseFrame_split hf
    have hzero := countP_inPassage_none hs hp
    rw [hq] at hzero
    show (modifyFirst _ _ s.line.queue).countP _ = 1
    rw [hq, modifyFirst_split _ _ _ _ _ hb (by simp)]
    simp only [List.countP_append, List.countP_cons, if_true] at hzero ⊢
    omega
  · exact absurd hfault (by simp [beginFrame, hline])

@[simp] theorem ageVacates_lineKept (h : LineKept joins l s.line) : LineKept joins l (ageVacates s).line := by
  have hmap (p : TxBody → Bool) (hp : ∀ d span n k, p (.vacate d span n) = p (.vacate d span k)) :
      (ageVacates s).line.queue.countP (fun f => p f.body) = s.line.queue.countP (fun f => p f.body) := by
    show List.countP _ (List.map _ _) = _
    rw [List.countP_map]
    refine List.countP_congr fun f _ => ?_
    cases hb : f.body <;> simp [hb]
    rw [hp]
  refine h.trans ⟨fun hl => ⟨(hmap (·.isClaim) fun _ _ _ _ => rfl).trans_le hl.claim,
    (hmap (·.isDemand) fun _ _ _ _ => rfl).trans_le hl.demand, (hmap (·.isStat) fun _ _ _ _ => rfl).trans_le hl.stat,
    (hmap (·.isHoldOrVacate) fun _ _ _ _ => rfl).trans_le hl.shared⟩, fun hs => ?_,
    fun ha => ⟨ha.bits, ha.passage, ha.faulted⟩, fun _ => (hmap (·.isClaim) fun _ _ _ _ => rfl).le,
    fun _ => (hmap (·.isHold) fun _ _ _ _ => rfl).le⟩
  refine Eq.trans ?_ hs
  show List.countP _ (List.map _ _) = _
  rw [List.countP_map]
  refine List.countP_congr fun f _ => ?_
  cases hb : f.body <;> simp [hb]

/-- Whether a frame stays at its deadlines (R72). -/
def staysAt (count : Option Tray) (last : Bool) (f : TxFrame) : Bool :=
  !(deadlineReached count f && !(f.inPassage && last))

theorem queueAfterDeadlines_countP (count : Option Tray) (last : Bool) (q : List TxFrame) (p : TxFrame → Bool)
    (hp : ∀ f : TxFrame, p { f with expired := true } = p f) :
    (queueAfterDeadlines count last q).countP p = (q.filter (staysAt count last)).countP p := by
  show List.countP p (List.map _ _) = _
  rw [List.countP_map]
  refine List.countP_congr fun f _ => ?_
  simp only [Function.comp_apply]
  split
  · rw [hp]
  · rfl

/-- At the deadlines the frame in passage, if there is one, goes exactly where it is cut. -/
theorem queueAfterDeadlines_inPassage {count : Option Tray} {last : Bool}
    (h : s.line.queue.countP (·.inPassage) ≤ 1) :
    (queueAfterDeadlines count last s.line.queue).countP (·.inPassage) =
      if passageCut count last s then 0 else s.line.queue.countP (·.inPassage) := by
  rw [queueAfterDeadlines_countP _ _ _ _ (fun _ => rfl)]
  unfold passageCut passageFrame
  cases hfind : s.line.queue.find? (·.inPassage) with
  | none =>
    have hnone : ∀ f ∈ s.line.queue, ¬ f.inPassage = true := by simpa using List.find?_eq_none.mp hfind
    rw [List.countP_eq_zero.mpr fun f hf => hnone f (List.mem_of_mem_filter hf), List.countP_eq_zero.mpr hnone]
    simp
  | some f =>
    obtain ⟨hf, before, after, hq, hb⟩ := List.find?_eq_some_iff_append.mp hfind
    have hbefore (p : TxFrame → Bool) : (before.filter p).countP (·.inPassage) = 0 :=
      List.countP_eq_zero.mpr fun g hg => by simpa using hb g (List.mem_of_mem_filter hg)
    have hbefore' : before.countP (·.inPassage) = 0 := List.countP_eq_zero.mpr fun g hg => by simpa using hb g hg
    rw [hq] at h ⊢
    simp only [List.countP_append, List.countP_cons, hf, if_true, hbefore'] at h
    have hafter (p : TxFrame → Bool) : (after.filter p).countP (·.inPassage) = 0 := by
      have : (after.filter p).countP (·.inPassage) ≤ after.countP (·.inPassage) := List.filter_sublist.countP_le
      omega
    have hafter' : after.countP (·.inPassage) = 0 := by omega
    have hstays : staysAt count last f = !(deadlineReached count f && !last) := by simp [staysAt, hf]
    by_cases hcut : (deadlineReached count f && !last) = true
    · rw [hcut] at hstays
      simp [List.filter_append, List.countP_append, hstays, hbefore, hafter, hcut]
    · rw [Bool.not_eq_true] at hcut
      rw [hcut] at hstays
      simp [List.filter_append, List.countP_append, hstays, hbefore, hafter, hcut, hf, hbefore', hafter']

theorem passageCut_of_no_passage {count : Option Tray} {last : Bool} (h : s.line.queue.countP (·.inPassage) = 0) :
    passageCut count last s = false := by
  have hnone : s.line.queue.find? (·.inPassage) = none :=
    List.find?_eq_none.mpr fun f hf => List.countP_eq_zero.mp h f hf
  simp [passageCut, passageFrame, hnone]

/-- The line interface after the deadlines of a tray edge event (R72). -/
theorem LineKept.deadlines (count : Option Tray) (last : Bool) :
    LineKept joins s.line (if passageCut count last s
      then { s.line with
        queue := queueAfterDeadlines count last s.line.queue, passage := none, assembler := .waiting, assembled := [] }
      else { s.line with queue := queueAfterDeadlines count last s.line.queue }) := by
  have hcount (p : TxBody → Bool) : (queueAfterDeadlines count last s.line.queue).countP (fun f => p f.body) ≤
      s.line.queue.countP (fun f => p f.body) := by
    rw [queueAfterDeadlines_countP _ _ _ _ (fun _ => rfl)]
    exact List.filter_sublist.countP_le
  have hlimits (hl : QueueLimits s.line.queue) : QueueLimits (queueAfterDeadlines count last s.line.queue) :=
    ⟨Nat.le_trans (hcount _) hl.claim, Nat.le_trans (hcount _) hl.demand, Nat.le_trans (hcount _) hl.stat,
      Nat.le_trans (hcount _) hl.shared⟩
  have hone (hs : PassageSound s.line) : s.line.queue.countP (·.inPassage) ≤ 1 := by
    unfold PassageSound at hs
    split at hs <;> omega
  split
  · rename_i hcut
    exact ⟨hlimits, fun hs => by simp [PassageSound, queueAfterDeadlines_inPassage (hone hs), hcut],
      fun _ => ⟨fun _ => rfl, fun hsome => (nomatch hsome), fun _ => ⟨rfl, nofun⟩⟩, fun _ => hcount _, fun _ => hcount _⟩
  · rename_i hcut
    refine ⟨hlimits, fun hs => ?_, fun ha => ⟨ha.bits, ha.passage, ha.faulted⟩, fun _ => hcount _, fun _ => hcount _⟩
    show (queueAfterDeadlines count last s.line.queue).countP _ = _
    rw [queueAfterDeadlines_inPassage (hone hs), if_neg hcut]
    exact hs

@[simp] theorem lineEvent_lineKept (last : Bool) (h : LineKept joins l s.line) :
    LineKept joins l (lineEvent last s).line := by
  unfold lineEvent
  refine foldl_keeps (P := fun s => LineKept joins l s.line) (fun u f hu => ?_) _ (h.trans ?_)
  · unfold reportDeadline
    repeat' split
    all_goals simp [hu]
  · have hd := LineKept.deadlines (s := s) (joins := joins) s.tracker.count last
    dsimp only
    split at hd <;> rename_i hcut
    · rw [if_pos hcut]
      exact hd
    · rw [if_neg hcut]
      exact hd

/-! ## The tray edge event, the timeout, Clear and the end of Loading -/

@[simp] theorem implausibleInterval_lineKept (h : LineKept joins l s.line) :
    LineKept joins l (implausibleInterval s).line := by
  unfold implausibleInterval
  dsimp only
  split
  · exact resyncHold_lineKept h
  · exact h

@[simp] theorem takeTurn_lineKept (turn : TrayTurn) (loaded : Bool) (h : LineKept joins l s.line) :
    LineKept joins l (takeTurn turn loaded s).line := by
  unfold takeTurn
  split
  · exact h
  · exact implausibleInterval_lineKept h
  · exact h
  · exact resyncHold_lineKept h
  · exact resyncHold_lineKept h
  · unfold advanceCount
    dsimp only
    split
    · exact removeHold_lineKept _ h
    · exact h

@[simp] theorem clearTogether_lineKept (h : LineKept joins l s.line) : LineKept joins l (clearTogether s).line := by
  have hclear : LineKept joins l (acceptClear s).line := by
    refine offerStat_lineKept ?_
    exact askRemoval_lineKept (s := (((clearLane s).withScan _).withShare _).withLaunch _) TxBody.isHold h
  unfold clearTogether
  split
  · exact hclear
  · exact reportFault_lineKept _ hclear

theorem endLoading_lineKept (eyes : LaneEyes) (h : LineKept joins l s.line) :
    LineKept joins l (endLoading eyes s).line := by
  unfold endLoading
  dsimp only
  exact reportHorizon_lineKept (addHold_lineKept _ (offerStat_lineKept h))

/-! ## The commands -/

theorem not_faulted_of_passage (ha : AssemblerSound l) (hp : l.passage.isSome = true) : l.faulted = false := by
  cases hf : l.faulted with
  | false => rfl
  | true => simp [(ha.faulted hf).1] at hp

/-- A frame that goes on to be assembled once the own passage has ended (R58, R59). -/
theorem assemble_release_lineKept (bits : Bits) (hp : s.line.passage.isSome = true) :
    LineKept joins s.line (assemble bits (releasePassage s)).line :=
  .passageEnds (p := fun f => !(f.inPassage && (f.removalAsked || f.expired)))
    (fun ha => { bits := fun hn => absurd rfl hn, passage := fun hsome => (nomatch hsome),
                 faulted := fun hf => absurd hf (by simp [assemble, releasePassage, not_faulted_of_passage ha hp]) })
    rfl rfl

/-- LINE_FAULT ends a passage, and the assembler assembles nothing from then (R61, R67). -/
theorem stopAssembling_lineKept (hp : s.line.passage = none) (h : LineKept joins l s.line) :
    LineKept joins l (stopAssembling (s.withLine { s.line with faulted := true })).line := by
  unfold stopAssembling
  split
  · exact h.trans ⟨id, id, fun _ => ⟨fun _ => rfl, fun hsome => absurd hsome (by simp [awaitStart, hp]),
      fun _ => ⟨hp, nofun⟩⟩, fun _ => Nat.le_refl _, fun _ => Nat.le_refl _⟩
  · rename_i ha
    exact h.trans ⟨id, id, fun hs => ⟨hs.bits, fun hsome => absurd hsome (by simp [hp]),
      fun _ => ⟨hp, by simpa using ha⟩⟩, fun _ => Nat.le_refl _, fun _ => Nat.le_refl _⟩

theorem LineKept.mono {j k : Prop} (h : LineKept j l m) (hjk : j → k) : LineKept k l m :=
  { h with claims := fun hk => h.claims (hk ∘ hjk), holds := fun hk => h.holds (hk ∘ hjk) }

theorem State.reset_lineKept : LineKept joins l State.reset.line where
  limits _ := ⟨Nat.zero_le _, Nat.zero_le _, Nat.zero_le _, Nat.zero_le _⟩
  passage _ := rfl
  assembler _ := ⟨fun _ => rfl, fun hsome => (nomatch hsome), fun hf => (nomatch hf)⟩
  claims _ := Nat.zero_le _
  holds _ := Nat.zero_le _

/-- Tray edge events: every other command lets no CLAIM and no HOLD join. -/
def Instr.isTrayEdgeEvent : Instr → Bool
  | .trayEdgeEvent _ _ _ _ => true
  | _ => false

theorem receives_passage {a : Arrival} (h : receives a s = true) : s.line.passage = none :=
  ((receives_iff a s).mp h).2.2.1

/-- A frame that completes does one of three things, and no own frame is then in passage. -/
theorem receiveFrame_lineKept {a : Arrival} {bits : Bits} {take : State → State}
    (htake : ∀ u, LineKept joins l u.line → LineKept joins l (take u).line) (h : LineKept joins l s.line) :
    LineKept joins l (receiveFrame a bits take s).line := by
  unfold receiveFrame
  split
  · rename_i hc
    have hwait := awaitStart_lineKept (receives_passage (Bool.and_eq_true_iff.mp hc).1) h
    split
    · exact hwait
    · exact reportFault_lineKept _ hwait
    · exact htake _ hwait
  · exact h

theorem receiveBank_lineKept {order : Nat} {frame : Heard Bits} {act : Bits → State → State}
    (hact : ∀ bits u, LineKept joins l u.line → LineKept joins l (act bits u).line) (h : LineKept joins l s.line) :
    Leads (fun t => LineKept joins l t.line) (receiveBank order frame act s) := by
  unfold receiveBank
  dsimp only
  split
  · exact leads_refused
  · refine leads_next.mpr (receiveFrame_lineKept (fun u hu => ?_) h)
    split
    · exact hact _ _ hu
    · exact hu

theorem execLineFault_lineKept (dominant : Nat) :
    Leads (fun t => LineKept joins s.line t.line) (execLineFault dominant s) := by
  unfold execLineFault
  split
  · dsimp only
    refine leads_next.mpr (addHold_lineKept _ ?_)
    split
    · exact stopAssembling_lineKept (s := raise .frameErrors (releasePassage s)) rfl
        (releasePassage_lineKept (.refl _))
    · rename_i hp
      exact stopAssembling_lineKept (by simpa using hp) (.refl _)
  · exact leads_next.mpr (.refl _)

theorem execLineConditionNormal_lineKept (recessive : Nat) :
    Leads (fun t => LineKept joins s.line t.line) (execLineConditionNormal recessive s) := by
  unfold execLineConditionNormal
  split
  · rename_i hf
    simp only [Bool.and_eq_true] at hf
    refine leads_next.mpr (removeHold_lineKept _ ⟨id, id, fun ha => ?_, fun _ => Nat.le_refl _, fun _ => Nat.le_refl _⟩)
    exact ⟨fun _ => rfl, fun hsome => absurd hsome (by simp [awaitStart, (ha.faulted hf.1.2).1]),
      fun hfault => (nomatch hfault)⟩
  · exact leads_next.mpr (.refl _)

theorem execJoiningEnds_lineKept (recessive : Nat) :
    Leads (fun t => LineKept joins s.line t.line) (execJoiningEnds recessive s) := by
  unfold execJoiningEnds
  split
  · rename_i hj
    simp only [Bool.and_eq_true, beq_iff_eq] at hj
    refine leads_next.mpr ⟨id, id, fun ha => ⟨fun _ => rfl, fun hsome => ?_, fun hf => ⟨(ha.faulted hf).1, nofun⟩⟩,
      fun _ => Nat.le_refl _, fun _ => Nat.le_refl _⟩
    exact absurd (ha.passage hsome).1 (by simp [hj.1.2])
  · exact leads_next.mpr (.refl _)

theorem execFrameBegin_lineKept (line : LineAtBegin) :
    Leads (fun t => LineKept joins s.line t.line) (execFrameBegin line s) := by
  unfold execFrameBegin
  split
  · exact leads_next.mpr (.refl _)
  · rename_i hf
    split
    · rename_i hmay
      simp only [mayBegin, Bool.and_eq_true, Bool.not_eq_true', Option.isNone_iff_eq_none] at hmay
      exact leads_next.mpr (beginFrame_lineKept hf hmay.1.1.2 hmay.1.2 (.refl _))
    · exact leads_next.mpr (.refl _)
  · split
    · rename_i hmay
      simp only [mayBegin, Bool.and_eq_true, Bool.not_eq_true', Option.isNone_iff_eq_none] at hmay
      exact leads_next.mpr (assemble_lineKept _ hmay.1.1.2 hmay.1.1.1.2 (.refl _))
    · exact leads_next.mpr (.refl _)

theorem execLostArbitration_lineKept (bit : Nat) :
    Leads (fun t => LineKept joins s.line t.line) (execLostArbitration bit s) := by
  unfold execLostArbitration
  split
  · exact leads_next.mpr (.refl _)
  · split
    · exact leads_next.mpr (assemble_release_lineKept _ (by simp [*]))
    · exact leads_next.mpr (.refl _)

theorem execBitError_lineKept (cause : BitErrorCause) :
    Leads (fun t => LineKept joins s.line t.line) (execBitError cause s) := by
  unfold execBitError
  split
  · exact leads_next.mpr (.refl _)
  · rename_i hp
    split
    · refine leads_next.mpr ?_
      unfold afterBitError
      split
      · exact assemble_release_lineKept _ (by simp [hp])
      · exact assemble_release_lineKept _ (by simp [hp])
      · exact awaitStart_lineKept rfl (releasePassage_lineKept (.refl _))
      · exact awaitStart_lineKept rfl (releasePassage_lineKept (.refl _))
    · exact leads_next.mpr (.refl _)

/-- Every command but the tray edge event, whatever it does to the line. -/
theorem exec_lineKept (hc : Instr.isTrayEdgeEvent c = false) :
    Leads (fun t => LineKept joins s.line t.line) (exec c s) := by
  have hjam (z : Zone) (x : Lane) : LineKept joins s.line (reportJam z (s.withLane x)).line :=
    reportJam_lineKept z (.refl _)
  cases c
  case trayEdgeEvent => exact nomatch hc
  case powerOnReset => exact leads_next.mpr State.reset_lineKept
  case lineRecovery | refusal =>
    dsimp only [exec, execLineRecovery, execRefusal]
    repeat' split
    all_goals simp
  case transfer =>
    dsimp only [exec, execTransfer]
    repeat' split
    · simp
    · exact leads_next.mpr (endLoading_lineKept _ (by simp))
    · simp
  case placeEyeFrontEdge | measureEyeFrontEdge | measureEyeClearing | transferEyeFrontEdge | transferEyeClearing
      | stageEyeFrontEdge | stageEyeClearing | exitEyeFrontEdge | exitEyeClearing | stallTimerRunsOut =>
    dsimp only [exec, execPlaceEyeFrontEdge, execMeasureEyeFrontEdge, execMeasureEyeClearing,
      execTransferEyeFrontEdge, execTransferEyeClearing, execStageEyeFrontEdge, execStageEyeClearing,
      execExitEyeFrontEdge, execExitEyeClearing, execStallTimerRunsOut]
    repeat' split
    all_goals simp [hjam]
  case scanRecord chars =>
    dsimp only [exec, execScanRecord]
    split <;> simp [foldl_line takeChar]
  case scanWindowRunsOut | confirmEyeBlocked | timeout =>
    dsimp only [exec, execScanWindowRunsOut, execConfirmEyeBlocked, execTimeout]
    split <;> simp
  case launchMoment | exitWindowClosing =>
    dsimp only [exec, execLaunchMoment, execExitWindowClosing]
    repeat' split
    all_goals simp
  case joiningEnds => exact execJoiningEnds_lineKept _
  case frameBegin => exact execFrameBegin_lineKept _
  case lostArbitration => exact execLostArbitration_lineKept _
  case bitError => exact execBitError_lineKept _
  case bitTimingError seen =>
    dsimp only [exec, execBitTimingError]
    split
    · rename_i h
      simpa [frameError] using awaitStart_lineKept (receives_passage (Bool.and_eq_true_iff.mp h).1) (.refl s.line)
    · simp
  case lineFault => exact execLineFault_lineKept _
  case lineConditionNormal => exact execLineConditionNormal_lineKept _
  case claimCompletion | holdCompletion | frameCompletion =>
    dsimp only [exec, execClaimCompletion, execHoldCompletion, execFrameCompletion]
    repeat' split
    all_goals simp
  case claimNotice =>
    refine leads_next.mpr (receiveFrame_lineKept (fun u hu => ?_) (.refl _))
    dsimp only
    split <;> simp [hu]
  case demandNotice | holdNotice | vacateNotice | statNotice | unknownKindFrame =>
    exact leads_next.mpr (receiveFrame_lineKept (fun u hu => by simp [hu]) (.refl _))
  case bankHold | bankResume | bankPace =>
    dsimp only [exec, execBankHold, execBankResume, execBankPace]
    exact receiveBank_lineKept (fun _ u hu => by simp [hu]) (.refl _)
  case start | stop | clear | paceTimerRunsOut | faultBlinkPhase | faultBlinkEnd =>
    dsimp only [exec, execStart, execStop, execClear, execPaceTimerRunsOut, execFaultBlinkPhase, execFaultBlinkEnd]
    repeat' split
    all_goals simp

/-! ## The tray edge event (R107) -/

theorem addHold_mode (x : HoldCause) (s : State) :
    (addHold x s).station.mode = s.station.mode ∨
      s.station.mode = .running ∧ (addHold x s).station.mode = .holding := by
  by_cases hx : s.station.holds.has x = true
  · exact .inl (by rw [addHold_of_has hx])
  · rw [addHold_station x s (by simpa using hx)]
    dsimp only
    split
    · exact .inr ⟨(‹_ ∧ _›).1, rfl⟩
    · exact .inl rfl

theorem removeHold_mode (x : HoldCause) (s : State) :
    (removeHold x s).station.mode = s.station.mode ∨
      s.station.mode = .holding ∧ (removeHold x s).station.mode = .running := by
  by_cases hx : s.station.holds.has x = true
  · rw [removeHold_station x s hx]
    dsimp only
    split
    · exact .inr ⟨(‹_ ∧ _›).1, rfl⟩
    · exact .inl rfl
  · exact .inl (by rw [removeHold_of_not_has (by simpa using hx)])

theorem resyncHold_mode (s : State) :
    (resyncHold s).station.mode = s.station.mode ∨
      s.station.mode = .running ∧ (resyncHold s).station.mode = .holding := by
  simpa [resyncHold] using addHold_mode .tracking (resync s)

/-- What a tray edge event does to tracking moves the station between Running and Holding alone (R49, R157). -/
theorem takeTurn_mode (turn : TrayTurn) (loaded : Bool) (s : State) :
    (takeTurn turn loaded s).station.mode = s.station.mode ∨
      s.station.mode = .running ∧ (takeTurn turn loaded s).station.mode = .holding ∨
      s.station.mode = .holding ∧ (takeTurn turn loaded s).station.mode = .running := by
  have hlost (u : State) (hu : u.station = s.station) : (resyncHold u).station.mode = s.station.mode ∨
      s.station.mode = .running ∧ (resyncHold u).station.mode = .holding := by
    simpa [hu] using resyncHold_mode u
  unfold takeTurn
  split
  · exact .inl rfl
  · unfold implausibleInterval
    dsimp only
    split
    · exact (hlost _ (by simp)).imp_right .inl
    · exact .inl (by simp)
  · exact .inl (by simp)
  · simpa using (hlost s rfl).imp_right .inl
  · simpa using (hlost (loseTracking s) (by simp)).imp_right .inl
  · unfold advanceCount
    dsimp only
    split
    · rename_i count home _
      have hremoved (u : State) (hu : u.station = s.station) : (removeHold .tracking u).station.mode = s.station.mode ∨
          s.station.mode = .holding ∧ (removeHold .tracking u).station.mode = .running := by
        simpa [hu] using removeHold_mode .tracking u
      exact (hremoved _ (by simp)).imp_right .inr
    · exact .inl (by simp)

/-- What lets a CLAIM or a HOLD join (R107): the command is a tray edge event that leaves tracking Locked and
found the station in Running or Holding. -/
def ClaimsMayJoin (c : Instr) (s t : State) : Prop :=
  (∃ home load confirm last, c = .trayEdgeEvent home load confirm last) ∧
    t.tracker.tracking = .locked ∧ (s.station.mode = .running ∨ s.station.mode = .holding)

theorem execTrayEdgeEvent_lineKept (home load confirm last : Bool) :
    Leads (fun t => LineKept (ClaimsMayJoin (.trayEdgeEvent home load confirm last) s t) s.line t.line)
      (execTrayEdgeEvent home load confirm last s) := by
  unfold execTrayEdgeEvent
  split
  · refine leads_next.mpr ?_
    generalize hturned : takeTurn _ load (trackerTimes confirm (ageVacates s)) = u
    have hmode : u.station.mode = .running → s.station.mode = .running ∨ s.station.mode = .holding := by
      intro hrun
      rcases takeTurn_mode (trayTurn s.cfg home s.tracker) load (trackerTimes confirm (ageVacates s)) with h | h | h <;>
        rw [hturned, hrun] at h
      · exact .inl (by simpa using h.symm)
      · exact nomatch h.2
      · exact .inr (by simpa using h.1)
    have hline : LineKept (ClaimsMayJoin (.trayEdgeEvent home load confirm last) s
        (settleLane (lineEvent last (launchEvent (confirmReading s.tracker) (shareEvent u))))) s.line u.line := by
      rw [← hturned]
      have htimes : (trackerTimes confirm (ageVacates s)).line = (ageVacates s).line := by simp
      exact takeTurn_lineKept _ _ (htimes ▸ ageVacates_lineKept (.refl _))
    have hsettled (v : State) : (settleLane v).line = v.line := by simp
    rw [hsettled]
    refine lineEvent_lineKept _ (launchEvent_lineKept _ (shareEvent_lineKept (fun hlocked hrun => ?_) hline))
    exact ⟨⟨_, _, _, _, rfl⟩, by simpa using hlocked, hmode hrun⟩
  · exact leads_next.mpr (.refl _)

theorem exec_lineKept_or_joins : Leads (fun t => LineKept (ClaimsMayJoin c s t) s.line t.line) (exec c s) := by
  cases hc : Instr.isTrayEdgeEvent c with
  | false => exact fun t ht => (exec_lineKept (joins := False) hc t ht).mono False.elim
  | true =>
    cases c
    case trayEdgeEvent => exact execTrayEdgeEvent_lineKept _ _ _ _
    all_goals exact nomatch hc

end Sys2Proof.Machine
end

section
/-! PROOFS. Station control and the launch unit through every step (R49, R67, R127, R133, R156 to R166): what each
operation keeps of the station state, the hold set, the cause, the launch in flight and the belts' holders. -/

namespace Sys2Proof.Machine

variable {s t x : State} {c : Instr} {but : Option HoldCause}

/-! ## What is kept -/

/-- The condition that a hold cause but BANK stands for (R49, R67, R127). -/
def HoldCause.stands (tracking : Tracking) (faulted : Bool) (window horizon : Nat) : HoldCause → Bool
  | .bank => true
  | .tracking => tracking != .locked
  | .line => faulted
  | .horizon => decide (window - 1 < horizon)

/-- The launch unit holds nothing where lane events are not taken (R162). -/
def LaunchIdleAt (station : Station) (launch : Launch) (stage belt : Holder) : Prop :=
  station.mode = .idle ∨ station.mode = .running ∨ station.mode = .holding ∨
    launch.commitment = none ∧ launch.flight = none ∧ stage = .sequencer ∧ belt = .sequencer

/-- Station control from the end of Loading, its hold causes in step with their conditions, that of `but` apart. -/
structure ControlSound (but : Option HoldCause) (station : Station) (tracking : Tracking) (faulted : Bool)
    (window horizon : Nat) : Prop where
  active  : station.mode ≠ .unconfigured ∧ station.mode ≠ .loading
  agrees  : ∀ c, c ≠ .bank → some c ≠ but → station.holds.has c = c.stands tracking faulted window horizon
  running : station.mode = .running → station.holds.isEmpty = true
  holding : station.mode = .holding → station.holds.isEmpty = false
  faulted : station.mode = .faulted ↔ station.cause ≠ .none
  again   : ∀ c, station.again = some c → station.mode = .faulted ∧ c ≠ .none

/-- What an operation keeps, from the state `x` on: Faulted with its cause, the absence of a launch in flight, the
idle launch unit and the soundness of station control. -/
structure StationKeptAt (but : Option HoldCause) (x : State) (station : Station) (launch : Launch)
    (tracking : Tracking) (faulted : Bool) (cfg : Settings) (stage belt : Holder) : Prop where
  fault  : x.station.mode = .faulted → station.mode = .faulted ∧ station.cause = x.station.cause
  flight : x.launch.flight = none → launch.flight = none
  idle   : LaunchIdleAt x.station x.launch x.lane.stageHolder x.lane.launchHolder →
    LaunchIdleAt station launch stage belt
  sound  : ControlSound none x.station x.tracker.tracking x.line.faulted x.cfg.window x.launch.horizon →
    ControlSound but station tracking faulted cfg.window launch.horizon

/-- What stands in the state `t` of what an operation keeps. -/
@[simp] abbrev StationKept (but : Option HoldCause) (x t : State) : Prop :=
  StationKeptAt but x t.station t.launch t.tracker.tracking t.line.faulted t.cfg t.lane.stageHolder t.lane.launchHolder

theorem StationKept.refl (s : State) : StationKept none s s := ⟨fun h => ⟨h, rfl⟩, id, id, id⟩

theorem StationKept.except (k : HoldCause) (h : StationKept none x s) : StationKept (some k) x s :=
  { h with sound := fun hs => { h.sound hs with agrees := fun c hc _ => (h.sound hs).agrees c hc nofun } }

/-! ## What leaves the line condition and the holders -/

@[simp] theorem requested_faulted (b : TxBody) (s : State) : (request b s).line.faulted = s.line.faulted := by
  rw [request_eq]

@[simp] theorem offerStat_faulted (s : State) : (offerStat s).line.faulted = s.line.faulted := by
  unfold offerStat
  split <;> simp

@[simp] theorem enqueue_faulted (b : TxBody) (s : State) : (enqueue b s).line.faulted = s.line.faulted := rfl

@[simp] theorem askRemoval_faulted (p : TxBody → Bool) (s : State) : (askRemoval p s).line.faulted = s.line.faulted := rfl

@[simp] theorem sparePassage_faulted (s : State) : (sparePassage s).line.faulted = s.line.faulted := rfl

@[simp] theorem offerVacate_faulted (d : Tray) (span : Span) (s : State) :
    (offerVacate d span s).line.faulted = s.line.faulted := by
  unfold offerVacate
  split
  · rfl
  · split <;> rfl

@[simp] theorem awaitStart_faulted (s : State) : (awaitStart s).line.faulted = s.line.faulted := rfl

@[simp] theorem frameError_faulted (s : State) : (frameError s).line.faulted = s.line.faulted := rfl

@[simp] theorem releasePassage_faulted (s : State) : (releasePassage s).line.faulted = s.line.faulted := rfl

@[simp] theorem completePassage_faulted (s : State) : (completePassage s).line.faulted = s.line.faulted := rfl

@[simp] theorem assemble_faulted (bits : Bits) (s : State) : (assemble bits s).line.faulted = s.line.faulted := rfl

@[simp] theorem beginFrame_faulted (f : TxFrame) (s : State) : (beginFrame f s).line.faulted = s.line.faulted := rfl

@[simp] theorem afterBitError_faulted (sent : Bits) (cause : BitErrorCause) (s : State) :
    (afterBitError sent cause s).line.faulted = s.line.faulted := by
  cases cause <;> rfl

@[simp] theorem ageVacates_faulted (s : State) : (ageVacates s).line.faulted = s.line.faulted := rfl

@[simp] theorem placeHold_faulted (d : Tray) (k : Choice) (s : State) : (placeHold d k s).line.faulted = s.line.faulted :=
  rfl

@[simp] theorem yieldTray_faulted (d : Tray) (s : State) : (yieldTray d s).line.faulted = s.line.faulted := by
  unfold yieldTray
  repeat' split
  all_goals simp

@[simp] theorem statInterval_faulted (s : State) : (statInterval s).line.faulted = s.line.faulted := by
  unfold statInterval
  split <;> simp

@[simp] theorem updateRecord_holders (among : Phase → Bool) (n : SeqNo) (f : Parcel → Parcel) (s : State) :
    (updateRecord among n f s).lane.stageHolder = s.lane.stageHolder ∧
    (updateRecord among n f s).lane.launchHolder = s.lane.launchHolder := ⟨rfl, rfl⟩

@[simp] theorem deleteRecord_holders (among : Phase → Bool) (n : SeqNo) (s : State) :
    (deleteRecord among n s).lane.stageHolder = s.lane.stageHolder ∧
    (deleteRecord among n s).lane.launchHolder = s.lane.launchHolder := ⟨rfl, rfl⟩

@[simp] theorem withQueue_holders (s : State) (q : List Parcel) :
    (withQueue s q).lane.stageHolder = s.lane.stageHolder ∧
    (withQueue s q).lane.launchHolder = s.lane.launchHolder := ⟨rfl, rfl⟩

@[simp] theorem settleLane_holders (s : State) :
    (settleLane s).lane.stageHolder = s.lane.stageHolder ∧ (settleLane s).lane.launchHolder = s.lane.launchHolder := by
  rw [settleLane_eq]
  exact ⟨rfl, rfl⟩

@[simp] theorem leaveMeasured_holders (n : SeqNo) (d : Nat) (s : State) :
    (leaveMeasured n d s).lane.stageHolder = s.lane.stageHolder ∧
    (leaveMeasured n d s).lane.launchHolder = s.lane.launchHolder := by
  unfold leaveMeasured
  dsimp only
  split <;> simp

@[simp] theorem takeChar_holders (s : State) (k : ScanChar) :
    (takeChar s k).lane.stageHolder = s.lane.stageHolder ∧
    (takeChar s k).lane.launchHolder = s.lane.launchHolder := by
  have hbind (d : ScanData) (u : State) : (bindRecord d u).lane.stageHolder = u.lane.stageHolder ∧
      (bindRecord d u).lane.launchHolder = u.lane.launchHolder := by
    unfold bindRecord
    split
    · simp
    · dsimp only
      split <;> simp
  have htake (d : ScanData) (u : State) : (takeScan d u).lane.stageHolder = u.lane.stageHolder ∧
      (takeScan d u).lane.launchHolder = u.lane.launchHolder := by
    unfold takeScan
    repeat' split
    all_goals simp [hbind]
  have hclose (k : List ScanChar) (u : State) : (closeRecord k u).lane.stageHolder = u.lane.stageHolder ∧
      (closeRecord k u).lane.launchHolder = u.lane.launchHolder := by
    unfold closeRecord
    dsimp only
    split <;> simp [htake]
  unfold takeChar
  repeat' split
  all_goals simp [hclose]

theorem foldl_takeChar_holders (chars : List ScanChar) (s : State) :
    (chars.foldl takeChar s).lane.stageHolder = s.lane.stageHolder ∧
    (chars.foldl takeChar s).lane.launchHolder = s.lane.launchHolder := by
  induction chars generalizing s with
  | nil => exact ⟨rfl, rfl⟩
  | cons k ks ih => simpa using ih (takeChar s k)

@[simp] theorem becomeMeasured_holders (n : Nat) (s : State) :
    (becomeMeasured n s).lane.stageHolder = s.lane.stageHolder ∧
    (becomeMeasured n s).lane.launchHolder = s.lane.launchHolder := by
  have harrives (n : SeqNo) (u : State) : (measuredArrives n u).lane.stageHolder = u.lane.stageHolder ∧
      (measuredArrives n u).lane.launchHolder = u.lane.launchHolder := by
    unfold measuredArrives
    split
    · simp
    · dsimp only
      split <;> simp
  simp [becomeMeasured, harrives]

@[simp] theorem deleteNoise_holders (r : Parcel) (s : State) :
    (deleteNoise r s).lane.stageHolder = s.lane.stageHolder ∧
    (deleteNoise r s).lane.launchHolder = s.lane.launchHolder := by
  rw [deleteNoise_lane]
  exact ⟨rfl, rfl⟩

@[simp] theorem reportRejected_lane (s : State) : (reportRejected s).lane = s.lane := by
  unfold reportRejected
  split <;> simp

/-! ## The launch unit (R121, R133, R138, R162) -/

/-- A launch unit with less in hand. -/
theorem StationKeptAt.of_less {station : Station} {launch less : Launch} {tracking : Tracking} {faulted : Bool}
    {cfg : Settings} {stage belt : Holder} (h : StationKeptAt but x station launch tracking faulted cfg stage belt)
    (hk : launch.commitment = none → less.commitment = none) (hf : launch.flight = none → less.flight = none)
    (hh : less.horizon = launch.horizon) : StationKeptAt but x station less tracking faulted cfg stage belt where
  fault := h.fault
  flight hx := hf (h.flight hx)
  idle hx := by
    rcases h.idle hx with hm | hm | hm | ⟨hcommitment, hflight, hstage, hbelt⟩
    · exact .inl hm
    · exact .inr (.inl hm)
    · exact .inr (.inr (.inl hm))
    · exact .inr (.inr (.inr ⟨hk hcommitment, hf hflight, hstage, hbelt⟩))
  sound hx := hh ▸ h.sound hx

/-- Belts that the sequencer holds again. -/
theorem StationKeptAt.of_given_back {station : Station} {launch : Launch} {tracking : Tracking} {faulted : Bool}
    {cfg : Settings} {stage belt stage' belt' : Holder}
    (h : StationKeptAt but x station launch tracking faulted cfg stage belt)
    (hstage : stage = .sequencer → stage' = .sequencer) (hbelt : belt = .sequencer → belt' = .sequencer) :
    StationKeptAt but x station launch tracking faulted cfg stage' belt' where
  fault := h.fault
  flight := h.flight
  idle hx := by
    rcases h.idle hx with hm | hm | hm | ⟨hcommitment, hflight, hs, hb⟩
    · exact .inl hm
    · exact .inr (.inl hm)
    · exact .inr (.inr (.inl hm))
    · exact .inr (.inr (.inr ⟨hcommitment, hflight, hstage hs, hbelt hb⟩))
  sound := h.sound

@[simp] theorem discardCommitment_stationKept (k : Commitment) (h : StationKept but x s) :
    StationKept but x (discardCommitment k s) :=
  h.of_less (fun _ => rfl) id rfl

@[simp] theorem leaveRunning_stationKept (h : StationKept but x s) : StationKept but x (leaveRunning s) := by
  unfold leaveRunning
  split
  · exact h
  · split
    · exact discardCommitment_stationKept _ h
    · exact h

@[simp] theorem dropCommitment_stationKept (h : StationKept but x s) : StationKept but x (dropCommitment s) := by
  unfold dropCommitment
  split
  · exact h
  · split
    · have := discardCommitment_stationKept ‹Commitment› h
      simpa using this
    · exact discardCommitment_stationKept _ h

@[simp] theorem conflictFlight_stationKept (h : StationKept but x s) : StationKept but x (conflictFlight s) := by
  unfold conflictFlight
  split
  · exact h
  · exact h.of_less id (fun _ => rfl) rfl

@[simp] theorem takeBelts_stationKept (h : StationKept but x s) : StationKept but x (takeBelts s) :=
  h.of_given_back (fun _ => rfl) (fun _ => rfl)

theorem takesLaneEvents_iff : takesLaneEvents s = true ↔
    s.station.mode = .idle ∨ s.station.mode = .running ∨ s.station.mode = .holding := by
  unfold takesLaneEvents
  cases s.station.mode <;> simp

/-- A claim is committed in a state that takes lane events alone. -/
theorem makeCommitment_stationKept (k : Commitment) (ht : takesLaneEvents s = true) (h : StationKept but x s) :
    StationKept but x (makeCommitment k s) := by
  have hmade : StationKeptAt but x s.station { s.launch with commitment := some k } s.tracker.tracking s.line.faulted
      s.cfg s.lane.stageHolder s.lane.launchHolder :=
    { h with
      flight := h.flight
      idle := fun _ => by
        rcases takesLaneEvents_iff.mp ht with hm | hm | hm
        · exact .inl hm
        · exact .inr (.inl hm)
        · exact .inr (.inr (.inl hm))
      sound := h.sound }
  unfold makeCommitment
  dsimp only
  split
  · exact hmade
  · exact hmade

@[simp] theorem withdraw_stationKept (k : Commitment) (h : StationKept but x s) : StationKept but x (withdraw k s) := by
  have := discardCommitment_stationKept k (s := askRemoval TxBody.isClaim (addCredit k.cost s)) h
  simpa [withdraw] using this

@[simp] theorem abandon_stationKept (k : Commitment) (h : StationKept but x s) : StationKept but x (abandon k s) := by
  have := discardCommitment_stationKept k (s := askRemoval TxBody.isClaim s) h
  simpa [abandon] using this

/-! ## Station control (R156, R157, R161, R162) -/

theorem ControlSound.not_again {station : Station} {tracking : Tracking} {faulted : Bool} {window horizon : Nat}
    (h : ControlSound but station tracking faulted window horizon) (hm : station.mode ≠ .faulted) :
    station.again = none := by
  cases ha : station.again with
  | none => rfl
  | some c => exact absurd (h.again c ha).1 hm

theorem enterFaulted_faulted (cause : FaultCause) (s : State) :
    (enterFaulted cause s).line.faulted = s.line.faulted := by
  rw [enterFaulted_eq]
  have hdrop : (dropCommitment s).line.faulted = s.line.faulted := by
    unfold dropCommitment
    split
    · rfl
    · split <;> simp
  simp [hdrop]

theorem enterFaulted_holders (cause : FaultCause) (s : State) :
    (enterFaulted cause s).lane.stageHolder = .sequencer ∧ (enterFaulted cause s).lane.launchHolder = .sequencer := by
  rw [enterFaulted_eq]
  exact ⟨rfl, rfl⟩

theorem enterFaulted_stationKept {cause : FaultCause} (hcause : cause ≠ .none) (ht : takesLaneEvents s = true)
    (h : StationKept but x s) : StationKept but x (enterFaulted cause s) := by
  have hm : s.station.mode ≠ .faulted := fun hm => by simp [takesLaneEvents, hm] at ht
  simp only [StationKept, enterFaulted_station_eq, enterFaulted_launch, enterFaulted_faulted, enterFaulted_holders,
    enterFaulted_frame]
  exact
    { fault := fun hx => absurd (h.fault hx).1 hm
      flight := fun _ => rfl
      idle := fun _ => .inr (.inr (.inr ⟨rfl, rfl, rfl, rfl⟩))
      sound := fun hx =>
        { active := ⟨nofun, nofun⟩
          agrees := (h.sound hx).agrees
          running := nofun
          holding := nofun
          faulted := ⟨fun _ => hcause, fun _ => rfl⟩
          again := fun k hk => absurd (hk.symm.trans ((h.sound hx).not_again hm)) nofun } }

theorem reportFault_stationKept {cause : FaultCause} (hcause : cause ≠ .none) (h : StationKept but x s) :
    StationKept but x (reportFault cause s) := by
  unfold reportFault
  split
  · exact enterFaulted_stationKept hcause ‹_› h
  · split
    · rename_i hm
      rw [beq_iff_eq] at hm
      refine
        { h with
          idle := fun hx => h.idle hx
          sound := fun hx => { h.sound hx with again := fun k hk => ⟨hm, ?_⟩ } }
      cases ha : s.station.again with
      | none =>
        rw [ha] at hk
        cases hk
        exact hcause
      | some a =>
        rw [ha] at hk
        cases hk
        exact ((h.sound hx).again a ha).2
    · exact h

@[simp] theorem reportJam_stationKept (z : Zone) (h : StationKept but x s) : StationKept but x (reportJam z s) :=
  reportFault_stationKept nofun h

@[simp] theorem ordinalClash_stationKept (h : StationKept but x s) : StationKept but x (ordinalClash s) :=
  reportFault_stationKept nofun h

@[simp] theorem lateConflict_stationKept (h : StationKept but x s) : StationKept but x (lateConflict s) :=
  reportFault_stationKept nofun (takeBelts_stationKept (s := conflictFlight s) (conflictFlight_stationKept h))

@[simp] theorem leaveRunning_launch_horizon (s : State) : (leaveRunning s).launch.horizon = s.launch.horizon := by
  unfold leaveRunning
  split
  · rfl
  · split <;> simp [discardCommitment]

/-- The station state after its hold set has changed (R156, R157). -/
theorem StationKeptAt.of_holds {station moved : Station} {launch : Launch} {tracking : Tracking} {faulted : Bool}
    {cfg : Settings} {stage belt : Holder} {k : HoldCause} {b : Bool}
    (h : StationKeptAt (some k) x station launch tracking faulted cfg stage belt)
    (hholds : moved.holds = station.holds.put b k)
    (hmode : moved.mode = if b = true
      then (if station.mode = .running ∧ station.holds.isEmpty = true then .holding else station.mode)
      else (if station.mode = .holding ∧ (station.holds.put false k).isEmpty = true then .running else station.mode))
    (hcause : moved.cause = station.cause) (hagain : moved.again = station.again)
    (hnew : station.holds.has k = !b) : StationKeptAt (some k) x moved launch tracking faulted cfg stage belt := by
  have hsame : station.mode ≠ .running → station.mode ≠ .holding → moved.mode = station.mode := fun hr hh => by
    rw [hmode]
    simp [hr, hh]
  have hmoved : moved.mode = station.mode ∨ station.mode = .running ∧ moved.mode = .holding ∨
      station.mode = .holding ∧ moved.mode = .running := by
    rw [hmode]
    split
    · split
      · exact .inr (.inl ⟨(‹_ ∧ _›).1, rfl⟩)
      · exact .inl rfl
    · split
      · exact .inr (.inr ⟨(‹_ ∧ _›).1, rfl⟩)
      · exact .inl rfl
  refine ⟨fun hx => ?_, h.flight, fun hx => ?_, fun hx => ?_⟩
  · obtain ⟨hm, hc⟩ := h.fault hx
    exact ⟨(hsame (by simp [hm]) (by simp [hm])).trans hm, hcause.trans hc⟩
  · unfold LaunchIdleAt
    rcases hmoved with hm | ⟨-, hm⟩ | ⟨-, hm⟩
    · rw [hm]
      exact h.idle hx
    · exact .inr (.inr (.inl hm))
    · exact .inr (.inl hm)
  · have hs := h.sound hx
    refine ControlSound.mk ?_ (fun c hc hne => ?_) (fun hrun => ?_) (fun hhold => ?_) ?_ (fun c hc => ?_)
    · rcases hmoved with hm | ⟨-, hm⟩ | ⟨-, hm⟩ <;> rw [hm]
      · exact hs.active
      · exact ⟨nofun, nofun⟩
      · exact ⟨nofun, nofun⟩
    · have hck : c ≠ k := fun he => hne (congrArg some he)
      rw [hholds, HoldSet.has_put, if_neg hck]
      exact hs.agrees c hc hne
    · rw [hholds]
      cases b with
      | true =>
        rw [hmode, if_pos rfl] at hrun
        split at hrun
        · cases hrun
        · rename_i hn
          exact absurd ⟨hrun, hs.running hrun⟩ hn
      | false =>
        rw [hmode, if_neg nofun] at hrun
        split at hrun
        · exact (‹_ ∧ _›).2
        · have := (HoldSet.isEmpty_iff _).mp (hs.running hrun) k
          simp [hnew] at this
    · rw [hholds]
      cases b with
      | true => exact HoldSet.isEmpty_put_true _ _
      | false =>
        rw [hmode, if_neg nofun] at hhold
        split at hhold
        · cases hhold
        · rename_i hne
          rw [not_and, Bool.not_eq_true] at hne
          exact hne hhold
    · rw [hcause, ← hs.faulted]
      rcases hmoved with hm | ⟨hm, hm'⟩ | ⟨hm, hm'⟩
      · rw [hm]
      · simp [hm, hm']
      · simp [hm, hm']
    · obtain ⟨hm, hn⟩ := hs.again c (hagain ▸ hc)
      exact ⟨(hsame (by simp [hm]) (by simp [hm])).trans hm, hn⟩

/-- With the agreement of its last cause, what is kept is whole. -/
theorem StationKeptAt.of_agreed {station : Station} {launch : Launch} {tracking : Tracking} {faulted : Bool}
    {cfg : Settings} {stage belt : Holder} {k : HoldCause}
    (h : StationKeptAt (some k) x station launch tracking faulted cfg stage belt)
    (hk : k = .bank ∨ station.holds.has k = k.stands tracking faulted cfg.window launch.horizon) :
    StationKeptAt none x station launch tracking faulted cfg stage belt :=
  { h with
    sound := fun hx => { h.sound hx with
      agrees := fun c hc _ => by
        by_cases he : c = k
        · subst c
          exact hk.resolve_left hc
        · exact (h.sound hx).agrees c hc (fun hs => he (Option.some.inj hs)) } }

/-- A tracking state of which nothing has been said. -/
theorem StationKeptAt.of_tracking {station : Station} {launch : Launch} {tracking : Tracking} {faulted : Bool}
    {cfg : Settings} {stage belt : Holder} (new : Tracking)
    (h : StationKeptAt (some .tracking) x station launch tracking faulted cfg stage belt) :
    StationKeptAt (some .tracking) x station launch new faulted cfg stage belt :=
  { h with
    sound := fun hx => { h.sound hx with
      agrees := fun c hc hn => by
        have := (h.sound hx).agrees c hc hn
        cases c
        case tracking => exact absurd rfl hn
        all_goals exact this } }

/-- A line condition of which nothing has been said. -/
theorem StationKeptAt.of_faulted {station : Station} {launch : Launch} {tracking : Tracking} {faulted : Bool}
    {cfg : Settings} {stage belt : Holder} (new : Bool)
    (h : StationKeptAt (some .line) x station launch tracking faulted cfg stage belt) :
    StationKeptAt (some .line) x station launch tracking new cfg stage belt :=
  { h with
    sound := fun hx => { h.sound hx with
      agrees := fun c hc hn => by
        have := (h.sound hx).agrees c hc hn
        cases c
        case line => exact absurd rfl hn
        all_goals exact this } }

/-- A horizon of which nothing has been said. -/
theorem StationKeptAt.of_horizon {station : Station} {launch : Launch} {tracking : Tracking} {faulted : Bool}
    {cfg : Settings} {stage belt : Holder} (new : Nat)
    (h : StationKeptAt (some .horizon) x station launch tracking faulted cfg stage belt) :
    StationKeptAt (some .horizon) x station { launch with horizon := new } tracking faulted cfg stage belt :=
  { h with
    flight := h.flight
    idle := h.idle
    sound := fun hx => { h.sound hx with
      agrees := fun c hc hn => by
        have := (h.sound hx).agrees c hc hn
        cases c
        case horizon => exact absurd rfl hn
        all_goals exact this } }

theorem addHold_stationKept (k : HoldCause) (h : StationKept (some k) x s) :
    StationKept (some k) x (addHold k s) := by
  by_cases hhas : s.station.holds.has k = true
  · rwa [addHold_of_has hhas]
  · rw [Bool.not_eq_true] at hhas
    have hmoved (m : Station) (hm : m.holds = s.station.holds.put true k)
        (hmode : m.mode = if s.station.mode = .running ∧ s.station.holds.isEmpty = true then .holding
          else s.station.mode) (hcause : m.cause = s.station.cause) (hagain : m.again = s.station.again) :=
      h.of_holds (moved := m) (b := true) hm (by simpa using hmode) hcause hagain hhas
    unfold addHold
    rw [if_neg (by simp [hhas])]
    dsimp only
    split
    · rename_i hrun
      rw [Bool.and_eq_true, beq_iff_eq] at hrun
      refine leaveRunning_stationKept (s := setMode .holding (setHolds (s.station.holds.put true k) s)) ?_
      have := hmoved { s.station with holds := s.station.holds.put true k, mode := .holding } rfl (by rw [if_pos hrun])
        rfl rfl
      simpa [setMode, setHolds] using this
    · rename_i hrun
      rw [Bool.and_eq_true, beq_iff_eq] at hrun
      have := hmoved { s.station with holds := s.station.holds.put true k } rfl (by rw [if_neg hrun]) rfl rfl
      simpa [setHolds] using this

theorem removeHold_stationKept (k : HoldCause) (h : StationKept (some k) x s) :
    StationKept (some k) x (removeHold k s) := by
  by_cases hhas : s.station.holds.has k = true
  · have hmoved (m : Station) (hm : m.holds = s.station.holds.put false k)
        (hmode : m.mode = if s.station.mode = .holding ∧ (s.station.holds.put false k).isEmpty = true then .running
          else s.station.mode) (hcause : m.cause = s.station.cause) (hagain : m.again = s.station.again) :=
      h.of_holds (moved := m) (b := false) hm (by simpa using hmode) hcause hagain hhas
    unfold removeHold
    rw [if_pos hhas]
    dsimp only
    split
    · rename_i hhold
      rw [Bool.and_eq_true, beq_iff_eq] at hhold
      have := hmoved { s.station with holds := s.station.holds.put false k, mode := .running } rfl (by rw [if_pos hhold])
        rfl rfl
      simpa [setMode, setHolds] using this
    · rename_i hhold
      rw [Bool.and_eq_true, beq_iff_eq] at hhold
      have := hmoved { s.station with holds := s.station.holds.put false k } rfl (by rw [if_neg hhold]) rfl rfl
      simpa [setHolds] using this
  · rw [Bool.not_eq_true] at hhas
    rwa [removeHold_of_not_has hhas]

theorem addHold_faulted (k : HoldCause) (s : State) : (addHold k s).line.faulted = s.line.faulted := by
  have hleave (u : State) : (leaveRunning u).line.faulted = u.line.faulted := by
    unfold leaveRunning
    split
    · rfl
    · split <;> rfl
  unfold addHold
  split
  · rfl
  · dsimp only
    split
    · rw [hleave]
      simp [setMode, setHolds]
    · simp [setHolds]

theorem removeHold_faulted (k : HoldCause) (s : State) : (removeHold k s).line.faulted = s.line.faulted := by
  unfold removeHold
  split
  · dsimp only
    split <;> simp [setMode, setHolds]
  · rfl

theorem addHold_has (k : HoldCause) (s : State) : (addHold k s).station.holds.has k = true := by
  by_cases hhas : s.station.holds.has k = true
  · rwa [addHold_of_has hhas]
  · rw [addHold_station k s (by simpa using hhas)]
    simp

theorem removeHold_has (k : HoldCause) (s : State) : (removeHold k s).station.holds.has k = false := by
  by_cases hhas : s.station.holds.has k = true
  · rw [removeHold_station k s hhas]
    simp
  · rw [Bool.not_eq_true] at hhas
    rwa [removeHold_of_not_has hhas]

@[simp] theorem addHold_bank_stationKept (h : StationKept none x s) : StationKept none x (addHold .bank s) :=
  (addHold_stationKept .bank (h.except .bank)).of_agreed (.inl rfl)

@[simp] theorem removeHold_bank_stationKept (h : StationKept none x s) : StationKept none x (removeHold .bank s) :=
  (removeHold_stationKept .bank (h.except .bank)).of_agreed (.inl rfl)

/-! ## The horizon (R126, R127) -/

@[simp] theorem addHold_horizon (k : HoldCause) (s : State) : (addHold k s).launch.horizon = s.launch.horizon := by
  unfold addHold
  split
  · rfl
  · dsimp only
    split
    · rw [leaveRunning_launch_horizon]
      simp
    · simp

@[simp] theorem removeHold_horizon (k : HoldCause) (s : State) : (removeHold k s).launch.horizon = s.launch.horizon := by
  simp

theorem reportHorizon_stationKept (h : StationKept (some .horizon) x s) : StationKept none x (reportHorizon s) := by
  unfold reportHorizon
  split
  · rename_i hfar
    refine (addHold_stationKept .horizon h).of_agreed (.inr ?_)
    rw [addHold_has]
    simpa [HoldCause.stands] using hfar
  · rename_i hnear
    refine (removeHold_stationKept .horizon h).of_agreed (.inr ?_)
    rw [removeHold_has]
    simpa [HoldCause.stands] using hnear

@[simp] theorem recomputeHorizon_stationKept (h : StationKept none x s) : StationKept none x (recomputeHorizon s) :=
  reportHorizon_stationKept ((h.except .horizon).of_horizon _)

/-! ## Withdrawal, verdicts and the launch edge -/

@[simp] theorem governedAway_stationKept (d : Tray) (h : StationKept but x s) : StationKept but x (governedAway d s) := by
  unfold governedAway
  repeat' split
  · exact withdraw_stationKept _ h
  · exact lateConflict_stationKept h
  · exact h
  · exact h
  · exact lateConflict_stationKept h
  · exact h
  · exact h

@[simp] theorem takeVerdict_stationKept (h : StationKept but x s) : StationKept but x (takeVerdict s) := by
  unfold takeVerdict
  repeat' split
  · exact h
  · exact h
  · exact h.of_less id (fun _ => rfl) rfl
  · refine reportFault_stationKept nofun ?_
    simpa using h

@[simp] theorem launchEvent_stationKept (reading : Option Bool) (h : StationKept but x s) :
    StationKept but x (launchEvent reading s) := by
  have hflight : StationKept but x (flightEvent reading s) := by
    unfold flightEvent
    split
    · exact h
    · rename_i f hf
      have hread : StationKept but x (s.withLaunch
          { s.launch with flight := some (Flight.read { f with timing := f.timing.event } reading) }) :=
        h.of_less id (fun hn => nomatch hf.symm.trans hn) rfl
      dsimp only
      split
      · exact hread
      · exact takeVerdict_stationKept hread
  unfold launchEvent commitmentEvent
  generalize flightEvent reading s = u at hflight
  dsimp only
  split
  · exact hflight
  · rename_i k hk
    have htimed (t : Option EdgeTiming) :
        StationKept but x (u.withLaunch { u.launch with commitment := some { k with timing := t } }) :=
      hflight.of_less (fun hn => nomatch hk.symm.trans hn) id rfl
    repeat' split
    · exact htimed _
    · exact htimed _
    · exact abandon_stationKept _ hflight
    · exact hflight

@[simp] theorem lineEvent_stationKept (last : Bool) (h : StationKept but x s) :
    StationKept but x (lineEvent last s) := by
  unfold lineEvent
  refine foldl_keeps (P := fun s => StationKept but x s) (fun u f hu => ?_) _ ?_
  · unfold reportDeadline
    repeat' split
    · exact hu
    · exact abandon_stationKept _ hu
    · exact hu
    · exact hu
    · exact hu
    · exact hu
    · exact hu
  · dsimp only
    split <;> exact h

/-! ## The window -/

@[simp] theorem placePart_stationKept (offset : Nat) (p : Part) (h : StationKept but x s) :
    StationKept but x (placePart offset p s) := by
  have happly : StationKept but x (applyPart p s) := by
    unfold applyPart
    repeat' split
    · exact h
    · exact h
    · exact governedAway_stationKept _ h
    · exact h
    · exact h
    · exact h
  have hjoin (b : Bool) : StationKept but x (joinPending p b s) := by simpa using h
  unfold placePart
  dsimp only
  repeat' split
  · exact h
  · exact happly
  · exact hjoin _
  · exact h

@[simp] theorem hearParts_stationKept (k : LaneOrdinal) (valid : Bool) (parts : List Part)
    (h : StationKept but x s) : StationKept but x (hearParts k valid parts s) := by
  unfold hearParts
  split
  · exact h
  · split
    · exact h
    · split
      · exact foldl_keeps (P := fun s => StationKept but x s) (fun u p hu => placePart_stationKept _ p hu) _ h
      · exact h

/-! ## The share unit -/

@[simp] theorem epochEvent_stationKept (h : StationKept none x s) : StationKept none x (epochEvent s) := by
  unfold epochEvent
  split
  · have hhorizon (u : State) (hu : StationKept none x u) :
        StationKept none x (recomputeHorizon (recomputeShare (agePeers (request .demand u)))) :=
      recomputeHorizon_stationKept (by simpa using hu)
    have := hhorizon (s.withShare { s.share with epochCount := 0 }) h
    simpa [epochBoundary] using this
  · exact h

theorem epochEvent_takesLaneEvents (ht : takesLaneEvents s = true) : takesLaneEvents (epochEvent s) = true := by
  have hreport (u : State) (hu : takesLaneEvents u = true) : takesLaneEvents (reportHorizon u) = true := by
    rw [takesLaneEvents_iff] at hu ⊢
    unfold reportHorizon
    split
    · rcases addHold_mode .horizon u with hm | ⟨-, hm⟩
      · rwa [hm]
      · exact .inr (.inr hm)
    · rcases removeHold_mode .horizon u with hm | ⟨-, hm⟩
      · rwa [hm]
      · exact .inr (.inl hm)
  have hcongr {u v : State} (huv : u.station = v.station) : takesLaneEvents u = takesLaneEvents v := by
    simp only [takesLaneEvents, huv]
  unfold epochEvent
  split
  · rw [epochBoundary, hcongr (v := recomputeHorizon (recomputeShare (agePeers (request .demand
      (s.withShare { s.share with epochCount := 0 }))))) (by simp)]
    exact hreport _ (by rw [hcongr (v := s) (by simp)]; exact ht)
  · exact ht

@[simp] theorem decideTray_stationKept (e d : Tray) (ht : takesLaneEvents s = true) (h : StationKept but x s) :
    StationKept but x (decideTray e d s) := by
  have hclaim (r : Parcel) (u : State) (htu : takesLaneEvents u = true) (hu : StationKept but x u) :
      StationKept but x (makeClaim e d r u) := by
    unfold makeClaim commitClaim
    dsimp only
    split
    · refine makeCommitment_stationKept _ ?_ ?_
      · simpa [takesLaneEvents, foldl_station (fun s d => setDecided d (setMark .claimedByMe d s))] using htu
      · simpa [foldl_station (fun s d => setDecided d (setMark .claimedByMe d s)),
          foldl_launch (fun s d => setDecided d (setMark .claimedByMe d s)),
          foldl_tracker (fun s d => setDecided d (setMark .claimedByMe d s)),
          foldl_line (fun s d => setDecided d (setMark .claimedByMe d s)),
          foldl_cfg (fun s d => setDecided d (setMark .claimedByMe d s)),
          foldl_lane (fun s d => setDecided d (setMark .claimedByMe d s))] using hu
    · simpa [refuseClaim, foldl_station (fun s d => setDecided d (setMark .claimedByMe d s)),
          foldl_launch (fun s d => setDecided d (setMark .claimedByMe d s)),
          foldl_tracker (fun s d => setDecided d (setMark .claimedByMe d s)),
          foldl_line (fun s d => setDecided d (setMark .claimedByMe d s)),
          foldl_cfg (fun s d => setDecided d (setMark .claimedByMe d s)),
          foldl_lane (fun s d => setDecided d (setMark .claimedByMe d s))] using hu
  unfold decideTray
  dsimp only
  repeat' split
  · simpa using h
  · exact hclaim _ _ (by simpa [takesLaneEvents] using ht) (by simpa using h)
  · simpa using h
  · simpa using h
  · simpa using h

/-- The share unit claims only where it finds the station Running (R107). -/
@[simp] theorem shareEvent_stationKept (h : StationKept none x s) : StationKept none x (shareEvent s) := by
  unfold shareEvent
  split
  · exact epochEvent_stationKept h
  · rename_i e _
    have hexpired : StationKept none x (expireHolds e s) := by simpa using h
    have hcounted (d : Tray) :
        StationKept none x (countFree d (passOver e s.launch.horizon (epochEvent (expireHolds e s)))) := by
      simpa using epochEvent_stationKept hexpired
    dsimp only
    split
    · split
      · rename_i hdue
        simp only [decisionDue, Bool.and_eq_true, beq_iff_eq] at hdue
        refine decideTray_stationKept _ _ ?_ (hcounted _)
        have htakes : takesLaneEvents (expireHolds e s) = true :=
          takesLaneEvents_iff.mpr (.inr (.inl (by simpa using hdue.1.1.1)))
        simpa [takesLaneEvents] using epochEvent_takesLaneEvents htakes
      · exact hcounted _
    · simpa using epochEvent_stationKept hexpired

/-! ## Tracking (R43 to R50) -/

theorem resyncHold_stationKept (h : StationKept (some .tracking) x s) :
    StationKept (some .tracking) x (resyncHold s) := by
  have hresync : StationKept (some .tracking) x (resync s) := by
    unfold resync
    exact dropCommitment_stationKept (by simpa using h)
  exact addHold_stationKept .tracking hresync

theorem resyncHold_has (s : State) : (resyncHold s).station.holds.has .tracking = true := addHold_has _ _

@[simp] theorem implausibleInterval_stationKept (h : StationKept none x s) :
    StationKept none x (implausibleInterval s) := by
  have hlost (hist : List Ticks) (u : State) (hu : StationKept none x u) :
      StationKept (some .tracking) x (loseTracking (u.withTracker { u.tracker with history := hist })) :=
    (hu.except .tracking).of_tracking .unsynced
  unfold implausibleInterval
  dsimp only
  split
  · refine (resyncHold_stationKept (hlost _ _ (by simpa using h))).of_agreed (.inr ?_)
    rw [resyncHold_has]
    simp [loseTracking, HoldCause.stands]
  · rename_i hu
    have hunsynced : s.tracker.tracking = .unsynced := by simpa [tracked] using hu
    simp only [StationKept, hunsynced] at h
    exact h

theorem advanceCount_stationKept (count home : Nat) (loaded : Bool) (h : StationKept none x s) :
    StationKept none x (advanceCount count home loaded s) := by
  unfold advanceCount
  dsimp only
  split
  · rename_i hlocks
    refine (removeHold_stationKept .tracking ?_).of_agreed (.inr ?_)
    · have := (h.except .tracking).of_tracking .locked
      simpa [hlocks] using this
    · rw [removeHold_has]
      simp [HoldCause.stands]
  · rename_i hlocks
    simpa [hlocks] using h

@[simp] theorem takeTurn_stationKept (turn : TrayTurn) (loaded : Bool)
    (hfill : turn = .entersFilling → s.tracker.tracking = .unsynced) (h : StationKept none x s) :
    StationKept none x (takeTurn turn loaded s) := by
  have hfilled {u : State} (hu : StationKept (some .tracking) x u) (hhas : u.station.holds.has .tracking = true) :
      StationKept none x (enterFilling u) := by
    refine StationKeptAt.of_agreed (k := .tracking) ?_ (.inr ?_)
    · simpa [enterFilling] using hu.of_tracking .filling
    · exact hhas.trans (by simp [HoldCause.stands, enterFilling])
  unfold takeTurn
  split
  · exact h
  · exact implausibleInterval_stationKept h
  · have hu := hfill rfl
    have hkept : StationKept (some .tracking) x (enterFilling s) := by
      simpa [enterFilling] using (h.except .tracking).of_tracking .filling
    refine { hkept with sound := fun hx => { hkept.sound hx with agrees := fun c hc _ => ?_ } }
    have := (h.sound hx).agrees c hc nofun
    cases c
    case tracking => exact this.trans (by rw [hu]; rfl)
    all_goals simpa [HoldCause.stands] using this
  · have := hfilled (resyncHold_stationKept (h.except .tracking)) (resyncHold_has s)
    simpa using this
  · have hlost := resyncHold_stationKept (s := loseTracking s) ((h.except .tracking).of_tracking .unsynced)
    have := hlost.of_agreed (.inr (by rw [resyncHold_has]; simp [loseTracking, HoldCause.stands]))
    simpa using this
  · exact advanceCount_stationKept _ _ _ h

/-! ## The line condition (R67) -/

theorem execLineFault_stationKept (dominant : Nat) :
    Leads (fun t => StationKept none s t) (execLineFault dominant s) := by
  have hstop (u : State) (hu : StationKept none s u) :
      StationKept none s (addHold .line (setFlag .lineFault (stopAssembling
        (u.withLine { u.line with faulted := true })))) := by
    have hfaulted : (stopAssembling (u.withLine { u.line with faulted := true })).line.faulted = true := by
      unfold stopAssembling
      split <;> rfl
    refine (addHold_stationKept .line ?_).of_agreed (.inr ?_)
    · simpa [hfaulted] using (hu.except .line).of_faulted true
    · rw [addHold_has, addHold_faulted]
      simp [HoldCause.stands, hfaulted]
  unfold execLineFault
  split
  · refine leads_next.mpr (hstop _ ?_)
    split
    · simpa using StationKept.refl s
    · exact .refl s
  · exact leads_next.mpr (.refl s)

theorem execLineConditionNormal_stationKept (recessive : Nat) :
    Leads (fun t => StationKept none s t) (execLineConditionNormal recessive s) := by
  unfold execLineConditionNormal
  split
  · refine leads_next.mpr ((removeHold_stationKept .line ?_).of_agreed (.inr ?_))
    · simpa using ((StationKept.refl s).except .line).of_faulted false
    · rw [removeHold_has, removeHold_faulted]
      simp [HoldCause.stands, awaitStart]
  · exact leads_next.mpr (.refl s)

/-! ## The commands -/

theorem execTrayEdgeEvent_stationKept (home load confirm last : Bool) :
    Leads (fun t => StationKept none s t) (execTrayEdgeEvent home load confirm last s) := by
  unfold execTrayEdgeEvent
  split
  · have hfill : trayTurn s.cfg home s.tracker = .entersFilling → s.tracker.tracking = .unsynced := by
      intro h
      unfold trayTurn at h
      dsimp only at h
      repeat' split at h
      all_goals first | assumption | cases h
    have hturn : StationKept none s (takeTurn (trayTurn s.cfg home s.tracker) load
        (trackerTimes confirm (ageVacates s))) := by
      exact takeTurn_stationKept _ _ (fun h => hfill h) (StationKept.refl s)
    refine leads_next.mpr ?_
    simpa using lineEvent_stationKept last (launchEvent_stationKept _ (shareEvent_stationKept hturn))
  · exact leads_next.mpr (.refl s)

/-- The commands whose effect on station control or the launch unit is no part of `StationKept`: the loader's own,
the launch moment and Clear. -/
def Instr.movesStation : Instr → Bool
  | .powerOnReset | .launchMoment | .clear _ _ => true
  | c => Instr.onMemoryPort c

theorem giveBackStage_stationKept (h : StationKept but x s) : StationKept but x (giveBackStage s) :=
  h.of_given_back (fun _ => rfl) id

theorem giveBackLaunch_stationKept (h : StationKept but x s) : StationKept but x (giveBackLaunch s) :=
  h.of_given_back (fun _ => rfl) (fun _ => rfl)

theorem markChecked_stationKept (h : StationKept but x s) : StationKept but x (markChecked s) :=
  h.of_less id (fun hn => congrArg (Option.map _) hn) rfl

theorem exitCheck_stationKept (h : StationKept but x s) : StationKept but x (exitCheck s) := by
  unfold exitCheck
  repeat' split
  · exact h
  · exact h
  · exact markChecked_stationKept h
  · simpa [launchWarning] using markChecked_stationKept h

/-- A press of START or STOP that moves the station (R158 to R160). -/
theorem StationKeptAt.of_pressed {station moved : Station} {launch : Launch} {tracking : Tracking} {faulted : Bool}
    {cfg : Settings} {stage belt : Holder}
    (h : StationKeptAt none x station launch tracking faulted cfg stage belt)
    (hm : station.mode ≠ .faulted) (hmoved : moved = { station with mode := moved.mode })
    (hmode : moved.mode = .idle ∨ moved.mode = .running ∧ station.holds.isEmpty = true ∨
      moved.mode = .holding ∧ station.holds.isEmpty = false) :
    StationKeptAt none x moved launch tracking faulted cfg stage belt where
  fault hx := absurd (h.fault hx).1 hm
  flight := h.flight
  idle _ := by
    rcases hmode with hm | ⟨hm, -⟩ | ⟨hm, -⟩
    · exact .inl hm
    · exact .inr (.inl hm)
    · exact .inr (.inr (.inl hm))
  sound hx := by
    have hs := h.sound hx
    have hfaulted : moved.mode ≠ .faulted := by
      rcases hmode with hm | ⟨hm, -⟩ | ⟨hm, -⟩ <;> simp [hm]
    have hcause : station.cause = .none := by
      simpa using (not_congr hs.faulted).mp hm
    refine ControlSound.mk ?_ ?_ (fun hr => ?_) (fun hh => ?_) ?_ ?_
    · rcases hmode with hm | ⟨hm, -⟩ | ⟨hm, -⟩ <;> simp [hm]
    · rw [hmoved]
      exact hs.agrees
    · rw [hmoved]
      rcases hmode with hm | ⟨-, he⟩ | ⟨hm, -⟩
      · exact nomatch hm.symm.trans hr
      · exact he
      · exact nomatch hm.symm.trans hr
    · rw [hmoved]
      rcases hmode with hm | ⟨hm, -⟩ | ⟨-, he⟩
      · exact nomatch hm.symm.trans hh
      · exact nomatch hm.symm.trans hh
      · exact he
    · exact ⟨fun h => absurd h hfaulted, fun h => absurd (show moved.cause = .none by rw [hmoved]; exact hcause) h⟩
    · intro c hc
      rw [hmoved] at hc
      exact absurd (hc.symm.trans (hs.not_again hm)) nofun

theorem setMode_stationKept {m : Mode} (hf : s.station.mode ≠ .faulted)
    (hmode : m = .idle ∨ m = .running ∧ s.station.holds.isEmpty = true ∨
      m = .holding ∧ s.station.holds.isEmpty = false) : StationKept none s (setMode m s) := by
  have := (StationKept.refl s).of_pressed (moved := { s.station with mode := m }) hf rfl hmode
  simpa [setMode] using this

theorem exec_stationKept (hc : Instr.movesStation c = false) :
    Leads (fun t => StationKept none s t) (exec c s) := by
  have hrefl := StationKept.refl s
  have hjam (z : Zone) (measure transfer stage exit stray : Bool) :
      StationKept none s (reportJam z (s.withLane { s.lane with
        measureEye := measure, transferEye := transfer, stageEye := stage, exitEye := exit, transferStray := stray })) :=
    reportJam_stationKept z hrefl
  have herror : StationKept none s (frameError s) := hrefl
  have hclash : StationKept none s (ordinalClash (awaitStart s)) := ordinalClash_stationKept hrefl
  cases c
  case powerOnReset | launchMoment | clear | lineRecovery | refusal | transfer => exact nomatch hc
  case trayEdgeEvent => exact execTrayEdgeEvent_stationKept _ _ _ _
  case lineFault => exact execLineFault_stationKept _
  case lineConditionNormal => exact execLineConditionNormal_stationKept _
  case stageEyeClearing =>
    dsimp only [exec, execStageEyeClearing]
    repeat' split
    · have := giveBackStage_stationKept (s := s.withLane { s.lane with stageEye := false }) hrefl
      simpa using this
    · simpa [removeRejected] using hrefl
    · exact leads_next.mpr (hjam _ _ _ _ _ _)
    · exact leads_next.mpr hrefl
    · exact leads_next.mpr hrefl
    · exact leads_next.mpr hrefl
  case exitEyeClearing =>
    dsimp only [exec, execExitEyeClearing]
    repeat' split
    · have := takeVerdict_stationKept (giveBackLaunch_stationKept
        (exitCheck_stationKept (s := s.withLane { s.lane with exitEye := false }) hrefl))
      simpa using this
    · exact leads_next.mpr hrefl
    · exact leads_next.mpr hrefl
  case measureEyeFrontEdge | transferEyeFrontEdge | stageEyeFrontEdge =>
    dsimp only [exec, execMeasureEyeFrontEdge, execTransferEyeFrontEdge, execStageEyeFrontEdge]
    repeat' split
    · exact leads_next.mpr hrefl
    · simp [hrefl, restartStall, createRecord]
    · exact leads_next.mpr (hjam _ _ _ _ _ _)
    · exact leads_next.mpr hrefl
  case transferEyeClearing =>
    dsimp only [exec, execTransferEyeClearing]
    repeat' split
    · exact leads_next.mpr (hjam _ _ _ _ _ _)
    · simp [hrefl]
    · exact leads_next.mpr hrefl
    · exact leads_next.mpr hrefl
  case exitEyeFrontEdge =>
    dsimp only [exec, execExitEyeFrontEdge]
    repeat' split
    · exact leads_next.mpr hrefl
    · exact leads_next.mpr (hjam _ _ _ _ _ _)
    · exact leads_next.mpr hrefl
  case stallTimerRunsOut =>
    dsimp only [exec, execStallTimerRunsOut]
    split
    · exact leads_next.mpr (reportJam_stationKept _ hrefl)
    · exact leads_next.mpr hrefl
  case placeEyeFrontEdge | measureEyeClearing =>
    dsimp only [exec, execPlaceEyeFrontEdge, execMeasureEyeClearing]
    repeat' split
    all_goals simp [hrefl, raisePlace]
  case scanRecord chars =>
    dsimp only [exec, execScanRecord]
    split <;> simp [foldl_station takeChar, foldl_launch takeChar, foldl_tracker takeChar, foldl_line takeChar,
      foldl_cfg takeChar, foldl_takeChar_holders, hrefl]
  case timeout =>
    dsimp only [exec, execTimeout]
    split
    · refine leads_next.mpr (implausibleInterval_stationKept ?_)
      have htracking : (trackerTimesOut s).tracker.tracking = s.tracker.tracking := by
        rw [trackerTimesOut_tracker]
        split <;> rfl
      simpa [htracking] using hrefl
    · exact leads_next.mpr hrefl
  case scanWindowRunsOut | confirmEyeBlocked =>
    dsimp only [exec, execScanWindowRunsOut, execConfirmEyeBlocked]
    split <;> simp [hrefl]
  case exitWindowClosing =>
    dsimp only [exec, execExitWindowClosing]
    split
    · simpa [launchWarning] using markChecked_stationKept hrefl
    · exact leads_next.mpr hrefl
  case joiningEnds | frameBegin | lostArbitration | bitError | bitTimingError | claimCompletion | holdCompletion
      | frameCompletion =>
    dsimp only [exec, execJoiningEnds, execFrameBegin, execLostArbitration, execBitError, execBitTimingError,
      execClaimCompletion, execHoldCompletion, execFrameCompletion]
    repeat' split
    all_goals simp [hrefl]
  case claimNotice =>
    refine leads_receiveFrame hrefl herror hclash ?_
    have hheard (k : LaneOrdinal) (n : Nat) (span : Span) : StationKept none s (hearClaim k n span (awaitStart s)) :=
      hearParts_stationKept _ _ _ hrefl
    dsimp only
    split
    · simpa using hheard _ _ _
    · exact hheard _ _ _
  case holdNotice | vacateNotice =>
    exact leads_receiveFrame hrefl herror hclash (hearParts_stationKept _ _ _ hrefl)
  case demandNotice =>
    refine leads_receiveFrame hrefl herror hclash ?_
    simpa using hrefl
  case statNotice | unknownKindFrame =>
    exact leads_receiveFrame hrefl herror hclash hrefl
  case bankHold =>
    dsimp only [exec, execBankHold]
    exact leads_receiveBank hrefl herror hclash hrefl (fun _ => addHold_bank_stationKept hrefl)
  case bankResume =>
    dsimp only [exec, execBankResume]
    exact leads_receiveBank hrefl herror hclash hrefl (fun _ => removeHold_bank_stationKept hrefl)
  case bankPace =>
    dsimp only [exec, execBankPace]
    exact leads_receiveBank hrefl herror hclash hrefl (fun _ => hrefl)
  case start =>
    dsimp only [exec, execStart]
    split
    · rename_i hp
      simp only [Bool.and_eq_true, beq_iff_eq] at hp
      have := setMode_stationKept (s := s) (m := if s.station.holds.isEmpty then .running else .holding)
        (by simp [hp.2]) (by cases s.station.holds.isEmpty <;> simp)
      simpa using this
    · exact leads_next.mpr hrefl
  case stop =>
    have hidle (hm : s.station.mode ≠ .faulted) : StationKept none s (setMode .idle s) :=
      setMode_stationKept hm (.inl rfl)
    dsimp only [exec, execStop]
    repeat' split
    · rename_i hp
      simp only [Bool.and_eq_true, beq_iff_eq] at hp
      simpa using leaveRunning_stationKept (hidle (by simp [hp.2]))
    · rename_i hp
      simp only [Bool.and_eq_true, beq_iff_eq] at hp
      simpa using hidle (by simp [hp.2])
    · exact leads_next.mpr hrefl
  case paceTimerRunsOut | faultBlinkPhase | faultBlinkEnd =>
    dsimp only [exec, execPaceTimerRunsOut, execFaultBlinkPhase, execFaultBlinkEnd]
    repeat' split
    all_goals simp [hrefl]

end Sys2Proof.Machine
end

section
/-! PROOFS. Rules of the whole part (R107, R134, R161, R163): what the commands that move the station or launch do,
and the statement that joins them with what every other command keeps. -/

namespace Sys2Proof.Machine

variable {s t : State} {c : Instr}

/-! ## The waiting commands (log entry 1) -/

theorem exec_leaves_pending : Leads (fun t => t.pending = s.pending) (exec c s) := by
  cases c
  case powerOnReset => exact leads_next.mpr rfl
  case lineRecovery | refusal | transfer =>
    dsimp only [exec, execLineRecovery, execRefusal, execTransfer]
    repeat' split
    all_goals simp
  case placeEyeFrontEdge | measureEyeFrontEdge | measureEyeClearing | transferEyeFrontEdge | transferEyeClearing
      | stageEyeFrontEdge | stageEyeClearing | exitEyeFrontEdge | exitEyeClearing | stallTimerRunsOut =>
    dsimp only [exec, execPlaceEyeFrontEdge, execMeasureEyeFrontEdge, execMeasureEyeClearing,
      execTransferEyeFrontEdge, execTransferEyeClearing, execStageEyeFrontEdge, execStageEyeClearing,
      execExitEyeFrontEdge, execExitEyeClearing, execStallTimerRunsOut]
    repeat' split
    all_goals simp
  case scanRecord chars =>
    dsimp only [exec, execScanRecord]
    split <;> simp [foldl_pending takeChar]
  case scanWindowRunsOut | trayEdgeEvent | confirmEyeBlocked | timeout =>
    dsimp only [exec, execScanWindowRunsOut, execTrayEdgeEvent, execConfirmEyeBlocked, execTimeout]
    split <;> simp
  case launchMoment | exitWindowClosing =>
    dsimp only [exec, execLaunchMoment, execExitWindowClosing]
    repeat' split
    all_goals simp
  case joiningEnds | frameBegin | lostArbitration | bitError | bitTimingError | lineFault | lineConditionNormal
      | claimCompletion | holdCompletion | frameCompletion =>
    dsimp only [exec, execJoiningEnds, execFrameBegin, execLostArbitration, execBitError, execBitTimingError,
      execLineFault, execLineConditionNormal, execClaimCompletion, execHoldCompletion, execFrameCompletion]
    repeat' split
    all_goals simp
  case claimNotice =>
    refine leads_receiveFrame (P := fun t => t.pending = s.pending) rfl (by simp) (by simp [ordinalClash]) ?_
    dsimp only
    split <;> simp
  case holdNotice | vacateNotice | demandNotice | statNotice | unknownKindFrame =>
    exact leads_receiveFrame (P := fun t => t.pending = s.pending) rfl (by simp) (by simp [ordinalClash]) (by simp)
  case bankHold | bankResume | bankPace =>
    dsimp only [exec, execBankHold, execBankResume, execBankPace]
    exact leads_receiveBank (P := fun t => t.pending = s.pending) rfl (by simp) (by simp [ordinalClash]) (by simp)
      (fun bits => by simp)
  case start | stop | clear | paceTimerRunsOut | faultBlinkPhase | faultBlinkEnd =>
    dsimp only [exec, execStart, execStop, execClear, execPaceTimerRunsOut, execFaultBlinkPhase, execFaultBlinkEnd]
    repeat' split
    all_goals simp

/-! ## The launch moment (R134, R135) -/

/-- All that LAUNCH_MOMENT can do. -/
inductive LaunchStep (s : State) : State → Prop where
  | still : LaunchStep s s
  | jam (k : Commitment) (hk : s.launch.commitment = some k) : LaunchStep s (reportJam .launch s)
  | launched (k : Commitment) (x : EdgeTiming) (hk : s.launch.commitment = some k)
      (hp : phaseOf s k.seq = some .announced)
      (hfree : ∀ d ∈ claimTrays s.cfg.trays k.tray k.span, trayBarred s d = false)
      (hlone : ∀ r ∈ s.lane.queue, r.phase ≠ .launching) : LaunchStep s (startLaunch k x s)

theorem launchStep_of_exec (h : execLaunchMoment s = .next t) : LaunchStep s t := by
  unfold execLaunchMoment at h
  split at h
  · cases h
    exact .still
  · rename_i k hk
    split at h
    · cases h
      exact .still
    · split at h
      · cases h
        exact .still
      · split at h
        · cases h
          exact .still
        · rename_i hp
          split at h
          · cases h
            exact .still
          · rename_i hfree
            split at h <;> cases h
            · exact .jam k hk
            · rename_i hlone
              exact .launched k _ hk (by simpa using hp) (by simpa using hfree) (by simpa using hlone)

theorem startLaunch_launch (k : Commitment) (x : EdgeTiming) (s : State) :
    (startLaunch k x s).launch = { commitment := none, flight := some (flightOf s k x), horizon := s.launch.horizon } := by
  simp [startLaunch]

/-! ## Faulted (R161, R163, R166) -/

theorem station_eq_of_mode_cause (hm : t.station.mode = s.station.mode) (hc : t.station.cause = s.station.cause) :
    t.station = { s.station with holds := t.station.holds, again := t.station.again } := by
  cases ht : t.station
  cases hs : s.station
  simp_all

theorem LoaderStep.eq_of_faulted (h : LoaderStep s t) (hm : s.station.mode = .faulted) : t = s :=
  h.eq_of_active (by simp [active, hm])

/-- Faulted is left by CLEAR against a clear lane and by power-on reset alone. -/
theorem exec_keeps_fault (h : exec c s = .next t) (hm : s.station.mode = .faulted) :
    t.station = { s.station with holds := t.station.holds, again := t.station.again } ∨ c = .powerOnReset ∨
      ∃ q, c = .clear q ⟨false, false, false, false, false⟩ := by
  by_cases hc : Instr.movesStation c = true
  · cases c
    case powerOnReset => exact .inr (.inl rfl)
    case lineRecovery | refusal | transfer =>
      rw [(loaderStep_of_exec rfl h).eq_of_faulted hm]
      exact .inl rfl
    case launchMoment =>
      cases launchStep_of_exec h with
      | still => exact .inl rfl
      | jam =>
        obtain ⟨hmode, hcause⟩ := (reportJam_stationKept .launch (.refl s)).fault hm
        exact .inl (station_eq_of_mode_cause (hmode.trans hm.symm) hcause)
      | launched => exact .inl (by simp [startLaunch])
    case clear q eyes =>
      by_cases heyes : eyes = ⟨false, false, false, false, false⟩
      · exact .inr (.inr ⟨q, by rw [heyes]⟩)
      · have hclear : laneClear eyes = false := by simpa using mt (laneClear_iff eyes).mp heyes
        simp only [exec, execClear, hm, hclear, Bool.false_eq_true, if_false] at h
        repeat' split at h
        all_goals cases h
        all_goals exact .inl (by simp)
    all_goals exact nomatch hc
  · have hk := exec_stationKept (by simpa using hc) t h
    obtain ⟨hmode, hcause⟩ := hk.fault hm
    exact .inl (station_eq_of_mode_cause (hmode.trans hm.symm) hcause)

/-! ## A launch begins (R134) -/

theorem reportFault_no_flight (cause : FaultCause) (hf : s.launch.flight = none) :
    (reportFault cause s).launch.flight = none := by
  unfold reportFault
  split
  · rw [enterFaulted_launch]
  · split <;> exact hf

theorem clearTogether_flight (s : State) : (clearTogether s).launch.flight = none := by
  have haccept : (acceptClear s).launch.flight = none := by simp [acceptClear]
  unfold clearTogether
  split
  · exact haccept
  · exact reportFault_no_flight _ haccept

theorem addHold_flight (k : HoldCause) (s : State) : (addHold k s).launch.flight = s.launch.flight := by
  have hleave (u : State) : (leaveRunning u).launch.flight = u.launch.flight := by
    unfold leaveRunning
    split
    · rfl
    · split <;> simp [discardCommitment]
  unfold addHold
  repeat' split
  all_goals simp [hleave]

theorem endLoading_flight (eyes : LaneEyes) (s : State) : (endLoading eyes s).launch.flight = s.launch.flight := by
  have hreport (u : State) : (reportHorizon u).launch.flight = u.launch.flight := by
    unfold reportHorizon
    split <;> simp [addHold_flight]
  simp [endLoading, hreport, addHold_flight]

/-- A launch in flight begins at the launch moment alone. -/
theorem exec_begins_flight {f : Flight} (h : exec c s = .next t) (hs : s.launch.flight = none)
    (ht : t.launch.flight = some f) : c = .launchMoment ∧
      ∃ k, s.launch.commitment = some k ∧ phaseOf s k.seq = some .announced ∧ f.seq = k.seq ∧
        f.tray = k.tray ∧ f.span = k.span ∧
        ∀ d ∈ claimTrays s.cfg.trays k.tray k.span, trayBarred s d = false := by
  by_cases hc : Instr.movesStation c = true
  · cases c
    case powerOnReset =>
      cases h
      exact nomatch ht
    case lineRecovery | refusal | transfer =>
      cases loaderStep_of_exec rfl h with
      | still | attempt | failed => exact absurd (hs.symm.trans ht) nofun
      | loaded block eyes hm hgood =>
        rw [endLoading_flight, handOver_eq] at ht
        exact absurd (hs.symm.trans ht) nofun
    case launchMoment =>
      cases launchStep_of_exec h with
      | still => exact absurd (hs.symm.trans ht) nofun
      | jam => exact absurd (((reportJam_stationKept .launch (.refl s)).flight hs).symm.trans ht) nofun
      | launched k x hk hp hfree =>
        rw [startLaunch_launch] at ht
        cases ht
        exact ⟨rfl, k, hk, hp, rfl, rfl, rfl, hfree⟩
    case clear q eyes =>
      have hclear := clearTogether_flight (readEyes eyes s)
      simp only [exec, execClear] at h
      repeat' split at h
      all_goals cases h
      · exact absurd (hclear.symm.trans ht) nofun
      · exact absurd (hs.symm.trans ht) (by simp)
      · exact absurd (hs.symm.trans ht) (by simp)
      · exact absurd (hs.symm.trans ht) (by simp)
    all_goals exact nomatch hc
  · have hk := exec_stationKept (by simpa using hc) t h
    exact absurd ((hk.flight hs).symm.trans ht) nofun

/-- Settles O60: the queue by the commands' frames, and the rest by what every command keeps of station control, the
launch unit and the line. -/
theorem wholeMachineRules : Obligations.WholeMachineRules := by
  unfold Obligations.WholeMachineRules
  intro c s t h
  refine ⟨exec_leaves_pending t h, exec_keeps_fault h, fun f hs ht => exec_begins_flight h hs ht, fun hmore => ?_⟩
  by_contra hnot
  have hk := exec_lineKept_or_joins t h
  have hclaims := hk.claims hnot
  have hholds := hk.holds hnot
  omega

end Sys2Proof.Machine
end

section
/-! PROOFS. The belts and the stall timers through every step (R2, R5, R19, R162), and station control with them
(R49, R67, R127, R156 to R161). -/

namespace Sys2Proof.Machine

variable {s t x : State} {c : Instr}

/-! ## What the belts depend on (R3 to R6, R19) -/

/-- What the belts and the stall timers look at of a record: its zone, its front edges and whether it is decided. -/
def Parcel.look (r : Parcel) : Zone × Bool × Bool × Bool :=
  (r.zone, r.atTransfer, r.atStage, r.phase == .bound || r.phase == .rejected)

/-- What they look at of the queue. -/
def looks (s : State) : List (Zone × Bool × Bool × Bool) := s.lane.queue.map Parcel.look

theorem measureFront_any_look (s : State) (p : Zone × Bool × Bool × Bool → Bool) :
    (measureFront s).any (fun r => p r.look) = ((looks s).find? (·.1 == .measure)).any p := by
  rw [looks, List.find?_map, Option.any_map]
  rfl

theorem any_look (s : State) (p : Zone × Bool × Bool × Bool → Bool) :
    s.lane.queue.any (fun r => p r.look) = (looks s).any p := by
  rw [looks, List.any_map]
  rfl

theorem waitsAtTransfer_eq (s : State) : waitsAtTransfer s =
    (s.lane.transferEye && ((looks s).find? (·.1 == .measure)).any (·.2.1)) :=
  congrArg _ (measureFront_any_look s (·.2.1))

theorem frontIsDecided_eq (s : State) :
    frontIsDecided s = ((looks s).find? (·.1 == .measure)).any (·.2.2.2) := measureFront_any_look s (·.2.2.2)

theorem stageOccupied_eq (s : State) : stageOccupied s = (looks s).any (·.1 == .stage) := any_look s (·.1 == .stage)

theorem stageResting_eq (s : State) : stageResting s = (looks s).any (fun k => k.1 == .stage && k.2.2.1) :=
  any_look s (fun k => k.1 == .stage && k.2.2.1)

theorem queueRoom_eq (s : State) : queueRoom s = decide ((looks s).length < Config.queueRoom) := by
  simp [queueRoom, looks]

theorem stallCondition_measure_eq (s : State) :
    stallCondition s .measure = ((looks s).any (fun k => k.1 == .measure && !k.2.1) && measureDraws s) :=
  congrArg (· && measureDraws s) (any_look s (fun k => k.1 == .measure && !k.2.1))

theorem stallCondition_stage_eq (s : State) :
    stallCondition s .stage = ((looks s).any (fun k => k.1 == .stage && !k.2.2.1) && stageDraws s) :=
  congrArg (· && stageDraws s) (any_look s (fun k => k.1 == .stage && !k.2.2.1))

/-- The lane of `t` looks to the belts and the stall timers as that of `s` does: only sequence numbers, the levels of
the stage and exit eyes and what no belt looks at of the records may differ. -/
structure LooksAs (s t : State) : Prop where
  lane    : t.lane = { s.lane with
    queue := t.lane.queue, nextSeq := t.lane.nextSeq, stageEye := t.lane.stageEye, exitEye := t.lane.exitEye }
  looks   : Machine.looks t = Machine.looks s
  drawing : drawing t = drawing s
  takes   : takesLaneEvents t = takesLaneEvents s

theorem LooksAs.accepts (h : LooksAs s t) : accepts t = accepts s := by
  have hlane := h.lane
  simp only [Machine.accepts, waitsAtTransfer_eq, frontIsDecided_eq, stageOccupied_eq, stageDraws, stageResting_eq,
    h.looks, h.drawing]
  rw [hlane]

theorem LooksAs.stallCondition (h : LooksAs s t) (z : Zone) : stallCondition t z = stallCondition s z := by
  have hlane := h.lane
  have hmeasure : measureDraws t = measureDraws s := by
    simp only [measureDraws, transferBlocked, strayAtTransfer, waitsAtTransfer_eq, h.accepts, h.looks, h.drawing]
    rw [hlane]
  cases z
  case place =>
    simp only [Machine.stallCondition, placeDraws, queueRoom_eq, hmeasure, h.looks, h.drawing]
    rw [hlane]
  case measure => simp only [stallCondition_measure_eq, hmeasure, h.looks]
  case stage =>
    simp only [stallCondition_stage_eq, stageDraws, stageResting_eq, h.looks, h.drawing]
    rw [hlane]
  case launch =>
    simp only [Machine.stallCondition, inProgress]
    rw [hlane]

theorem LooksAs.refl (s : State) : LooksAs s s := ⟨rfl, rfl, rfl, rfl⟩

theorem drawing_congr (h : t.station.mode = s.station.mode) : drawing t = drawing s := by simp only [drawing, h]

theorem takesLaneEvents_congr (h : t.station.mode = s.station.mode) : takesLaneEvents t = takesLaneEvents s := by
  simp only [takesLaneEvents, h]

theorem LooksAs.of_lane (hl : t.lane = s.lane) (hm : t.station.mode = s.station.mode) : LooksAs s t where
  lane := by rw [hl]
  looks := by rw [Machine.looks, Machine.looks, hl]
  drawing := drawing_congr hm
  takes := takesLaneEvents_congr hm

/-- A record changed in a way that no belt looks at. -/
theorem LooksAs.updateRecord (among : Phase → Bool) (n : SeqNo) {f : Parcel → Parcel} (s : State)
    (hf : ∀ r, among r.phase = true → (f r).look = r.look) : LooksAs s (updateRecord among n f s) where
  lane := rfl
  looks := by
    show List.map _ (modifyFirst _ _ s.lane.queue) = List.map _ s.lane.queue
    generalize s.lane.queue = q
    induction q with
    | nil => rfl
    | cons r rs ih =>
      unfold modifyFirst
      split
      · rename_i hr
        rw [List.map_cons, hf r (Bool.and_eq_true_iff.mp hr).1, List.map_cons]
      · rw [List.map_cons, ih, List.map_cons]
  drawing := rfl
  takes := rfl

/-! ## What keeps the belts sound -/

theorem BeltsSound.of_looks (hs : BeltsSound s) (hl : LooksAs s t)
    (hk : s.launch.commitment = none → t.launch.commitment = none)
    (hf : s.launch.flight = none → t.launch.flight = none) : BeltsSound t where
  settled := hl.accepts.trans hs.settled
  stall z := by
    rw [hl.stallCondition, ← hs.stall, hl.lane]
  commitment ht := hk (hs.commitment (hl.takes ▸ ht))
  flight ht := hf (hs.flight (hl.takes ▸ ht))
  holders ht := by
    rw [hl.lane]
    exact hs.holders (hl.takes ▸ ht)

theorem BeltsSound.of_frame (hs : BeltsSound s) (h : t.lane = s.lane ∧ t.launch = s.launch ∧ t.station = s.station) :
    BeltsSound t :=
  hs.of_looks (.of_lane h.1 (by rw [h.2.2])) (by rw [h.2.1]; exact id) (by rw [h.2.1]; exact id)

/-- A lane at rest: no belt draws, no timer runs and the launch unit holds nothing. -/
theorem BeltsSound.of_rest (hd : drawing s = false) (hstall : s.lane.stall = .stopped)
    (hstage : s.lane.stageHolder = .sequencer) (hlaunch : s.lane.launchHolder = .sequencer)
    (hk : takesLaneEvents s = false → s.launch.commitment = none)
    (hf : takesLaneEvents s = false → s.launch.flight = none) : BeltsSound s where
  settled := by simp [accepts, hd]
  stall z := by
    cases z <;> simp [hstall, StallTimers.get, StallTimers.stopped, stallCondition, placeDraws, measureDraws, stageDraws,
      inProgress, hd, hlaunch]
  commitment := hk
  flight := hf
  holders _ := ⟨hstage, hlaunch⟩

/-- While nothing is drawn the eyes are not looked at. -/
theorem BeltsSound.of_eyes (hs : BeltsSound s) (hd : drawing s = false) (measure transfer stage exit stray : Bool) :
    BeltsSound (s.withLane { s.lane with
      measureEye := measure, transferEye := transfer, stageEye := stage, exitEye := exit, transferStray := stray }) where
  settled := by simp [accepts, show ∀ l, drawing (s.withLane l) = drawing s from fun _ => rfl, hd]
  stall z := by
    have hstall := hs.stall z
    cases z <;> simp_all [StallTimers.get, stallCondition, placeDraws, measureDraws, stageDraws, inProgress,
      show ∀ l, drawing (s.withLane l) = drawing s from fun _ => rfl]
  commitment := hs.commitment
  flight := hs.flight
  holders := hs.holders

theorem drawing_of_not_takes (h : takesLaneEvents s = false) : drawing s = false := by
  unfold takesLaneEvents at h
  unfold drawing
  cases hm : s.station.mode <;> simp_all

theorem launchIdleAt_iff : LaunchIdleAt s.station s.launch s.lane.stageHolder s.lane.launchHolder ↔
    (takesLaneEvents s = false → s.launch.commitment = none ∧ s.launch.flight = none ∧
      s.lane.stageHolder = .sequencer ∧ s.lane.launchHolder = .sequencer) := by
  have htakes : takesLaneEvents s = true ↔ _ := takesLaneEvents_iff
  unfold LaunchIdleAt
  cases ht : takesLaneEvents s
  · simp [ht] at htakes
    simp [htakes]
  · have := htakes.mp ht
    simp only [Bool.true_eq_false, false_implies, iff_true]
    tauto

theorem BeltsSound.launchIdle (hs : BeltsSound s) :
    LaunchIdleAt s.station s.launch s.lane.stageHolder s.lane.launchHolder :=
  launchIdleAt_iff.mpr fun ht => ⟨hs.commitment ht, hs.flight ht, hs.holders ht⟩

/-- What follows at once from the lane's conditions makes the belts sound where the launch unit is. -/
theorem BeltsSound.of_settled
    (hi : LaunchIdleAt (settleLane s).station (settleLane s).launch (settleLane s).lane.stageHolder
      (settleLane s).lane.launchHolder) : BeltsSound (settleLane s) where
  settled := accepts_settleLane s
  stall := settleLane_stall s
  commitment ht := (launchIdleAt_iff.mp hi ht).1
  flight ht := (launchIdleAt_iff.mp hi ht).2.1
  holders ht := (launchIdleAt_iff.mp hi ht).2.2

/-! ## Station control and the launch unit -/

theorem Phase.not_decided_of_isClaim {p : Phase} (h : p.isClaim = true) : (p == .bound || p == .rejected) = false := by
  cases p with
  | staged | committed | announced => rfl
  | measuring | measured | bound | launching | rejected | conflict => exact nomatch h

theorem discardCommitment_beltsSound (k : Commitment) (hs : BeltsSound s) : BeltsSound (discardCommitment k s) := by
  have hl := LooksAs.updateRecord Phase.isClaim k.seq (f := Parcel.returned) s (fun r hr => by
    rw [Parcel.look, Parcel.look, Phase.not_decided_of_isClaim hr]
    rfl)
  exact hs.of_looks ⟨hl.lane, hl.looks, hl.drawing, hl.takes⟩ (fun _ => rfl) id

theorem leaveRunning_beltsSound (hs : BeltsSound s) : BeltsSound (leaveRunning s) := by
  unfold leaveRunning
  split
  · exact hs
  · split
    · exact discardCommitment_beltsSound _ (hs.of_frame (by simp))
    · exact hs

theorem dropCommitment_beltsSound (hs : BeltsSound s) : BeltsSound (dropCommitment s) := by
  unfold dropCommitment
  split
  · exact hs
  · split
    · exact (discardCommitment_beltsSound ‹_› hs).of_frame (by simp)
    · exact discardCommitment_beltsSound _ (hs.of_frame (by simp))

theorem addHold_beltsSound (k : HoldCause) (hs : BeltsSound s) : BeltsSound (addHold k s) := by
  unfold addHold
  split
  · exact hs
  · dsimp only
    split
    · rename_i hrun
      rw [Bool.and_eq_true, beq_iff_eq] at hrun
      refine leaveRunning_beltsSound (hs.of_looks ⟨by simp [setMode, setHolds], by simp [looks, setMode, setHolds], ?_, ?_⟩
        (by simp [setMode, setHolds]) (by simp [setMode, setHolds]))
      · simp [drawing, setMode, hrun.1]
      · simp [takesLaneEvents, setMode, hrun.1]
    · exact hs.of_looks (.of_lane (by simp [setHolds]) (by simp [setHolds])) (by simp [setHolds]) (by simp [setHolds])

theorem removeHold_beltsSound (k : HoldCause) (hs : BeltsSound s) : BeltsSound (removeHold k s) := by
  unfold removeHold
  split
  · dsimp only
    split
    · rename_i hhold
      rw [Bool.and_eq_true, beq_iff_eq] at hhold
      refine hs.of_looks ⟨by simp [setMode, setHolds], by simp [looks, setMode, setHolds], ?_, ?_⟩
        (by simp [setMode, setHolds]) (by simp [setMode, setHolds])
      · simp [drawing, setMode, hhold.1]
      · simp [takesLaneEvents, setMode, hhold.1]
    · exact hs.of_looks (.of_lane (by simp [setHolds]) (by simp [setHolds])) (by simp [setHolds]) (by simp [setHolds])
  · exact hs

theorem enterFaulted_beltsSound (cause : FaultCause) (s : State) : BeltsSound (enterFaulted cause s) := by
  refine .of_rest ?_ ?_ (enterFaulted_holders cause s).1 (enterFaulted_holders cause s).2 (fun _ => ?_) (fun _ => ?_)
  · simp [drawing]
  · rw [enterFaulted_eq]
  · rw [enterFaulted_launch]
  · rw [enterFaulted_launch]

theorem reportFault_beltsSound (cause : FaultCause) (hs : BeltsSound s) : BeltsSound (reportFault cause s) := by
  unfold reportFault
  split
  · exact enterFaulted_beltsSound cause s
  · split
    · exact hs.of_looks (.of_lane rfl rfl) id id
    · exact hs

/-- A fault that is taken leaves the belts sound, whatever stood before it. -/
theorem reportJam_beltsSound_of_takes (z : Zone) (ht : takesLaneEvents s = true) : BeltsSound (reportJam z s) := by
  have htakes : takesLaneEvents (setFlag .jam s) = true := by rw [takesLaneEvents_congr (s := s) (by simp)]; exact ht
  unfold reportJam reportFault
  rw [if_pos htakes]
  exact enterFaulted_beltsSound _ _

theorem lateConflict_beltsSound (hs : BeltsSound s) : BeltsSound (lateConflict s) := by
  unfold lateConflict
  cases ht : takesLaneEvents s
  · have hidle : takeBelts (conflictFlight s) = s := by
      obtain ⟨hstage, hlaunch⟩ := hs.holders ht
      rw [conflictFlight_of_no_flight (hs.flight ht)]
      cases s with
      | mk lane =>
        cases lane
        simp_all [takeBelts, State.withLane]
    rw [hidle]
    exact reportFault_beltsSound _ (hs.of_frame (by simp))
  · have htakes : takesLaneEvents (setFlag .lateConflict (takeBelts (conflictFlight s))) = true := by
      rw [takesLaneEvents_congr (s := s) (by simp)]
      exact ht
    unfold reportFault
    rw [if_pos htakes]
    exact enterFaulted_beltsSound _ _

theorem withdraw_beltsSound (k : Commitment) (hs : BeltsSound s) : BeltsSound (withdraw k s) :=
  (discardCommitment_beltsSound k (s := askRemoval TxBody.isClaim (addCredit k.cost s)) (hs.of_frame (by simp))).of_frame
    (by simp [withdraw])

theorem governedAway_beltsSound (d : Tray) (hs : BeltsSound s) : BeltsSound (governedAway d s) := by
  unfold governedAway
  repeat' split
  · exact withdraw_beltsSound _ hs
  · exact lateConflict_beltsSound hs
  · exact hs
  · exact hs
  · exact lateConflict_beltsSound hs
  · exact hs
  · exact hs

theorem resyncHold_beltsSound (hs : BeltsSound s) : BeltsSound (resyncHold s) :=
  addHold_beltsSound _ (dropCommitment_beltsSound (hs.of_frame (by simp)))

theorem implausibleInterval_beltsSound (hs : BeltsSound s) : BeltsSound (implausibleInterval s) := by
  unfold implausibleInterval
  dsimp only
  split
  · exact resyncHold_beltsSound (hs.of_frame (by simp))
  · exact hs.of_frame (by simp)

theorem placePart_beltsSound (offset : Nat) (p : Part) (hs : BeltsSound s) : BeltsSound (placePart offset p s) := by
  have happly : BeltsSound (applyPart p s) := by
    unfold applyPart
    dsimp only
    repeat' split
    · exact hs
    · exact hs.of_frame (by simp)
    · exact governedAway_beltsSound _ (hs.of_frame (by simp))
    · exact hs.of_frame (by simp)
    · exact hs.of_frame (by simp)
    · exact hs.of_frame (by simp)
  unfold placePart
  dsimp only
  repeat' split
  · exact hs
  · exact happly
  · exact hs.of_frame (by simp)
  · exact hs.of_frame (by simp)

theorem hearParts_beltsSound (k : LaneOrdinal) (valid : Bool) (parts : List Part) (hs : BeltsSound s) :
    BeltsSound (hearParts k valid parts s) := by
  unfold hearParts
  split
  · exact hs
  · split
    · exact hs.of_frame (by simp)
    · split
      · exact foldl_keeps (P := BeltsSound) (fun u p hu => placePart_beltsSound _ p hu) _ hs
      · exact hs

theorem clearTogether_beltsSound (s : State) : BeltsSound (clearTogether s) := by
  have haccept : BeltsSound (acceptClear s) := by
    have hlane : (acceptClear s).lane = (clearLane s).lane := by simp [acceptClear]
    have hmode : (acceptClear s).station.mode = .idle := by simp [acceptClear]
    have htakes : takesLaneEvents (acceptClear s) = true := takesLaneEvents_iff.mpr (.inl hmode)
    refine .of_rest (by simp [drawing, hmode]) ?_ ?_ ?_ (fun h => ?_) (fun h => ?_)
    · rw [hlane]; rfl
    · rw [hlane]; rfl
    · rw [hlane]; rfl
    · simp [htakes] at h
    · simp [htakes] at h
  unfold clearTogether
  split
  · exact haccept
  · exact reportFault_beltsSound _ haccept

/-! ## The belts through the commands -/

theorem tick_beltsSound (hs : BeltsSound s) : BeltsSound (tick s) := by
  have hlane : (tick s).lane = tickLane s := by simp [tick, elapse]
  have hlaunch : (tick s).launch = tickLaunch s.launch := by simp [tick, elapse]
  have hmode : (tick s).station.mode = s.station.mode := by simp
  have hl : LooksAs s ((tick s).withLane { (tick s).lane with stall := s.lane.stall }) := by
    refine ⟨?_, ?_, drawing_congr hmode, takesLaneEvents_congr hmode⟩
    · rw [hlane]
      rfl
    · rw [hlane]
      simp [looks, tickLane, Parcel.tick, Parcel.look, Function.comp_def]
  have hrest : BeltsSound ((tick s).withLane { (tick s).lane with stall := s.lane.stall }) :=
    hs.of_looks hl (by simp [hlaunch, tickLaunch]) (by simp [hlaunch, tickLaunch])
  refine ⟨?_, fun z => ?_, hrest.commitment, hrest.flight, hrest.holders⟩
  · rw [← accepts_withStall]
    exact hrest.settled
  · have hstall := hrest.stall z
    rw [stallCondition_withStall] at hstall
    rw [← hstall, hlane]
    cases z <;> simp [StallTimers.get, tickLane, countDown]

theorem startLaunch_beltsSound {k : Commitment} (ct : EdgeTiming) (hs : BeltsSound s)
    (hk : s.launch.commitment = some k) : BeltsSound (startLaunch k ct s) := by
  have htakes : takesLaneEvents s = true := by
    cases ht : takesLaneEvents s
    · exact nomatch (hs.commitment ht).symm.trans hk
    · rfl
  refine .of_settled (launchIdleAt_iff.mpr fun ht => ?_)
  rw [takesLaneEvents_congr (s := s) (by simp), htakes] at ht
  exact nomatch ht

theorem endLoading_beltsSound (eyes : LaneEyes) (hs : BeltsSound s) (hm : s.station.mode = .loading) :
    BeltsSound (endLoading eyes s) := by
  have htakes : takesLaneEvents s = false := by simp [takesLaneEvents, hm]
  have hdrawing := drawing_of_not_takes htakes
  have hoff (z : Zone) : s.lane.stall.get z = none := by
    have := hs.stall z
    have hhold := (hs.holders htakes).2
    cases z <;> simpa [stallCondition, placeDraws, measureDraws, stageDraws, inProgress, hdrawing, hhold,
      show (Holder.sequencer == Holder.launchUnit) = false from rfl] using this
  have hstall : s.lane.stall = .stopped := by
    have := hoff .place; have := hoff .measure; have := hoff .stage; have := hoff .launch
    cases hst : s.lane.stall
    simp_all [StallTimers.get, StallTimers.stopped]
  have hreport (u : State) (hu : BeltsSound u) : BeltsSound (reportHorizon u) := by
    unfold reportHorizon
    split
    · exact addHold_beltsSound _ hu
    · exact removeHold_beltsSound _ hu
  unfold endLoading
  refine hreport _ (addHold_beltsSound _ ?_)
  dsimp only
  refine .of_rest ?_ ?_ ?_ ?_ (fun _ => ?_) (fun _ => ?_)
  · split <;> simp [drawing]
  · simp [readEyes, hstall]
  · simpa [readEyes] using (hs.holders htakes).1
  · simpa [readEyes] using (hs.holders htakes).2
  · simpa using hs.commitment htakes
  · simpa using hs.flight htakes

theorem LoaderStep.keeps_beltsSound (h : LoaderStep s t) (hs : BeltsSound s) : BeltsSound t := by
  cases h with
  | still => exact hs
  | attempt => exact hs.of_frame ⟨rfl, rfl, rfl⟩
  | failed port hm =>
    have htakes : takesLaneEvents s = false := by simp [takesLaneEvents, hm]
    have htakes' : takesLaneEvents (s.withFailedLoad port) = false := rfl
    refine hs.of_looks ⟨rfl, rfl, ?_, htakes'.trans htakes.symm⟩ id id
    rw [drawing_of_not_takes htakes, drawing_of_not_takes htakes']
  | loaded block eyes hm hgood =>
    have hlocked : BeltsSound (handOver (readSettings block) (setPort transferActs s)) := by
      rw [handOver_eq]
      exact hs.of_looks (.of_lane rfl rfl) id id
    exact endLoading_beltsSound eyes hlocked (by simp [hm])

theorem completePassage_beltsSound (hs : BeltsSound s) : BeltsSound (completePassage s) := hs.of_frame (by simp)

/-- Belts that are sound where the launch unit is idle as it should be. -/
def BeltsFollow (t : State) : Prop :=
  LaunchIdleAt t.station t.launch t.lane.stageHolder t.lane.launchHolder → BeltsSound t

/-- Every command that acts on the belts ends in what follows at once from the lane's conditions, enters Faulted, or
leaves what the belts look at. -/
theorem exec_beltsFollow (hc : Instr.movesStation c = false) (hs : BeltsSound s) : Leads BeltsFollow (exec c s) := by
  have hsettled (u : State) : BeltsFollow (settleLane u) := fun hi => .of_settled hi
  have hfollow {u : State} (hu : BeltsSound u) : BeltsFollow u := fun _ => hu
  have hsame {u : State} (h : u.lane = s.lane ∧ u.launch = s.launch ∧ u.station = s.station) : BeltsFollow u :=
    fun _ => hs.of_frame h
  have hwait : BeltsSound (awaitStart s) := hs.of_frame (by simp)
  have herror : BeltsFollow (frameError s) := hsame (by simp)
  have hclash : BeltsFollow (ordinalClash (awaitStart s)) :=
    hfollow (reportFault_beltsSound _ (hs.of_frame (by simp)))
  have heyes (measure transfer stage exit stray : Bool) (ht : ¬ takesLaneEvents s = true) :
      BeltsFollow (s.withLane { s.lane with
        measureEye := measure, transferEye := transfer, stageEye := stage, exitEye := exit, transferStray := stray }) :=
    hfollow (hs.of_eyes (drawing_of_not_takes (by simpa using ht)) _ _ _ _ _)
  have hexit (stage exit : Bool) : BeltsFollow (s.withLane { s.lane with stageEye := stage, exitEye := exit }) :=
    hfollow (hs.of_looks ⟨rfl, rfl, rfl, rfl⟩ id id)
  have hjam {u : State} (z : Zone) (ht : takesLaneEvents u = true) : BeltsFollow (reportJam z u) :=
    hfollow (reportJam_beltsSound_of_takes z ht)
  cases c
  case powerOnReset | launchMoment | clear | lineRecovery | refusal | transfer => exact nomatch hc
  case placeEyeFrontEdge =>
    dsimp only [exec, execPlaceEyeFrontEdge]
    split
    · exact leads_next.mpr (hsettled _)
    · exact leads_next.mpr (hfollow hs)
  case measureEyeFrontEdge | transferEyeFrontEdge | stageEyeFrontEdge =>
    dsimp only [exec, execMeasureEyeFrontEdge, execTransferEyeFrontEdge, execStageEyeFrontEdge]
    repeat' split
    · exact leads_next.mpr (hfollow hs)
    · exact leads_next.mpr (hsettled _)
    · exact leads_next.mpr (hjam _ (by assumption))
    · exact leads_next.mpr (heyes _ _ _ _ _ (by assumption))
  case measureEyeClearing =>
    dsimp only [exec, execMeasureEyeClearing]
    repeat' split
    · exact leads_next.mpr (hsettled _)
    · exact leads_next.mpr (hsettled _)
    · exact leads_next.mpr (hsettled _)
    · exact leads_next.mpr (heyes _ _ _ _ _ (by assumption))
    · exact leads_next.mpr (hfollow hs)
  case transferEyeClearing =>
    dsimp only [exec, execTransferEyeClearing]
    repeat' split
    · exact leads_next.mpr (hjam _ (by assumption))
    · exact leads_next.mpr (hsettled _)
    · exact leads_next.mpr (heyes _ _ _ _ _ (by assumption))
    · exact leads_next.mpr (hfollow hs)
  case stageEyeClearing =>
    dsimp only [exec, execStageEyeClearing]
    repeat' split
    · exact leads_next.mpr (hsettled _)
    · exact leads_next.mpr (hsettled _)
    · exact leads_next.mpr (hjam _ (by assumption))
    · exact leads_next.mpr (hexit _ _)
    · exact leads_next.mpr (hexit _ _)
    · exact leads_next.mpr (hfollow hs)
  case exitEyeFrontEdge =>
    dsimp only [exec, execExitEyeFrontEdge]
    repeat' split
    · exact leads_next.mpr (hfollow hs)
    · exact leads_next.mpr (hjam _ (Bool.and_eq_true_iff.mp ‹_›).1)
    · exact leads_next.mpr (hexit _ _)
  case exitEyeClearing =>
    dsimp only [exec, execExitEyeClearing]
    repeat' split
    · exact leads_next.mpr (hsettled _)
    · exact leads_next.mpr (hexit _ _)
    · exact leads_next.mpr (hfollow hs)
  case stallTimerRunsOut =>
    dsimp only [exec, execStallTimerRunsOut]
    split
    · exact leads_next.mpr (hfollow (reportFault_beltsSound _ (hs.of_frame (by simp))))
    · exact leads_next.mpr (hfollow hs)
  case scanRecord | scanWindowRunsOut | trayEdgeEvent =>
    dsimp only [exec, execScanRecord, execScanWindowRunsOut, execTrayEdgeEvent]
    split
    · exact leads_next.mpr (hsettled _)
    · exact leads_next.mpr (hfollow hs)
  case confirmEyeBlocked =>
    dsimp only [exec, execConfirmEyeBlocked]
    split <;> exact leads_next.mpr (hsame (by simp))
  case timeout =>
    dsimp only [exec, execTimeout]
    split
    · exact leads_next.mpr (hfollow (implausibleInterval_beltsSound (hs.of_frame (by simp))))
    · exact leads_next.mpr (hfollow hs)
  case exitWindowClosing =>
    dsimp only [exec, execExitWindowClosing]
    split
    · refine leads_next.mpr (hfollow (hs.of_looks (.of_lane (by simp) (by simp)) ?_ ?_))
      · simp [launchWarning, markChecked]
      · simp [launchWarning, markChecked]
    · exact leads_next.mpr (hfollow hs)
  case lineFault =>
    dsimp only [exec, execLineFault]
    split
    · refine leads_next.mpr (hfollow (addHold_beltsSound _ (hs.of_frame ?_)))
      split <;> simp
    · exact leads_next.mpr (hfollow hs)
  case lineConditionNormal =>
    dsimp only [exec, execLineConditionNormal]
    split
    · exact leads_next.mpr (hfollow (removeHold_beltsSound _ (hs.of_frame (by simp))))
    · exact leads_next.mpr (hfollow hs)
  case claimCompletion =>
    have hdone : BeltsSound (completePassage s) := completePassage_beltsSound hs
    dsimp only [exec, execClaimCompletion]
    repeat' split
    · exact leads_next.mpr (hsame (by simp))
    · exact leads_next.mpr (hsame (by simp))
    · have hl (n : SeqNo) := LooksAs.updateRecord Phase.isClaim n (f := fun r => { r with phase := .announced })
        (completePassage s) (fun r hr => by
          rw [Parcel.look, Parcel.look, Phase.not_decided_of_isClaim hr]
          rfl)
      exact leads_next.mpr (hfollow (hdone.of_looks (hl _) id id))
    · exact leads_next.mpr (hsame (by simp))
    · exact leads_next.mpr (hfollow hs)
  case joiningEnds | frameBegin | lostArbitration | bitError | bitTimingError | holdCompletion | frameCompletion =>
    dsimp only [exec, execJoiningEnds, execFrameBegin, execLostArbitration, execBitError, execBitTimingError,
      execHoldCompletion, execFrameCompletion]
    repeat' split
    all_goals exact leads_next.mpr (hsame (by simp))
  case claimNotice frame =>
    have hheard : BeltsSound (hearClaim (senderOf (withKind .claim frame.what)) (trayOf (withKind .claim frame.what))
        (spanOf (withKind .claim frame.what)) (awaitStart s)) := hearParts_beltsSound _ _ _ hwait
    refine leads_receiveFrame (hfollow hs) herror hclash (hfollow ?_)
    dsimp only
    split
    · exact hheard.of_frame (by simp)
    · exact hheard
  case holdNotice | vacateNotice =>
    exact leads_receiveFrame (hfollow hs) herror hclash (hfollow (hearParts_beltsSound _ _ _ hwait))
  case demandNotice | statNotice | unknownKindFrame =>
    exact leads_receiveFrame (hfollow hs) herror hclash (hsame (by simp))
  case bankHold =>
    dsimp only [exec, execBankHold]
    exact leads_receiveBank (hfollow hs) herror hclash (hfollow hwait) (fun _ => hfollow (addHold_beltsSound _ hwait))
  case bankResume =>
    dsimp only [exec, execBankResume]
    exact leads_receiveBank (hfollow hs) herror hclash (hfollow hwait) (fun _ => hfollow (removeHold_beltsSound _ hwait))
  case bankPace =>
    dsimp only [exec, execBankPace]
    exact leads_receiveBank (hfollow hs) herror hclash (hfollow hwait) (fun _ => hsame (by simp))
  case start | stop =>
    dsimp only [exec, execStart, execStop]
    repeat' split
    · exact leads_next.mpr (hsettled _)
    · exact leads_next.mpr (hsettled _)
    · exact leads_next.mpr (hfollow hs)
  case paceTimerRunsOut | faultBlinkPhase | faultBlinkEnd =>
    dsimp only [exec, execPaceTimerRunsOut, execFaultBlinkPhase, execFaultBlinkEnd]
    repeat' split
    all_goals exact leads_next.mpr (hsame (by simp))

theorem exec_keeps_beltsSound (hs : BeltsSound s) : Leads BeltsSound (exec c s) := by
  intro t h
  by_cases hc : Instr.movesStation c = true
  · cases c
    case powerOnReset =>
      cases h
      exact .of_rest rfl rfl rfl rfl (fun _ => rfl) (fun _ => rfl)
    case lineRecovery | refusal | transfer => exact (loaderStep_of_exec rfl h).keeps_beltsSound hs
    case launchMoment =>
      cases launchStep_of_exec h with
      | still => exact hs
      | jam => exact reportFault_beltsSound _ (hs.of_frame (by simp))
      | launched k ct hk => exact startLaunch_beltsSound ct hs hk
    case clear =>
      simp only [exec, execClear] at h
      repeat' split at h
      all_goals cases h
      · exact clearTogether_beltsSound _
      · exact hs.of_frame (by simp)
      · exact hs.of_frame (by simp)
      · exact hs
    all_goals exact nomatch hc
  · rw [Bool.not_eq_true] at hc
    exact exec_beltsFollow hc hs t h ((exec_stationKept hc t h).idle hs.launchIdle)

end Sys2Proof.Machine
end

section
/-! PROOFS. Station control through every step (R49, R67, R127, R156 to R161). -/

namespace Sys2Proof.Machine

variable {s t : State} {c : Instr}

/-- Station control of the state `s` is sound. -/
abbrev ControlSoundIn (s : State) : Prop :=
  ControlSound none s.station s.tracker.tracking s.line.faulted s.cfg.window s.launch.horizon

theorem StationSound.control (hs : StationSound s) (ha : active s = true) : ControlSoundIn s where
  active := by
    constructor <;> intro hm <;> simp [active, hm] at ha
  agrees c hc _ := by
    cases c with
    | bank => exact absurd rfl hc
    | tracking => exact hs.tracking ha
    | line => exact hs.line ha
    | horizon => exact hs.horizon ha
  running := hs.running
  holding := hs.holding
  faulted := hs.faulted
  again := hs.again

theorem ControlSound.station (h : ControlSoundIn s) : StationSound s where
  tracking _ := h.agrees .tracking nofun nofun
  line _ := h.agrees .line nofun nofun
  horizon _ := h.agrees .horizon nofun nofun
  before ha := by
    obtain ⟨hu, hl⟩ := h.active
    cases hm : s.station.mode <;> simp_all [Machine.active]
  running := h.running
  holding := h.holding
  faulted := h.faulted
  again := h.again

theorem ControlSound.of_same (h : ControlSoundIn s) (hstation : t.station = s.station)
    (htrack : t.tracker = s.tracker) (hfault : t.line.faulted = s.line.faulted) (hcfg : t.cfg = s.cfg)
    (hhorizon : t.launch.horizon = s.launch.horizon) : ControlSoundIn t := by
  unfold ControlSoundIn
  rw [hstation, htrack, hfault, hcfg, hhorizon]
  exact h

/-! ## Before the end of Loading (R36, R54) -/

theorem reportJam_of_inactive (z : Zone) (h : active s = false) : reportJam z s = setFlag .jam s := by
  have hm : s.station.mode ≠ .faulted := fun hm => by simp [active, hm] at h
  have htakes : takesLaneEvents (setFlag .jam s) = false := takesLaneEvents_of_inactive h
  simp [reportJam, reportFault, htakes, hm]

/-- Before the end of Loading no command but the loader's own reaches tracking or the line condition. -/
theorem exec_inactive_leaves_tracking (hr : c ≠ .powerOnReset) (hc : Instr.onMemoryPort c = false)
    (h : active s = false) :
    Leads (fun t => t.tracker.tracking = s.tracker.tracking ∧ t.line.faulted = s.line.faulted) (exec c s) := by
  have htakes := takesLaneEvents_of_inactive h
  have hlane (x : Lane) : takesLaneEvents (s.withLane x) = false := htakes
  have hdrawing := drawing_of_inactive h
  cases c
  case powerOnReset => exact absurd rfl hr
  case lineRecovery | refusal | transfer => exact nomatch hc
  case placeEyeFrontEdge | measureEyeFrontEdge | measureEyeClearing | transferEyeFrontEdge | transferEyeClearing
      | stageEyeFrontEdge | stageEyeClearing | exitEyeFrontEdge | exitEyeClearing =>
    simp only [exec, execPlaceEyeFrontEdge, execMeasureEyeFrontEdge, execMeasureEyeClearing,
      execTransferEyeFrontEdge, execTransferEyeClearing, execStageEyeFrontEdge, execStageEyeClearing,
      execExitEyeFrontEdge, execExitEyeClearing, htakes, hlane, Bool.false_and, Bool.false_eq_true, if_false]
    repeat' split
    all_goals simp
  case stallTimerRunsOut =>
    dsimp only [exec, execStallTimerRunsOut]
    split <;> simp [reportJam_of_inactive _ h]
  case scanRecord | scanWindowRunsOut | trayEdgeEvent | confirmEyeBlocked | timeout | joiningEnds | lineFault
      | lineConditionNormal =>
    simp [exec, execScanRecord, execScanWindowRunsOut, execTrayEdgeEvent, execConfirmEyeBlocked, execTimeout,
      execJoiningEnds, execLineFault, execLineConditionNormal, h, hdrawing]
  case bitTimingError =>
    simp [exec, execBitTimingError, receives, h]
  case launchMoment | exitWindowClosing =>
    dsimp only [exec, execLaunchMoment, execExitWindowClosing]
    repeat' split
    all_goals simp [reportJam_of_inactive _ h]
  case frameBegin | lostArbitration | bitError | claimCompletion | holdCompletion | frameCompletion =>
    dsimp only [exec, execFrameBegin, execLostArbitration, execBitError, execClaimCompletion, execHoldCompletion,
      execFrameCompletion]
    repeat' split
    all_goals simp
  case claimNotice | holdNotice | vacateNotice | demandNotice | statNotice | unknownKindFrame =>
    have hsame {a : Arrival} {bits : Bits} {take : State → State} := receiveFrame_inactive (a := a) (bits := bits)
      (take := take) h
    exact leads_next.mpr ⟨congrArg (·.tracker.tracking) hsame, congrArg (·.line.faulted) hsame⟩
  case bankHold | bankResume | bankPace =>
    dsimp only [exec, execBankHold, execBankResume, execBankPace, receiveBank]
    split <;> simp [receiveFrame_inactive h]
  case start | stop | clear | paceTimerRunsOut =>
    simp [exec, execStart, execStop, execClear, execPaceTimerRunsOut, pressTaken, h, hdrawing]
  case faultBlinkPhase | faultBlinkEnd =>
    dsimp only [exec, execFaultBlinkPhase, execFaultBlinkEnd]
    repeat' split
    all_goals simp

/-- A state that has not begun to run and keeps what station control looks at. -/
theorem StationSound.of_inactive (hs : StationSound s) (h : active s = false) (hstation : t.station = s.station)
    (htrack : t.tracker.tracking = s.tracker.tracking) (hfault : t.line.faulted = s.line.faulted) :
    StationSound t := by
  have ht : active t = false := (active_congr (by rw [hstation])).trans h
  have hno {p : Prop} (hp : active t = true) : p := nomatch ht.symm.trans hp
  refine ⟨hno, hno, hno, fun _ => ?_, ?_, ?_, ?_, ?_⟩
  · rw [hstation, htrack, hfault]
    exact hs.before h
  · rw [hstation]; exact hs.running
  · rw [hstation]; exact hs.holding
  · rw [hstation]; exact hs.faulted
  · rw [hstation]; exact hs.again

/-! ## The loader (R155) -/

/-- H is reported to a station control that agrees with an H of 0. -/
theorem reportHorizon_controlSound
    (h : ControlSound none s.station s.tracker.tracking s.line.faulted s.cfg.window 0) :
    ControlSoundIn (reportHorizon s) := by
  have hzero := StationKept.refl (s.withLaunch { s.launch with horizon := 0 })
  exact (reportHorizon_stationKept ((hzero.except .horizon).of_horizon s.launch.horizon)).sound h

theorem endLoading_controlSound (eyes : LaneEyes) (hs : StationSound s) (hm : s.station.mode = .loading) :
    ControlSoundIn (endLoading eyes s) := by
  obtain ⟨hholds, htrack, hfault⟩ := hs.before (active_of_loading hm)
  have hcause : s.station.cause = .none := by
    by_contra hne
    exact nomatch hm.symm.trans (hs.faulted.mpr hne)
  have hagain : s.station.again = none := by
    cases ha : s.station.again with
    | none => rfl
    | some c => exact nomatch hm.symm.trans (hs.again c ha).1
  have hempty (k : HoldCause) : s.station.holds.has k = false := (HoldSet.isEmpty_iff _).mp hholds k
  have hadded (m : Station) (hrun : m.mode ≠ .running) (hset : m.holds = s.station.holds) :
      addHold .tracking (offerStat ((readEyes eyes s).withStation m)) =
        setHolds (s.station.holds.put true .tracking) (offerStat ((readEyes eyes s).withStation m)) := by
    unfold addHold
    simp [hset, hempty, hrun]
  have hsound (m : Station) (hm' : m.mode = .idle ∨ m.mode = .faulted) (hset : m.holds = s.station.holds)
      (hc : m.mode = .faulted ↔ m.cause ≠ .none) (ha : m.again = none) :
      ControlSoundIn (reportHorizon (addHold .tracking (offerStat ((readEyes eyes s).withStation m)))) := by
    have hrun : m.mode ≠ .running := by rcases hm' with h | h <;> simp [h]
    have hhold : m.mode ≠ .holding := by rcases hm' with h | h <;> simp [h]
    refine reportHorizon_controlSound ?_
    rw [hadded m hrun hset]
    refine ControlSound.mk ?_ (fun k hk _ => ?_) (fun h => absurd h ?_) (fun h => absurd h ?_) ?_ (fun k hk => ?_)
    · rcases hm' with h | h <;> simp [setHolds, h]
    · have := hempty k
      cases k <;> simp_all [setHolds, HoldSet.has_put, HoldCause.stands]
    · simpa [setHolds] using hrun
    · simpa [setHolds] using hhold
    · simpa [setHolds] using hc
    · simp [setHolds, ha] at hk
  unfold endLoading
  dsimp only
  split
  · exact hsound _ (.inl rfl) rfl (by simp [hcause]) hagain
  · exact hsound _ (.inr rfl) rfl (by simp) hagain

theorem LoaderStep.keeps_stationSound (h : LoaderStep s t) (hs : StationSound s) : StationSound t := by
  cases h with
  | still => exact hs
  | attempt phase port hm => exact hs.of_inactive (active_of_loading hm) rfl rfl rfl
  | failed port hm =>
    have hbefore := hs.before (active_of_loading hm)
    have hno {p : Prop} (hp : active (s.withFailedLoad port) = true) : p := nomatch hp
    refine ⟨hno, hno, hno, fun _ => hbefore, nofun, nofun, ?_, fun c hc => ?_⟩
    · exact ⟨nofun, fun hc => nomatch hm.symm.trans (hs.faulted.mpr hc)⟩
    · exact nomatch hm.symm.trans (hs.again c hc).1
  | loaded block eyes hm hgood =>
    refine (endLoading_controlSound eyes ?_ (by simpa using hm)).station
    exact hs.of_inactive (active_of_loading hm) (by simp) (by simp) (by rw [handOver_eq]; rfl)

/-! ## Every step -/

theorem acceptClear_controlSound (h : ControlSoundIn s) : ControlSoundIn (acceptClear s) := by
  have hstation : (acceptClear s).station = { s.station with mode := .idle, cause := .none, again := none } := by
    simp [acceptClear, clearLane, clearMarks]
  have hfault : (acceptClear s).line.faulted = s.line.faulted := by
    simp [acceptClear, clearLane, clearMarks]
  refine ControlSound.mk ?_ (fun c hc hne => ?_) ?_ ?_ ?_ ?_
  · rw [hstation]; exact ⟨nofun, nofun⟩
  · rw [hstation, hfault]
    have hagree := h.agrees c hc hne
    have hcfg : (acceptClear s).cfg = s.cfg := by simp
    have hlaunch : (acceptClear s).launch.horizon = s.launch.horizon := by simp [acceptClear, clearLane, clearMarks]
    rw [hcfg, hlaunch]
    simpa using hagree
  all_goals rw [hstation]; simp

theorem clearTogether_controlSound (h : ControlSoundIn s) : ControlSoundIn (clearTogether s) := by
  unfold clearTogether
  split
  · exact acceptClear_controlSound h
  · exact (reportFault_stationKept (h.again _ ‹_›).2 (StationKept.refl _)).sound (acceptClear_controlSound h)

theorem tick_stationSound (hs : StationSound s) : StationSound (tick s) := by
  have hstation : (tick s).station = { s.station with again := none } := rfl
  have hactive : active (tick s) = active s := active_congr rfl
  refine ⟨fun h => ?_, fun h => ?_, fun h => ?_, fun h => ?_, hs.running, hs.holding, hs.faulted, nofun⟩
  · exact hs.tracking (hactive ▸ h)
  · exact hs.line (hactive ▸ h)
  · exact hs.horizon (hactive ▸ h)
  · exact hs.before (hactive ▸ h)

theorem exec_keeps_stationSound (hs : StationSound s) : Leads StationSound (exec c s) := by
  intro t h
  cases hload : Instr.onMemoryPort c
  case true => exact (loaderStep_of_exec hload h).keeps_stationSound hs
  by_cases hr : c = .powerOnReset
  · subst hr
    cases h
    exact stationSound_reset.of_inactive rfl rfl rfl rfl
  cases ha : active s
  case false =>
    obtain ⟨htrack, hfault⟩ := exec_inactive_leaves_tracking hr hload ha t h
    exact hs.of_inactive ha (exec_inactive_leaves_station hr hload ha t h) htrack hfault
  have hcontrol := hs.control ha
  refine ControlSound.station ?_
  by_cases hc : Instr.movesStation c = true
  · cases c
    case launchMoment =>
      cases launchStep_of_exec h with
      | still => exact hcontrol
      | jam => exact (reportJam_stationKept .launch (StationKept.refl s)).sound hcontrol
      | launched k ct hk =>
        exact hcontrol.of_same (by simp [startLaunch]) (by simp) (by simp [startLaunch]) (by simp)
          (by rw [startLaunch_launch])
    case clear =>
      simp only [exec, execClear] at h
      repeat' split at h
      all_goals cases h
      · exact clearTogether_controlSound (hcontrol.of_same rfl rfl rfl rfl rfl)
      · exact hcontrol.of_same rfl rfl rfl rfl rfl
      · exact hcontrol.of_same (by simp) (by simp) (by simp) (by simp) (by simp)
      · exact hcontrol
    case powerOnReset => exact absurd rfl hr
    case lineRecovery | refusal | transfer => exact nomatch hload
    all_goals exact nomatch hc
  · rw [Bool.not_eq_true] at hc
    exact (exec_stationKept hc t h).sound hcontrol

/-- Settles O59: station control by what every operation keeps of it, the belts by what they look at. -/
theorem everyStepKeepsTheStation : Obligations.EveryStepKeepsTheStation := by
  unfold Obligations.EveryStepKeepsTheStation
  intro s t h
  rcases step_cases h with ⟨-, rfl⟩ | ⟨c, rest, hq, hexec⟩
  · exact ⟨tick_stationSound, tick_beltsSound⟩
  · exact ⟨fun hs => exec_keeps_stationSound (s := s.withPending rest) ⟨hs.tracking, hs.line, hs.horizon, hs.before,
        hs.running, hs.holding, hs.faulted, hs.again⟩ t hexec,
      fun hs => exec_keeps_beltsSound (s := s.withPending rest) (hs.of_frame ⟨rfl, rfl, rfl⟩) t hexec⟩

end Sys2Proof.Machine
end

section
/-! PROOFS. The tray window through the operations (R76, R94): which of them leave the entries' trays and the pending
list, and that none ends the running of the blocks. -/

namespace Sys2Proof.Machine

variable {s t x : State} {c : Instr}

/-! ## What leaves the trays of the window and the pending list (R76, R94) -/

/-- The trays of the entries, in their order, and the pending list. -/
def Window.layout (w : Window) : List Tray × List PendingNotice := (w.entries.map (·.tray), w.pending)

theorem Window.layout_withEntries (w : Window) (es : List Entry) (h : es.map (·.tray) = w.entries.map (·.tray)) :
    Window.layout { w with entries := es } = w.layout := congrArg (·, w.pending) h

theorem updateEntry_layout (d : Tray) {f : Entry → Entry} (hf : ∀ e, (f e).tray = e.tray) (s : State) :
    (updateEntry d f s).window.layout = s.window.layout :=
  Window.layout_withEntries _ _ (modifyFirst_map _ f (·.tray) hf _)

@[simp] theorem setMark_layout (m : OwnMark) (d : Tray) (s : State) :
    (setMark m d s).window.layout = s.window.layout :=
  updateEntry_layout d (f := fun e => { e with mark := m }) (fun _ => rfl) s

@[simp] theorem setDecided_layout (d : Tray) (s : State) : (setDecided d s).window.layout = s.window.layout :=
  updateEntry_layout d (f := fun e => { e with decided := true }) (fun _ => rfl) s

theorem foldl_layout {α : Type} (f : State → α → State) (h : ∀ u a, (f u a).window.layout = u.window.layout)
    (l : List α) (s : State) : (l.foldl f s).window.layout = s.window.layout := by
  induction l generalizing s with
  | nil => rfl
  | cons a l ih => exact (ih _).trans (h s a)

@[simp] theorem setMarks_layout (m : OwnMark) (ds : List Tray) (s : State) :
    (setMarks m ds s).window.layout = s.window.layout := foldl_layout _ (fun u d => setMark_layout m d u) ds s

@[simp] theorem passOver_layout (e h0 : Nat) (s : State) : (passOver e h0 s).window.layout = s.window.layout :=
  foldl_layout (fun u i => setDecided (trayAdd u.cfg.trays e (h0 + i)) u) (fun _ _ => setDecided_layout _ _) _ s

@[simp] theorem Entry.take_tray (p : Part) (e : Entry) : (e.take p).tray = e.tray := by
  have happly (n : GoverningNotice) : (e.apply n).tray = e.tray := by
    unfold Entry.apply
    split <;> rfl
  have hvacate (k : LaneOrdinal) (span : Span) (first : Tray) : (e.vacate k span first).tray = e.tray := by
    unfold Entry.vacate
    repeat' split
    all_goals rfl
  unfold Entry.take
  split
  · exact hvacate _ _ _
  · exact happly _
  · exact happly _

@[simp] theorem refuseClaim_layout (k : Commitment) (s : State) :
    (refuseClaim k s).window.layout = s.window.layout := by simp [refuseClaim]

@[simp] theorem withdraw_layout (k : Commitment) (s : State) : (withdraw k s).window.layout = s.window.layout := by
  simp [withdraw]

@[simp] theorem abandon_layout (k : Commitment) (s : State) : (abandon k s).window.layout = s.window.layout := by
  simp [abandon]

@[simp] theorem governedAway_layout (d : Tray) (s : State) : (governedAway d s).window.layout = s.window.layout := by
  unfold governedAway
  repeat' split
  all_goals simp

@[simp] theorem applyPart_layout (p : Part) (s : State) : (applyPart p s).window.layout = s.window.layout := by
  have htake := updateEntry_layout p.tray (f := Entry.take p) (Entry.take_tray p) s
  unfold applyPart
  dsimp only
  repeat' split
  all_goals simp [htake]

@[simp] theorem commitmentEvent_layout (count : Option Tray) (s : State) :
    (commitmentEvent count s).window.layout = s.window.layout := by
  unfold commitmentEvent
  repeat' split
  all_goals simp

@[simp] theorem launchEvent_layout (reading : Option Bool) (s : State) :
    (launchEvent reading s).window.layout = s.window.layout := by simp [launchEvent]

@[simp] theorem commitClaim_layout (r : Parcel) (e d : Tray) (span : Span) (cost : Nat) (s : State) :
    (commitClaim r e d span cost s).window.layout = s.window.layout := by
  unfold commitClaim
  dsimp only
  split <;> simp

@[simp] theorem makeClaim_layout (e d : Tray) (r : Parcel) (s : State) :
    (makeClaim e d r s).window.layout = s.window.layout := by
  have hmarks (u : State) (ds : List Tray) :
      (ds.foldl (fun v a => setDecided a (setMark .claimedByMe a v)) u).window.layout = u.window.layout :=
    foldl_layout _ (fun v a => by simp) ds u
  simp [makeClaim, hmarks]

@[simp] theorem yieldTray_layout (d : Tray) (s : State) : (yieldTray d s).window.layout = s.window.layout := by
  unfold yieldTray
  repeat' split
  all_goals simp [placeHold]

@[simp] theorem decideTray_layout (e d : Tray) (s : State) : (decideTray e d s).window.layout = s.window.layout := by
  unfold decideTray
  dsimp only
  repeat' split
  all_goals simp

@[simp] theorem shareEvent_layout (s : State) : (shareEvent s).window.layout = s.window.layout := by
  unfold shareEvent
  dsimp only
  repeat' split
  all_goals simp

@[simp] theorem lineEvent_layout (last : Bool) (s : State) : (lineEvent last s).window.layout = s.window.layout := by
  have hreport (u : State) (f : TxFrame) : (reportDeadline u f).window.layout = u.window.layout := by
    unfold reportDeadline
    repeat' split
    all_goals simp
  unfold lineEvent
  dsimp only
  rw [foldl_layout _ hreport]
  split <;> simp

@[simp] theorem clearTogether_layout (s : State) : (clearTogether s).window.layout = s.window.layout := by
  have haccept : (acceptClear s).window.layout = s.window.layout := by
    simp [acceptClear, clearMarks, withEntries, clearLane, Window.layout, Function.comp_def]
  unfold clearTogether
  split <;> simp [haccept]

/-! ## The blocks run on -/

/-- From the end of Loading on (R155). -/
def Station.runs (m : Station) : Prop := m.mode ≠ .unconfigured ∧ m.mode ≠ .loading

theorem active_iff : active s = true ↔ s.station.runs := by
  unfold active Station.runs
  cases s.station.mode <;> simp

theorem Station.runs.of_moves {m n : Station} (h : m.runs)
    (hn : n.mode = m.mode ∨ n.mode = .idle ∨ n.mode = .running ∨ n.mode = .holding ∨ n.mode = .faulted) : n.runs := by
  rcases hn with hn | hn | hn | hn | hn
  · exact ⟨hn ▸ h.1, hn ▸ h.2⟩
  all_goals exact ⟨by rw [hn]; exact nofun, by rw [hn]; exact nofun⟩

@[simp] theorem addHold_runs (k : HoldCause) (h : s.station.runs) : (addHold k s).station.runs :=
  h.of_moves (by rcases addHold_mode k s with hm | ⟨-, hm⟩ <;> simp [hm])

@[simp] theorem removeHold_runs (k : HoldCause) (h : s.station.runs) : (removeHold k s).station.runs :=
  h.of_moves (by rcases removeHold_mode k s with hm | ⟨-, hm⟩ <;> simp [hm])

@[simp] theorem takeTurn_runs (turn : TrayTurn) (loaded : Bool) (h : s.station.runs) :
    (takeTurn turn loaded s).station.runs :=
  h.of_moves (by rcases takeTurn_mode turn loaded s with hm | ⟨-, hm⟩ | ⟨-, hm⟩ <;> simp [hm])

@[simp] theorem implausibleInterval_runs (h : s.station.runs) : (implausibleInterval s).station.runs :=
  takeTurn_runs .implausible false h

@[simp] theorem reportFault_runs (cause : FaultCause) (h : s.station.runs) : (reportFault cause s).station.runs := by
  unfold reportFault
  repeat' split
  · exact h.of_moves (by simp)
  · exact h
  · exact h

@[simp] theorem reportJam_runs (z : Zone) (h : s.station.runs) : (reportJam z s).station.runs :=
  reportFault_runs _ (by simpa using h)

@[simp] theorem ordinalClash_runs (h : s.station.runs) : (ordinalClash s).station.runs :=
  reportFault_runs _ (by simpa using h)

@[simp] theorem lateConflict_runs (h : s.station.runs) : (lateConflict s).station.runs :=
  reportFault_runs _ (by simpa using h)

@[simp] theorem governedAway_runs (d : Tray) (h : s.station.runs) : (governedAway d s).station.runs := by
  unfold governedAway
  repeat' split
  all_goals simp [h]

@[simp] theorem placePart_runs (offset : Nat) (p : Part) (h : s.station.runs) : (placePart offset p s).station.runs := by
  unfold placePart applyPart
  dsimp only
  repeat' split
  all_goals simp [h]

@[simp] theorem hearParts_runs (k : LaneOrdinal) (valid : Bool) (parts : List Part) (h : s.station.runs) :
    (hearParts k valid parts s).station.runs := by
  unfold hearParts
  repeat' split
  · exact h
  · simpa using h
  · exact foldl_keeps (P := fun u => u.station.runs) (fun u p hu => placePart_runs _ p hu) _ h
  · exact h

@[simp] theorem epochEvent_runs (h : s.station.runs) : (epochEvent s).station.runs := by
  unfold epochEvent epochBoundary recomputeHorizon reportHorizon
  repeat' split
  all_goals simp [h]

@[simp] theorem shareEvent_runs (h : s.station.runs) : (shareEvent s).station.runs := by
  unfold shareEvent
  dsimp only
  repeat' split
  all_goals simp [h]

@[simp] theorem launchEvent_runs (reading : Option Bool) (h : s.station.runs) :
    (launchEvent reading s).station.runs := by
  simp only [launchEvent, commitmentEvent_frame]
  unfold flightEvent
  dsimp only
  repeat' split
  · exact h
  · exact h
  · unfold takeVerdict
    repeat' split
    all_goals simp [h]

@[simp] theorem clearTogether_runs (s : State) : (clearTogether s).station.runs := by
  have haccept : (acceptClear s).station.runs := by simp [acceptClear, Station.runs]
  unfold clearTogether
  split
  · exact haccept
  · exact reportFault_runs _ haccept

end Sys2Proof.Machine
end

section
/-! PROOFS. The tray window and the tracker through every step (R40, R42, R43, R76, R94). -/

namespace Sys2Proof.Machine

variable {s t x : State} {c : Instr}

/-! ## The commands that leave tracking and the layout of the window -/

/-- The commands that reach the tracking state, the trays of the window or the pending list. -/
def Instr.movesWindow : Instr → Bool
  | .powerOnReset | .lineRecovery _ | .refusal _ | .transfer _ _ | .trayEdgeEvent _ _ _ _ | .timeout
  | .claimNotice _ | .holdNotice _ | .vacateNotice _ => true
  | _ => false

/-- The layout of the window, the tracker with its latch apart and the configuration stay, and the blocks run on. -/
structure LayoutKept (s t : State) : Prop where
  layout  : t.window.layout = s.window.layout
  tracker : t.tracker = { s.tracker with latch := t.tracker.latch }
  cfg     : t.cfg = s.cfg
  runs    : s.station.runs → t.station.runs

theorem LayoutKept.of_frame (hlayout : t.window.layout = s.window.layout) (htracker : t.tracker = s.tracker)
    (hcfg : t.cfg = s.cfg) (hruns : s.station.runs → t.station.runs) : LayoutKept s t :=
  ⟨hlayout, by rw [htracker], hcfg, hruns⟩

theorem LayoutKept.refl (s : State) : LayoutKept s s := ⟨rfl, rfl, rfl, id⟩

theorem setMode_runs {m : Mode} (hm : m = .idle ∨ m = .running ∨ m = .holding) (u : State) :
    (setMode m u).station.runs := by
  rcases hm with rfl | rfl | rfl <;> simp [Station.runs, setMode]

@[simp] theorem takeVerdict_runs (h : s.station.runs) : (takeVerdict s).station.runs := by
  unfold takeVerdict
  repeat' split
  all_goals simp [h]

theorem exec_layoutKept (hc : Instr.movesWindow c = false) : Leads (LayoutKept s) (exec c s) := by
  have hjam (z : Zone) (l : Lane) (h : s.station.runs) : (reportJam z (s.withLane l)).station.runs := reportJam_runs z h
  have hclash (h : s.station.runs) : (ordinalClash (awaitStart s)).station.runs := ordinalClash_runs h
  cases c
  case powerOnReset | lineRecovery | refusal | transfer | trayEdgeEvent | timeout | claimNotice | holdNotice
      | vacateNotice => exact nomatch hc
  case placeEyeFrontEdge | measureEyeFrontEdge | measureEyeClearing | transferEyeFrontEdge | transferEyeClearing
      | stageEyeFrontEdge | stageEyeClearing | exitEyeFrontEdge | exitEyeClearing | stallTimerRunsOut =>
    dsimp only [exec, execPlaceEyeFrontEdge, execMeasureEyeFrontEdge, execMeasureEyeClearing,
      execTransferEyeFrontEdge, execTransferEyeClearing, execStageEyeFrontEdge, execStageEyeClearing,
      execExitEyeFrontEdge, execExitEyeClearing, execStallTimerRunsOut]
    repeat' split
    all_goals exact leads_next.mpr (.of_frame (by simp) (by simp) (by simp) (fun h => by simp [h, hjam]))
  case scanRecord chars =>
    dsimp only [exec, execScanRecord]
    split
    · exact leads_next.mpr (.of_frame (by simp [foldl_window takeChar]) (by simp [foldl_tracker takeChar])
        (by simp [foldl_cfg takeChar]) (by simp [foldl_station takeChar]))
    · exact leads_next.mpr (.refl s)
  case scanWindowRunsOut | confirmEyeBlocked =>
    dsimp only [exec, execScanWindowRunsOut, execConfirmEyeBlocked]
    split
    · exact leads_next.mpr ⟨by simp, by simp, by simp, by simp⟩
    · exact leads_next.mpr (.refl s)
  case launchMoment | exitWindowClosing =>
    dsimp only [exec, execLaunchMoment, execExitWindowClosing]
    repeat' split
    all_goals exact leads_next.mpr (.of_frame (by simp) (by simp) (by simp) (fun h => by simp [h]))
  case joiningEnds | frameBegin | lostArbitration | bitError | bitTimingError | lineFault | lineConditionNormal
      | claimCompletion | holdCompletion | frameCompletion =>
    dsimp only [exec, execJoiningEnds, execFrameBegin, execLostArbitration, execBitError, execBitTimingError,
      execLineFault, execLineConditionNormal, execClaimCompletion, execHoldCompletion, execFrameCompletion]
    repeat' split
    all_goals exact leads_next.mpr (.of_frame (by simp) (by simp) (by simp) (fun h => by simp [h]))
  case demandNotice | statNotice | unknownKindFrame =>
    exact leads_receiveFrame (.refl s) (.of_frame (by simp) (by simp) (by simp) (by simp))
      (.of_frame (by simp) (by simp) (by simp) (fun h => by simp [h]))
      (.of_frame (by simp) (by simp) (by simp) (by simp))
  case bankHold | bankResume | bankPace =>
    dsimp only [exec, execBankHold, execBankResume, execBankPace]
    exact leads_receiveBank (.refl s) (.of_frame (by simp) (by simp) (by simp) (by simp))
      (.of_frame (by simp) (by simp) (by simp) (fun h => by simp [h]))
      (.of_frame (by simp) (by simp) (by simp) (by simp))
      (fun _ => .of_frame (by simp) (by simp) (by simp) (fun h => by simp [h]))
  case start =>
    dsimp only [exec, execStart]
    split
    · refine leads_next.mpr (.of_frame (by simp) (by simp) (by simp) (fun _ => ?_))
      rw [(settleLane_frame _).2.2.2.2.2.2.2.1]
      split <;> exact setMode_runs (by simp) s
    · exact leads_next.mpr (.refl s)
  case stop =>
    have hidle : (setMode .idle s).station.runs := setMode_runs (.inl rfl) s
    dsimp only [exec, execStop]
    repeat' split
    all_goals exact leads_next.mpr (.of_frame (by simp) (by simp) (by simp) (fun h => by simp [h, hidle]))
  case clear | paceTimerRunsOut | faultBlinkPhase | faultBlinkEnd =>
    dsimp only [exec, execClear, execPaceTimerRunsOut, execFaultBlinkPhase, execFaultBlinkEnd]
    repeat' split
    all_goals exact leads_next.mpr (.of_frame (by simp) (by simp) (by simp) (fun h => by simp [h]))

end Sys2Proof.Machine
end

section
/-! PROOFS. What a tray edge event does to the tracker and to the trays of the window (R40 to R50, R76 to R79,
R96). -/

namespace Sys2Proof.Machine

variable {s t : State} {c : Settings} {k : Tracker} {home : Bool} {turn : TrayTurn}

/-! ## The tracker (R40 to R47) -/

/-- The tracker that has lost the count (R46, R47). -/
def Tracker.lost (k : Tracker) : Tracker :=
  { k with tracking := .unsynced, count := none, sinceHome := 0, fillEvents := 0 }

/-- The tracker that enters Filling at tray 0 (R43, R45). -/
def Tracker.filling (k : Tracker) : Tracker :=
  { k with tracking := .filling, count := some 0, sinceHome := 0, fillEvents := 0 }

/-- The tracker whose count advances (R43, R44). -/
def Tracker.advanced (window count sinceHome : Nat) (k : Tracker) : Tracker :=
  { k with
    count := some count
    sinceHome := sinceHome
    fillEvents := if k.tracking == .filling then k.fillEvents + 1 else k.fillEvents
    tracking := if k.tracking == .filling && k.fillEvents + 1 == window then .locked else k.tracking }

/-- The tracker after what a tray edge event does to tracking. -/
def Tracker.turned (turn : TrayTurn) (window : Nat) (k : Tracker) : Tracker :=
  match turn with
  | .unsynced => k
  | .implausible => { k with history := [] }.lost
  | .entersFilling | .homeMismatch => k.filling
  | .homeMissing => k.lost
  | .advances count sinceHome => k.advanced window count sinceHome

theorem implausibleInterval_tracker (s : State) :
    (implausibleInterval s).tracker = { s.tracker with history := [] }.lost := by
  unfold implausibleInterval
  dsimp only
  split <;> simp [loseTracking, Tracker.lost]

theorem takeTurn_tracker (turn : TrayTurn) (loaded : Bool) (s : State) :
    (takeTurn turn loaded s).tracker = s.tracker.turned turn s.cfg.window := by
  cases turn with
  | unsynced => rfl
  | implausible => exact implausibleInterval_tracker s
  | entersFilling => simp [takeTurn, enterFilling, buildWindow, withEntries, Tracker.turned, Tracker.filling]
  | homeMismatch => simp [takeTurn, enterFilling, buildWindow, withEntries, Tracker.turned, Tracker.filling]
  | homeMissing => simp [takeTurn, loseTracking, Tracker.turned, Tracker.lost]
  | advances count sinceHome =>
    unfold takeTurn advanceCount
    dsimp only
    split
    · rename_i hlocks
      simp [Tracker.turned, Tracker.advanced, hlocks]
    · rename_i hlocks
      simp [Tracker.turned, Tracker.advanced, hlocks]

theorem trackerTimes_tracker (confirm : Bool) (s : State) : (trackerTimes confirm s).tracker =
    { s.tracker with
      history := if intervalPlausible s.cfg s.tracker then historyAfter s.tracker else s.tracker.history
      timer := some 0
      latch := confirm
      latchBegun := true } := rfl

/-! ## Which turn it is (R43 to R47) -/

theorem trayTurn_of_implausible (h : intervalPlausible c k = false) : trayTurn c home k = .implausible := by
  simp [trayTurn, h]

theorem trayTurn_of_unsynced (h : intervalPlausible c k = true) (ht : k.tracking = .unsynced) :
    trayTurn c home k =
      if home = true ∧ (historyAfter k).length = 8 then .entersFilling else .unsynced := by
  simp [trayTurn, h, ht, Config.historyRoom]

theorem trayTurn_of_tracked {e : Nat} (h : intervalPlausible c k = true) (ht : k.tracking ≠ .unsynced)
    (he : k.count = some e) :
    trayTurn c home k =
      if home = true then if e + 1 = c.trays then .advances 0 0 else .homeMismatch
      else if k.sinceHome + 1 = c.trays then .homeMissing
      else .advances ((e + 1) % c.trays) (k.sinceHome + 1) := by
  cases hk : k.tracking
  case unsynced => exact absurd hk ht
  all_goals simp [trayTurn, h, hk, he, trayAdd]

/-- A turn fits the tracker that it is taken on: it rebuilds, loses or advances a count only where there is one, and
advances it by one. -/
structure TurnFits (c : Settings) (k : Tracker) (turn : TrayTurn) : Prop where
  enters   : turn = .entersFilling → k.tracking = .unsynced ∧ (historyAfter k).length = 8
  stays    : turn = .unsynced → k.tracking = .unsynced
  tracked  : turn = .homeMismatch ∨ turn = .homeMissing → k.tracking ≠ .unsynced
  advances : ∀ n m, turn = .advances n m → k.tracking ≠ .unsynced ∧ ∃ e, k.count = some e ∧ n = (e + 1) % c.trays
  joins    : turn ≠ .implausible → intervalPlausible c k = true

theorem turnFits_trayTurn (hcount : k.count.isSome = (k.tracking != .unsynced)) :
    TurnFits c k (trayTurn c home k) := by
  cases hp : intervalPlausible c k
  · rw [trayTurn_of_implausible hp]
    exact ⟨nofun, nofun, by simp, nofun, fun h => absurd rfl h⟩
  · by_cases ht : k.tracking = .unsynced
    · rw [trayTurn_of_unsynced hp ht]
      split
      · exact ⟨fun _ => ⟨ht, (‹_ ∧ _›).2⟩, nofun, by simp, nofun, fun _ => hp⟩
      · exact ⟨nofun, fun _ => ht, by simp, nofun, fun _ => hp⟩
    · obtain ⟨e, he⟩ := Option.isSome_iff_exists.mp (hcount.trans (bne_iff_ne.mpr ht))
      rw [trayTurn_of_tracked hp ht he]
      repeat' split
      · rename_i hhome
        refine ⟨nofun, nofun, by simp, fun n m h => ⟨ht, e, he, ?_⟩, fun _ => hp⟩
        cases h
        rw [hhome, Nat.mod_self]
      · exact ⟨nofun, nofun, fun _ => ht, nofun, fun _ => hp⟩
      · exact ⟨nofun, nofun, fun _ => ht, nofun, fun _ => hp⟩
      · refine ⟨nofun, nofun, by simp, fun n m h => ⟨ht, e, he, ?_⟩, fun _ => hp⟩
        cases h
        rfl

/-! ## The tracker's bounds (R40, R42, R43) -/

theorem historyAfter_length_le (h : k.history.length ≤ 8) : (historyAfter k).length ≤ 8 := by
  unfold historyAfter joinHistory
  repeat' split
  · exact h
  · simp only [Config.historyRoom] at *
    simp
    omega
  · simp only [Config.historyRoom] at *
    simp
    omega

theorem historyAfter_length_eq (h : k.history.length = 8) : (historyAfter k).length = 8 := by
  unfold historyAfter joinHistory
  split
  · exact h
  · simp [Config.historyRoom, h]

theorem Tracker.turned_trackerSound {window : Nat} {now : Tracker} (hs : TrackerSound k) (ht : TurnFits c k turn)
    (hnow : now.history = (if intervalPlausible c k then historyAfter k else k.history))
    (htimer : now.timer = some 0) (htracking : now.tracking = k.tracking) (hcount : now.count = k.count) :
    TrackerSound (now.turned turn window) := by
  have hlength : now.history.length ≤ Config.historyRoom := by
    rw [hnow]
    split
    · exact historyAfter_length_le hs.history
    · exact hs.history
  have hfull : k.tracking ≠ .unsynced → turn ≠ .implausible → now.history.length = Config.historyRoom := fun h hne => by
    rw [hnow, ht.joins hne, if_pos rfl]
    exact historyAfter_length_eq (hs.full h)
  have hzero (n : Nat) (h : now.timer = some n) : n ≤ Config.intervalMax := by
    rw [htimer] at h
    cases h
    exact Nat.zero_le _
  cases turn with
  | unsynced =>
    refine ⟨hlength, hzero, ?_, fun h => absurd (htracking.trans (ht.stays rfl)) h⟩
    show now.count.isSome = (now.tracking != .unsynced)
    rw [hcount, htracking]
    exact hs.count
  | implausible => exact ⟨Nat.zero_le _, hzero, rfl, fun h => absurd rfl h⟩
  | entersFilling =>
    refine ⟨hlength, hzero, rfl, fun _ => ?_⟩
    show now.history.length = _
    rw [hnow, ht.joins nofun, if_pos rfl]
    exact (ht.enters rfl).2
  | homeMismatch => exact ⟨hlength, hzero, rfl, fun _ => hfull (ht.tracked (.inl rfl)) nofun⟩
  | homeMissing => exact ⟨hlength, hzero, rfl, fun h => absurd rfl h⟩
  | advances n m =>
    have htracked := (ht.advances n m rfl).1
    refine ⟨hlength, hzero, ?_, fun _ => hfull htracked nofun⟩
    simp only [Tracker.turned, Tracker.advanced, htracking]
    split
    · rfl
    · exact (bne_iff_ne.mpr htracked).symm

/-! ## The trays of the window (R76 to R79) -/

/-- The trays e+1 to e+W in order (R76). -/
def traysAhead (trays window e : Nat) : List Tray := (List.range window).map (fun i => (e + 1 + i) % trays)

theorem buildWindow_layout (s : State) :
    (buildWindow s).window.layout = (traysAhead s.cfg.trays s.cfg.window 0, s.window.pending) := by
  simp [buildWindow, withEntries, Window.layout, traysAhead, Entry.fresh, trayAdd, Function.comp_def, Nat.add_comm]

theorem moveIn_tray (e : Entry) (n : PendingNotice) : (moveIn e n).tray = e.tray := by
  unfold moveIn
  split <;> simp

theorem foldl_moveIn_tray (l : List PendingNotice) (e : Entry) : (l.foldl moveIn e).tray = e.tray := by
  induction l generalizing e with
  | nil => rfl
  | cons n l ih => exact (ih _).trans (moveIn_tray e n)

theorem turnover_layout (e : Tray) (loaded : Bool) (s : State) :
    (turnover e loaded s).window.layout =
      ((s.window.entries.map (·.tray)).filter (· != e) ++ [trayAdd s.cfg.trays e s.cfg.window],
        s.window.pending.filter (fun n => n.part.tray != trayAdd s.cfg.trays e s.cfg.window)) := by
  simp [turnover, Window.layout, foldl_moveIn_tray, List.filter_map, Function.comp_def, Entry.fresh]

/-- The near end departs and the far end is made (R79). -/
theorem traysAhead_succ {trays window e : Nat} (hw : 0 < window) (hn : window < trays) :
    (traysAhead trays window e).filter (· != (e + 1) % trays) ++ [trayAdd trays ((e + 1) % trays) window] =
      traysAhead trays window ((e + 1) % trays) := by
  obtain ⟨m, rfl⟩ := Nat.exists_eq_succ_of_ne_zero hw.ne'
  have hfar (i : Nat) (hi : i < m) : (e + 1 + (i + 1)) % trays ≠ (e + 1) % trays := fun h => by
    have : (e + 1 + (i + 1)) ≡ e + 1 + 0 [MOD trays] := h
    have := Nat.ModEq.add_left_cancel' (e + 1) this
    have := Nat.le_of_dvd (Nat.succ_pos i) ((Nat.modEq_zero_iff_dvd).mp this)
    omega
  have hnear : (traysAhead trays (m + 1) e).filter (· != (e + 1) % trays) =
      (List.range m).map (fun i => (e + 1 + (i + 1)) % trays) := by
    rw [traysAhead, List.range_succ_eq_map, List.map_cons, List.map_map,
      List.filter_cons_of_neg (by simp), List.filter_eq_self.mpr]
    · rfl
    · intro x hx
      obtain ⟨i, hi, rfl⟩ := List.mem_map.mp hx
      simpa using hfar i (List.mem_range.mp hi)
  rw [hnear, traysAhead, List.range_succ, List.map_append]
  congr 1
  · refine List.map_congr_left fun i _ => ?_
    rw [Nat.add_assoc _ 1 i, Nat.mod_add_mod, Nat.add_comm 1 i]
  · simp only [List.map_cons, List.map_nil, trayAdd]
    rw [Nat.add_assoc _ 1 m, Nat.mod_add_mod, Nat.mod_add_mod, Nat.add_comm 1 m]

end Sys2Proof.Machine
end

section
/-! PROOFS. The window and the pending list through every step (R76, R94), and the statement on them. -/

namespace Sys2Proof.Machine

variable {s t : State} {c : Settings} {k : Tracker} {home : Bool} {turn : TrayTurn}

/-! ## The window's trays (R76) -/

/-- The trays of the window against the tracker (R76). -/
structure TraysFit (c : Settings) (k : Tracker) (trays : List Tray) : Prop where
  count   : k.count.isSome = (k.tracking != .unsynced)
  empty   : k.tracking = .unsynced → trays = []
  aligned : ∀ e, k.count = some e → e < c.trays ∧ trays = traysAhead c.trays c.window e

theorem WindowAligned.traysFit (hs : WindowAligned s) : TraysFit s.cfg s.tracker s.window.layout.1 where
  count := hs.count
  empty h := by simp [Window.layout, hs.empty h]
  aligned := hs.aligned

theorem TraysFit.windowAligned (hs : TraysFit s.cfg s.tracker s.window.layout.1)
    (hb : active s = false → s.tracker.tracking = .unsynced) : WindowAligned s where
  before := hb
  count := hs.count
  empty h := List.map_eq_nil_iff.mp (hs.empty h)
  aligned := hs.aligned

theorem TraysFit.of_latch {trays : List Tray} (hs : TraysFit c k trays) (latch : Bool) :
    TraysFit c { k with latch := latch } trays := ⟨hs.count, hs.empty, hs.aligned⟩

theorem TraysFit.lost (k : Tracker) : TraysFit c k.lost [] := ⟨rfl, fun _ => rfl, nofun⟩

theorem TraysFit.filling (k : Tracker) (hn : 0 < c.trays) :
    TraysFit c k.filling (traysAhead c.trays c.window 0) where
  count := rfl
  empty := nofun
  aligned e he := by
    cases he
    exact ⟨hn, rfl⟩

theorem resyncHold_layout (s : State) : (resyncHold s).window.layout = ([], []) := by
  simp [resyncHold, resync, Window.layout]

theorem implausibleInterval_layout (s : State) :
    (implausibleInterval s).window.layout = if tracked s then ([], []) else s.window.layout := by
  unfold implausibleInterval
  dsimp only
  split
  · exact resyncHold_layout _
  · simp

/-- The layout of the window after what a tray edge event does to tracking (R49, R50, R78, R79). -/
theorem takeTurn_layout (turn : TrayTurn) (loaded : Bool) (s : State) :
    (takeTurn turn loaded s).window.layout = match turn with
      | .unsynced => s.window.layout
      | .implausible => if tracked s then ([], []) else s.window.layout
      | .entersFilling => (traysAhead s.cfg.trays s.cfg.window 0, s.window.pending)
      | .homeMismatch => (traysAhead s.cfg.trays s.cfg.window 0, [])
      | .homeMissing => ([], [])
      | .advances count _ =>
        (s.window.layout.1.filter (· != count) ++ [trayAdd s.cfg.trays count s.cfg.window],
          s.window.pending.filter (fun n => n.part.tray != trayAdd s.cfg.trays count s.cfg.window)) := by
  cases turn with
  | unsynced => rfl
  | implausible => exact implausibleInterval_layout s
  | entersFilling => simp [takeTurn, enterFilling, buildWindow_layout]
  | homeMismatch =>
    have hempty : (resyncHold s).window.pending = [] := congrArg Prod.snd (resyncHold_layout s)
    simp [takeTurn, enterFilling, buildWindow_layout, hempty]
  | homeMissing => simp [takeTurn, resyncHold_layout]
  | advances count sinceHome =>
    unfold takeTurn advanceCount
    dsimp only
    split
    · simp [turnover_layout]
      rfl
    · simp [turnover_layout]
      rfl

theorem takeTurn_traysFit (loaded : Bool) (hs : TraysFit s.cfg s.tracker s.window.layout.1)
    (ht : TurnFits s.cfg k turn) (hk : s.tracker.tracking = k.tracking ∧ s.tracker.count = k.count)
    (hw : 0 < s.cfg.window) (hn : s.cfg.window < s.cfg.trays) :
    TraysFit s.cfg (takeTurn turn loaded s).tracker (takeTurn turn loaded s).window.layout.1 := by
  rw [takeTurn_tracker, takeTurn_layout]
  cases turn with
  | unsynced => exact hs
  | implausible =>
    dsimp only
    split
    · exact .lost _
    · rename_i hun
      rw [hs.empty (by simpa [tracked] using hun)]
      exact .lost _
  | entersFilling => exact .filling _ (by omega)
  | homeMismatch => exact .filling _ (by omega)
  | homeMissing => exact .lost _
  | advances n m =>
    obtain ⟨htracked, e, he, rfl⟩ := ht.advances n m rfl
    rw [← hk.1] at htracked
    refine ⟨?_, fun hun => ?_, fun x hx => ?_⟩
    · simp only [Tracker.turned, Tracker.advanced]
      split
      · rfl
      · exact (bne_iff_ne.mpr htracked).symm
    · simp only [Tracker.turned, Tracker.advanced] at hun
      split at hun
      · cases hun
      · exact absurd hun htracked
    · cases hx
      refine ⟨Nat.mod_lt _ (by omega), ?_⟩
      rw [(hs.aligned e (hk.2.trans he)).2]
      exact traysAhead_succ hw hn

/-! ## The pending list (R94) -/

/-- The pending list against the tracker (R94). -/
structure PendingFit (c : Settings) (k : Tracker) (l : List PendingNotice) : Prop where
  empty  : k.tracking = .unsynced → l = []
  beyond : ∀ e, k.count = some e → ∀ n ∈ l, n.part.tray < c.trays ∧ c.window < traySub c.trays n.part.tray e
  order  : ∀ e, k.count = some e →
    l.Pairwise (fun a b => traySub c.trays a.part.tray e ≤ traySub c.trays b.part.tray e)
  single : l.Pairwise (fun a b => ¬ (a.part.tray = b.part.tray ∧ a.part.sender = b.part.sender ∧
    a.part.body.sameKind b.part.body = true))

theorem PendingSound.fit (hs : PendingSound s) : PendingFit s.cfg s.tracker s.window.pending :=
  ⟨hs.empty, hs.beyond, hs.order, hs.single⟩

theorem PendingFit.sound (hs : PendingFit s.cfg s.tracker s.window.pending) : PendingSound s :=
  ⟨hs.empty, hs.beyond, hs.order, hs.single⟩

theorem PendingFit.nil : PendingFit c k [] := ⟨fun _ => rfl, nofun, fun _ _ => .nil, .nil⟩

/-- The distance of a tray from the count falls by one at each event, that of the count's own tray apart. -/
theorem traySub_succ {trays d e : Nat} (hn : 0 < trays) (hd : 0 < traySub trays d e) :
    traySub trays d ((e + 1) % trays) + 1 = traySub trays d e := by
  have hback := traySub_add hn d e
  have hlt := traySub_lt hn d e
  have hlt' := traySub_lt hn d ((e + 1) % trays)
  have hback' := traySub_add hn d ((e + 1) % trays)
  have hsum : (traySub trays d ((e + 1) % trays) + 1 + e) % trays = (traySub trays d e + e) % trays := by
    rw [hback, ← hback', Nat.add_mod_mod, Nat.add_assoc, Nat.add_comm 1 e]
  have hmod : (traySub trays d ((e + 1) % trays) + 1) % trays = traySub trays d e % trays :=
    Nat.ModEq.add_right_cancel' e hsum
  rw [Nat.mod_eq_of_lt hlt] at hmod
  rcases Nat.lt_or_ge (traySub trays d ((e + 1) % trays) + 1) trays with h | h
  · rwa [Nat.mod_eq_of_lt h] at hmod
  · rw [show traySub trays d ((e + 1) % trays) + 1 = trays by omega, Nat.mod_self] at hmod
    omega

/-- A tray at the distance W is the far end's (R79). -/
theorem eq_trayAdd_of_traySub {trays d e w : Nat} (hn : 0 < trays) (hd : d < trays) (h : traySub trays d e = w) :
    d = trayAdd trays e w := by
  have := traySub_add hn d e
  rw [h, Nat.mod_eq_of_lt hd] at this
  rw [trayAdd, Nat.add_comm, this]

theorem takeTurn_pendingFit (loaded : Bool) (hs : PendingFit s.cfg s.tracker s.window.pending)
    (ht : TurnFits s.cfg k turn) (hk : s.tracker.tracking = k.tracking ∧ s.tracker.count = k.count)
    (hn : 0 < s.cfg.trays) :
    PendingFit s.cfg (takeTurn turn loaded s).tracker (takeTurn turn loaded s).window.layout.2 := by
  rw [takeTurn_tracker, takeTurn_layout]
  cases turn with
  | unsynced => exact hs
  | implausible =>
    dsimp only
    split
    · exact .nil
    · rename_i hun
      show PendingFit _ _ s.window.pending
      rw [hs.empty (by simpa [tracked] using hun)]
      exact .nil
  | entersFilling =>
    dsimp only
    rw [hs.empty (hk.1.trans (ht.enters rfl).1)]
    exact .nil
  | homeMismatch => exact .nil
  | homeMissing => exact .nil
  | advances n m =>
    obtain ⟨htracked, e, he, rfl⟩ := ht.advances n m rfl
    rw [← hk.1] at htracked
    rw [← hk.2] at he
    have hnear (q : PendingNotice) (hq : q ∈ s.window.pending) := hs.beyond e he q hq
    have hstep (q : PendingNotice) (hq : q ∈ s.window.pending) :
        traySub s.cfg.trays q.part.tray ((e + 1) % s.cfg.trays) + 1 = traySub s.cfg.trays q.part.tray e :=
      traySub_succ hn (by have := (hnear q hq).2; omega)
    have hsub : List.Sublist (s.window.pending.filter (fun n =>
        n.part.tray != trayAdd s.cfg.trays ((e + 1) % s.cfg.trays) s.cfg.window)) s.window.pending := List.filter_sublist
    refine ⟨fun hun => ?_, fun x hx q hq => ?_, fun x hx => ?_, hs.single.sublist hsub⟩
    · simp only [Tracker.turned, Tracker.advanced] at hun
      split at hun
      · cases hun
      · exact absurd hun htracked
    · cases hx
      obtain ⟨hmem, hfar⟩ := List.mem_filter.mp hq
      refine ⟨(hnear q hmem).1, Nat.lt_of_le_of_ne ?_ fun h => ?_⟩
      · have := hstep q hmem
        have := (hnear q hmem).2
        omega
      · exact (bne_iff_ne.mp hfar) (eq_trayAdd_of_traySub hn (hnear q hmem).1 h.symm)
    · cases hx
      refine ((hs.order e he).sublist hsub).imp_of_mem fun ha hb hab => ?_
      have := hstep _ (List.mem_filter.mp ha).1
      have := hstep _ (List.mem_filter.mp hb).1
      omega

end Sys2Proof.Machine
end

section
/-! PROOFS. The pending list through what is heard (R83 to R95), and the statement on the tracker, the window and the
pending list. -/

namespace Sys2Proof.Machine

variable {s t : State} {c : Instr} {p : Part}

/-! ## Joining the pending list (R94) -/

theorem NoticeBody.sameKind_symm (a b : NoticeBody) : a.sameKind b = b.sameKind a := by
  cases a <;> cases b <;> rfl

theorem Part.replaces_iff (p q : Part) : p.replaces q = true ↔
    p.tray = q.tray ∧ p.sender = q.sender ∧ p.body.sameKind q.body = true := by
  simp [Part.replaces, and_assoc]

theorem PendingFit.joined {cfg : Settings} {k : Tracker} {l : List PendingNotice} {e : Tray} (hs : PendingFit cfg k l)
    (ht : k.tracking ≠ .unsynced) (he : k.count = some e) (hp : p.tray < cfg.trays)
    (hw : cfg.window < traySub cfg.trays p.tray e) (superseded : Bool) :
    PendingFit cfg k (insertPending (fun d => traySub cfg.trays d e) ⟨p, superseded⟩ (keptBy p l)) := by
  have hsub : List.Sublist (keptBy p l) l := List.filter_sublist
  obtain ⟨near, far, hkept, hins, -, -⟩ := insertPending_eq_append (fun d => traySub cfg.trays d e) ⟨p, superseded⟩
    (keptBy p l)
  have hother (q : PendingNotice) (hq : q ∈ keptBy p l) : p.replaces q.part = false := by
    simpa using (List.mem_filter.mp hq).2
  refine ⟨fun h => absurd h ht, fun x hx q hq => ?_, fun x hx => ?_, ?_⟩
  · cases he.symm.trans hx
    rw [hins, List.mem_append, List.mem_cons] at hq
    rcases hq with hq | rfl | hq
    · exact hs.beyond e he q (hsub.subset (by rw [hkept]; exact List.mem_append_left _ hq))
    · exact ⟨hp, hw⟩
    · exact hs.beyond e he q (hsub.subset (by rw [hkept]; exact List.mem_append_right _ hq))
  · cases he.symm.trans hx
    exact insertPending_pairwise (fun d => traySub cfg.trays d e) _ _ ((hs.order e he).sublist hsub)
  · have hsingle := hs.single.sublist hsub
    rw [hkept] at hsingle hother
    rw [hins]
    obtain ⟨hnear, hfar, hcross⟩ := List.pairwise_append.mp hsingle
    refine List.pairwise_append.mpr ⟨hnear, List.pairwise_cons.mpr ⟨fun q hq h => ?_, hfar⟩, fun a ha =>
      List.forall_mem_cons.mpr ⟨fun h => ?_, hcross a ha⟩⟩
    · have := (Part.replaces_iff p q.part).mpr h
      rw [hother q (List.mem_append_right _ hq)] at this
      cases this
    · have := (Part.replaces_iff p a.part).mpr ⟨h.1.symm, h.2.1.symm, by rw [NoticeBody.sameKind_symm]; exact h.2.2⟩
      rw [hother a (List.mem_append_left _ ha)] at this
      cases this

theorem joinPending_pending (p : Part) (superseded : Bool) (s : State) :
    (joinPending p superseded s).window.pending = s.window.pending ∨
      (keptBy p s.window.pending).length < 64 ∧ (joinPending p superseded s).window.pending =
        insertPending (fun d => traySub s.cfg.trays d (s.tracker.count.getD 0)) ⟨p, superseded⟩
          (keptBy p s.window.pending) := by
  unfold joinPending
  dsimp only
  split
  · exact .inr ⟨‹_›, rfl⟩
  · exact .inl (by simp)

theorem insertPending_length (d : Tray → Nat) (n : PendingNotice) (l : List PendingNotice) :
    (insertPending d n l).length = l.length + 1 := by
  obtain ⟨near, far, hl, hins, -, -⟩ := insertPending_eq_append d n l
  rw [hins, hl]
  simp
  omega

/-- The pending list after a part has been placed: as it was, or with the part joined to it (R85 to R94). -/
theorem placePart_pending_cases (offset : Nat) (p : Part) (s : State) :
    (placePart offset p s).window.pending = s.window.pending ∨
      s.cfg.window < traySub s.cfg.trays p.tray (s.tracker.count.getD 0) ∧
      (keptBy p s.window.pending).length < 64 ∧
      ∃ superseded, (placePart offset p s).window.pending =
        insertPending (fun d => traySub s.cfg.trays d (s.tracker.count.getD 0)) ⟨p, superseded⟩
          (keptBy p s.window.pending) := by
  unfold placePart
  dsimp only
  repeat' split
  · exact .inl rfl
  · exact .inl (congrArg Prod.snd (applyPart_layout p s))
  · rename_i hwhere
    have hbeyond := of_decide_eq_true (Bool.and_eq_true_iff.mp hwhere).1
    exact (joinPending_pending _ _ _).imp_right fun ⟨hroom, h⟩ => ⟨hbeyond, hroom, _, h⟩
  · exact .inl (by simp)

@[simp] theorem placePart_trays (offset : Nat) (p : Part) (s : State) :
    (placePart offset p s).window.layout.1 = s.window.layout.1 := by
  unfold placePart joinPending
  dsimp only
  repeat' split
  · rfl
  · rw [applyPart_layout]
  · rfl
  · simp
  · simp

theorem placePart_pendingFit {e : Tray} (offset : Nat) (hs : PendingFit s.cfg s.tracker s.window.pending)
    (ht : s.tracker.tracking ≠ .unsynced) (he : s.tracker.count = some e) (hp : p.tray < s.cfg.trays) :
    PendingFit s.cfg s.tracker (placePart offset p s).window.pending := by
  rcases placePart_pending_cases offset p s with h | ⟨hw, -, superseded, h⟩
  · rw [h]
    exact hs
  · rw [he] at h hw
    rw [h]
    exact hs.joined ht he hp hw superseded

theorem placePart_windowBounds (offset : Nat) (p : Part) (hs : WindowBounds s.window) :
    WindowBounds (placePart offset p s).window := by
  refine ⟨?_⟩
  rcases placePart_pending_cases offset p s with h | ⟨-, hroom, superseded, h⟩
  · rw [h]
    exact hs.pending
  · rw [h, insertPending_length]
    exact hroom

/-! ## What is heard (R83, R84) -/

/-- What the hearing of a notice keeps: the tracker, the trays of the window, the configuration, the room of the
pending list and, with a count and for trays of the turn, its order. -/
structure HeardKept (s t : State) : Prop where
  tracker : t.tracker = s.tracker
  cfg     : t.cfg = s.cfg
  trays   : t.window.layout.1 = s.window.layout.1
  runs    : s.station.runs → t.station.runs
  room    : WindowBounds s.window → WindowBounds t.window
  fit     : s.tracker.count.isSome = (s.tracker.tracking != .unsynced) →
    (s.tracker.tracking ≠ .unsynced → 0 < s.cfg.trays) →
    PendingFit s.cfg s.tracker s.window.pending → PendingFit t.cfg t.tracker t.window.pending

theorem HeardKept.of_layoutKept (h : LayoutKept s t) (ht : t.tracker = s.tracker) : HeardKept s t where
  tracker := ht
  cfg := h.cfg
  trays := congrArg Prod.fst h.layout
  runs := h.runs
  room hs := ⟨by rw [show t.window.pending = s.window.pending from congrArg Prod.snd h.layout]; exact hs.pending⟩
  fit _ _ hs := by
    rw [show t.window.pending = s.window.pending from congrArg Prod.snd h.layout, ht, h.cfg]
    exact hs

theorem HeardKept.refl (s : State) : HeardKept s s := .of_layoutKept (.refl s) rfl

theorem hearParts_heardKept (k : LaneOrdinal) (valid : Bool) {parts : List Part}
    (hparts : 0 < s.cfg.trays → ∀ p ∈ parts, p.tray < s.cfg.trays) : HeardKept s (hearParts k valid parts s) := by
  unfold hearParts
  split
  · exact .refl s
  · rename_i htracked
    split
    · exact .of_layoutKept (.of_frame (by simp) (by simp) (by simp) (by simp)) (by simp)
    · split
      · rename_i m _ _
        have hplaced (l : List Part) (hl : 0 < s.cfg.trays → ∀ p ∈ l, p.tray < s.cfg.trays) (u : State)
            (hu : HeardKept s u) :
            HeardKept s (l.foldl (fun v p => placePart (traySub v.cfg.trays v.cfg.offset m) p v) u) := by
          induction l generalizing u with
          | nil => exact hu
          | cons p l ih =>
            refine ih (fun hn q hq => hl hn q (List.mem_cons_of_mem _ hq)) _ ⟨?_, ?_, ?_, fun h => ?_, fun h => ?_,
              fun hcount hn hfit => ?_⟩
            · simp [hu.tracker]
            · simp [hu.cfg]
            · simp [hu.trays]
            · exact placePart_runs _ _ (hu.runs h)
            · exact placePart_windowBounds _ _ (hu.room h)
            · have htrack : s.tracker.tracking ≠ .unsynced := fun h => htracked (by simp [h])
              obtain ⟨e, he⟩ := Option.isSome_iff_exists.mp (hcount.trans (bne_iff_ne.mpr htrack))
              have hkept := placePart_pendingFit (p := p) (traySub u.cfg.trays u.cfg.offset m)
                (hu.fit hcount hn hfit) (by rw [hu.tracker]; exact htrack) (by rw [hu.tracker]; exact he)
                (by rw [hu.cfg]; exact hl (hn htrack) p List.mem_cons_self)
              simpa using hkept
        exact hplaced parts hparts s (.refl s)
      · exact .refl s

theorem partsOf_tray_lt {trays : Nat} (hn : 0 < trays) (k : LaneOrdinal) (body : Span → PartFlag → Tray → NoticeBody)
    (n : Nat) (span : Span) : ∀ q ∈ partsOf trays k body (n % trays) span, q.tray < trays := by
  have hfirst := Nat.mod_lt n hn
  have hsecond : trayAdd trays (n % trays) 1 < trays := Nat.mod_lt _ hn
  cases span <;> simp [partsOf, hfirst, hsecond]

theorem exec_heardKept (hc : Instr.movesWindow c = true) (hr : c ≠ .powerOnReset) (hload : Instr.onMemoryPort c = false)
    (hedge : ∀ home load confirm last, c ≠ .trayEdgeEvent home load confirm last) (htime : c ≠ .timeout) :
    Leads (HeardKept s) (exec c s) := by
  have hwait : HeardKept s (awaitStart s) := .of_layoutKept (.of_frame rfl rfl rfl id) rfl
  have herror : HeardKept s (frameError s) := .of_layoutKept (.of_frame rfl rfl rfl id) rfl
  have hclash : HeardKept s (ordinalClash (awaitStart s)) :=
    .of_layoutKept (.of_frame (by simp) (by simp) (by simp) (fun h => ordinalClash_runs h)) (by simp)
  have hheard (k : LaneOrdinal) (valid : Bool) {parts : List Part}
      (hparts : 0 < s.cfg.trays → ∀ p ∈ parts, p.tray < s.cfg.trays) :
      HeardKept s (hearParts k valid parts (awaitStart s)) := by
    have := hearParts_heardKept (s := awaitStart s) k valid hparts
    exact ⟨this.tracker, this.cfg, this.trays, this.runs, this.room, this.fit⟩
  cases c
  case claimNotice =>
    refine leads_receiveFrame (.refl s) herror hclash ?_
    have hclaim (k : LaneOrdinal) (n : Nat) (span : Span) : HeardKept s (hearClaim k n span (awaitStart s)) :=
      hheard _ _ (fun hn => partsOf_tray_lt hn _ _ _ _)
    dsimp only
    split
    · refine ⟨?_, ?_, ?_, fun h => ?_, fun h => ?_, fun hcount hn hfit => ?_⟩
      · simp
      · simp
      · simpa using (hclaim _ _ _).trays
      · simpa using (hclaim _ _ _).runs h
      · simpa using (hclaim _ _ _).room h
      · simpa using (hclaim _ _ _).fit hcount hn hfit
    · exact hclaim _ _ _
  case holdNotice =>
    refine leads_receiveFrame (.refl s) herror hclash (hheard _ _ fun hn => ?_)
    simpa using Nat.mod_lt _ hn
  case vacateNotice =>
    exact leads_receiveFrame (.refl s) herror hclash (hheard _ _ fun hn => partsOf_tray_lt hn _ _ _ _)
  case powerOnReset => exact absurd rfl hr
  case timeout => exact absurd rfl htime
  case trayEdgeEvent => exact absurd rfl (hedge _ _ _ _)
  case lineRecovery | refusal | transfer => exact nomatch hload
  all_goals exact nomatch hc

end Sys2Proof.Machine
end

section
/-! PROOFS. The statement on the tracker, the window and the pending list (R42, R43, R76, R94). -/

namespace Sys2Proof.Machine

variable {s t : State} {c : Instr}

/-! ## What the commands do to tracking and the window -/

/-- What a command does to the tracker and the window: it leaves them, it hears a notice, it takes a turn of tracking
while the blocks run, or, before they run or at power-on reset, it leaves tracking Unsynced. -/
inductive WindowStep (s : State) : State → Prop where
  | kept {t : State} (h : LayoutKept s t) : WindowStep s t
  | heard {t : State} (h : HeardKept s t) : WindowStep s t
  | turned {t : State} (turn : TrayTurn) (loaded : Bool) (u : State) (ha : s.station.runs) (hu : u.station = s.station)
      (hcfg : u.cfg = s.cfg) (hwindow : u.window = s.window)
      (htrack : u.tracker.tracking = s.tracker.tracking ∧ u.tracker.count = s.tracker.count)
      (hfits : s.tracker.count.isSome = (s.tracker.tracking != .unsynced) → TurnFits s.cfg s.tracker turn)
      (hsound : TrackerSound s.tracker → TrackerSound (u.tracker.turned turn u.cfg.window))
      (ht : LayoutKept (takeTurn turn loaded u) t) : WindowStep s t
  | unstarted {t : State} (ha : ¬ s.station.runs) (htracker : t.tracker = s.tracker) (hwindow : t.window = s.window) :
      WindowStep s t
  | reset {t : State} (htracker : t.tracker = State.reset.tracker) (hwindow : t.window = State.reset.window) :
      WindowStep s t

theorem turned_of_trayEdgeEvent {home load confirm last : Bool}
    (h : execTrayEdgeEvent home load confirm last s = .next t) : WindowStep s t := by
  unfold execTrayEdgeEvent at h
  split at h
  · rename_i ha
    cases h
    refine .turned (trayTurn s.cfg home s.tracker) load (trackerTimes confirm (ageVacates s)) (active_iff.mp ha)
      (by simp) (by simp) (by simp) (by simp [trackerTimes_tracker]) (fun hcount => turnFits_trayTurn hcount)
      (fun hs => ?_) (.of_frame (by simp) (by simp) (by simp) (fun hr => by simp [hr]))
    exact Tracker.turned_trackerSound hs (turnFits_trayTurn hs.count) (by simp [trackerTimes_tracker])
      (by simp [trackerTimes_tracker]) (by simp [trackerTimes_tracker]) (by simp [trackerTimes_tracker])
  · cases h
    exact .kept (.refl s)

theorem turned_of_timeout (h : execTimeout s = .next t) : WindowStep s t := by
  have htimes : (trackerTimesOut s).tracker.tracking = s.tracker.tracking ∧
      (trackerTimesOut s).tracker.count = s.tracker.count ∧ (trackerTimesOut s).tracker.timer = none := by
    rw [trackerTimesOut_tracker]
    split <;> exact ⟨rfl, rfl, rfl⟩
  unfold execTimeout at h
  split at h
  · rename_i hdue
    cases h
    refine .turned .implausible false (trackerTimesOut s) (active_iff.mp (Bool.and_eq_true_iff.mp hdue).1) (by simp)
      (by simp) (by simp) ⟨htimes.1, htimes.2.1⟩ (fun _ => ⟨nofun, nofun, by simp, nofun, fun h => absurd rfl h⟩)
      (fun _ => ⟨Nat.zero_le _, fun n hn => ?_, rfl, fun h => absurd rfl h⟩) (.refl _)
    have hnone : (trackerTimesOut s).tracker.timer = some n := hn
    rw [htimes.2.2] at hnone
    cases hnone
  · cases h
    exact .kept (.refl s)

theorem LoaderStep.windowStep (h : LoaderStep s t) : WindowStep s t := by
  have hidle (hm : s.station.mode = .loading) : ¬ s.station.runs := fun hr => hr.2 hm
  cases h with
  | still => exact .kept (.refl s)
  | attempt phase port hm => exact .unstarted (hidle hm) rfl rfl
  | failed port hm => exact .unstarted (hidle hm) rfl rfl
  | loaded block eyes hm hgood => exact .unstarted (hidle hm) (by simp) (by simp)

theorem windowStep_of_exec (h : exec c s = .next t) : WindowStep s t := by
  cases hload : Instr.onMemoryPort c
  case true => exact (loaderStep_of_exec hload h).windowStep
  cases hmoves : Instr.movesWindow c
  case false => exact .kept (exec_layoutKept hmoves t h)
  by_cases hr : c = .powerOnReset
  · subst hr
    cases h
    exact .reset rfl rfl
  by_cases htime : c = .timeout
  · subst htime
    exact turned_of_timeout h
  by_cases hedge : ∃ home load confirm last, c = .trayEdgeEvent home load confirm last
  · obtain ⟨home, load, confirm, last, rfl⟩ := hedge
    exact turned_of_trayEdgeEvent h
  · exact .heard (exec_heardKept hmoves hr hload (fun home load confirm last he => hedge ⟨home, load, confirm, last, he⟩)
      htime t h)

/-! ## What they keep -/

theorem TrackerSound.of_latch {k : Tracker} (hs : TrackerSound k) (latch : Bool) :
    TrackerSound { k with latch := latch } := ⟨hs.history, hs.timer, hs.count, hs.full⟩

theorem PendingFit.of_latch {cfg : Settings} {k : Tracker} {l : List PendingNotice} (hs : PendingFit cfg k l)
    (latch : Bool) : PendingFit cfg { k with latch := latch } l := ⟨hs.empty, hs.beyond, hs.order, hs.single⟩

theorem WindowStep.trackerSound (h : WindowStep s t) (hs : TrackerSound s.tracker) : TrackerSound t.tracker := by
  cases h with
  | kept h =>
    rw [h.tracker]
    exact hs.of_latch _
  | heard h =>
    rw [h.tracker]
    exact hs
  | turned turn loaded u _ _ _ _ _ _ hsound ht =>
    rw [ht.tracker, takeTurn_tracker]
    exact (hsound hs).of_latch _
  | unstarted _ htracker =>
    rw [htracker]
    exact hs
  | reset htracker =>
    rw [htracker]
    exact trackerSound_reset

/-- A tray of which the window, the tracker and the configuration are in range. -/
theorem SettingsInRange.window_lt_trays {cfg : Settings} (h : SettingsInRange cfg) :
    0 < cfg.window ∧ cfg.window < cfg.trays := by
  have := h.window
  have := h.trays
  omega

theorem WindowStep.windowAligned (h : WindowStep s t) (hl : LoaderSound s) (hs : WindowAligned s) : WindowAligned t := by
  have hunsynced (hn : ¬ s.station.runs) : s.tracker.tracking = .unsynced := hs.before (by
    rw [← Bool.not_eq_true, active_iff]
    exact hn)
  have hbefore (hruns : s.station.runs → t.station.runs) (ha : active t = false) : s.tracker.tracking = .unsynced :=
    hunsynced fun hr => by
      rw [active_iff.mpr (hruns hr)] at ha
      cases ha
  cases h with
  | kept h =>
    refine TraysFit.windowAligned ?_ fun ha => ?_
    · rw [h.layout, h.tracker, h.cfg]
      exact hs.traysFit.of_latch _
    · rw [h.tracker]
      exact hbefore h.runs ha
  | heard h =>
    refine TraysFit.windowAligned ?_ fun ha => ?_
    · rw [h.trays, h.tracker, h.cfg]
      exact hs.traysFit
    · rw [h.tracker]
      exact hbefore h.runs ha
  | turned turn loaded u ha hu hcfg hwindow htrack hfits _ ht =>
    obtain ⟨hw, hn⟩ := (hl.cfg_inRange (active_iff.mpr ha)).window_lt_trays
    have hruns : t.station.runs := ht.runs (takeTurn_runs _ _ (by rw [hu]; exact ha))
    have hfit : TraysFit u.cfg u.tracker u.window.layout.1 := by
      rw [hwindow, hcfg]
      exact ⟨by rw [htrack.1, htrack.2]; exact hs.count, fun h => hs.traysFit.empty (htrack.1 ▸ h),
        fun e he => hs.aligned e (htrack.2 ▸ he)⟩
    have hturned := takeTurn_traysFit loaded hfit (by rw [hcfg]; exact hfits hs.count) htrack (by rw [hcfg]; exact hw)
      (by rw [hcfg]; exact hn)
    refine TraysFit.windowAligned ?_ fun h => ?_
    · rw [ht.layout, ht.tracker, ht.cfg]
      simpa using hturned.of_latch t.tracker.latch
    · rw [active_iff.mpr hruns] at h
      cases h
  | unstarted hn htracker hwindow =>
    have hlost := hunsynced hn
    have hnone : s.tracker.count = none := by
      have := hs.count
      rw [hlost] at this
      simpa using this
    refine ⟨fun _ => by rw [htracker]; exact hlost, by rw [htracker]; exact hs.count, fun _ => ?_, fun e he => ?_⟩
    · rw [hwindow]
      exact hs.empty hlost
    · rw [htracker, hnone] at he
      cases he
  | reset htracker hwindow =>
    refine ⟨fun _ => by rw [htracker]; rfl, by rw [htracker]; rfl, fun _ => by rw [hwindow]; rfl, fun e he => ?_⟩
    rw [htracker] at he
    cases he

theorem PendingSound.of_empty (h : t.window.pending = []) : PendingSound t := by
  refine ⟨fun _ => h, fun e _ n hn => ?_, fun e _ => ?_, ?_⟩
  · rw [h] at hn
    cases hn
  · rw [h]
    exact .nil
  · rw [h]
    exact .nil

theorem WindowStep.pendingSound (h : WindowStep s t) (hl : LoaderSound s) (ha : WindowAligned s) (hs : PendingSound s) :
    PendingSound t := by
  cases h with
  | kept h =>
    refine PendingFit.sound ?_
    rw [show t.window.pending = s.window.pending from congrArg Prod.snd h.layout, h.tracker, h.cfg]
    exact ⟨hs.empty, hs.beyond, hs.order, hs.single⟩
  | heard h =>
    refine (h.fit ha.count (fun htracked => ?_) hs.fit).sound
    have hruns : active s = true := by
      by_contra hn
      exact htracked (ha.before (by simpa using hn))
    have := (hl.cfg_inRange hruns).window_lt_trays
    omega
  | turned turn loaded u hruns hu hcfg hwindow htrack hfits _ ht =>
    obtain ⟨hw, hn⟩ := (hl.cfg_inRange (active_iff.mpr hruns)).window_lt_trays
    have hfit : PendingFit u.cfg u.tracker u.window.pending := by
      rw [hwindow, hcfg]
      exact ⟨fun h => hs.empty (htrack.1 ▸ h), fun e he => hs.beyond e (htrack.2 ▸ he),
        fun e he => hs.order e (htrack.2 ▸ he), hs.single⟩
    have hturned := takeTurn_pendingFit loaded hfit (by rw [hcfg]; exact hfits ha.count) htrack
      (by rw [hcfg]; omega)
    refine PendingFit.sound ?_
    rw [show t.window.pending = (takeTurn turn loaded u).window.layout.2 from congrArg Prod.snd ht.layout, ht.tracker,
      ht.cfg]
    simpa using hturned.of_latch t.tracker.latch
  | unstarted hn htracker hwindow =>
    have hlost : s.tracker.tracking = .unsynced := ha.before (by
      rw [← Bool.not_eq_true, active_iff]
      exact hn)
    refine .of_empty ?_
    rw [hwindow]
    exact hs.empty hlost
  | reset htracker hwindow => exact .of_empty (by rw [hwindow]; rfl)

theorem tick_trackerSound (hs : TrackerSound s.tracker) : TrackerSound (tick s).tracker where
  history := hs.history
  timer n hn := by
    have : s.tracker.timer.map (fun n => min (n + 1) Config.intervalMax) = some n := hn
    obtain ⟨m, -, rfl⟩ := Option.map_eq_some_iff.mp this
    exact Nat.min_le_right _ _
  count := hs.count
  full := hs.full

/-- Settles O58: the tracker and the window by what each command does to them. -/
theorem everyStepKeepsTheWindowAligned : Obligations.EveryStepKeepsTheWindowAligned := by
  unfold Obligations.EveryStepKeepsTheWindowAligned
  intro s t h
  rcases step_cases h with ⟨-, rfl⟩ | ⟨c, rest, hq, hexec⟩
  · exact ⟨tick_trackerSound, fun _ hs => ⟨hs.before, hs.count, hs.empty, hs.aligned⟩,
      fun _ _ hs => ⟨hs.empty, hs.beyond, hs.order, hs.single⟩⟩
  · have hstep := windowStep_of_exec hexec
    refine ⟨fun hs => hstep.trackerSound hs, fun hl hs => hstep.windowAligned (hl.of_kept rfl rfl id) ?_,
      fun hl ha hs => hstep.pendingSound (hl.of_kept rfl rfl id) ?_ ?_⟩
    · exact ⟨hs.before, hs.count, hs.empty, hs.aligned⟩
    · exact ⟨ha.before, ha.count, ha.empty, ha.aligned⟩
    · exact ⟨hs.empty, hs.beyond, hs.order, hs.single⟩

end Sys2Proof.Machine
end

section
/-! PROOFS. The parcel records as a list (R10, R13, R14, R25, R121, R122): what keeps them in step with the commitment,
the launch in flight and the scan slot when one of them changes. -/

namespace Sys2Proof.Machine

variable {q before after : List Parcel} {r new : Parcel} {k f k' f' : Option SeqNo} {slot slot' : Bool}

/-! ## The records and the blocks that name them -/

/-- A record in the phases that a commitment names. -/
def Parcel.isCommitted (r : Parcel) : Prop := r.phase = .committed ∨ r.phase = .announced

/-- The records of the queue against the commitment's sequence number, that of the launch in flight and the scan
slot's being full (R10, R13, R14, R25, R121, R122). -/
structure RecordsSound (q : List Parcel) (k f : Option SeqNo) (slot : Bool) : Prop where
  measuring  : q.countP (·.phase == .measuring) ≤ 1
  numbered   : ∀ r ∈ q, r.phase ≠ .measuring → r.seq.isSome = true
  stage      : q.countP (·.zone == .stage) ≤ 1
  resting    : ∀ r ∈ q, r.phase.isClaim = true → r.zone = .stage
  launching  : q.countP (·.phase == .launching) ≤ 1
  committed  : ∀ r ∈ q, r.isCommitted → r.seq = k
  commitment : k.isSome = true → ∃ r ∈ q, r.isCommitted ∧ r.seq = k
  launched   : ∀ r ∈ q, r.phase = .launching → r.seq = f
  flight     : f.isSome = true → ∃ r ∈ q, r.phase = .launching ∧ r.seq = f
  measured   : ∀ r ∈ q, r.phase = .measured → slot = false

theorem Parcel.isCommitted.isClaim (h : r.isCommitted) : r.phase.isClaim = true := by
  rcases h with h | h <;> rw [h] <;> rfl

/-- Where a list holds at most one member that satisfies a test, a member that does is the only one. -/
theorem countP_le_one_append {α : Type} {p : α → Bool} {before after : List α} {x : α} (hx : p x = true)
    (h : (before ++ x :: after).countP p ≤ 1) : ∀ y ∈ before ++ after, p y = false := by
  rw [List.countP_append, List.countP_cons, if_pos hx] at h
  have hb : before.countP p = 0 := by omega
  have ha : after.countP p = 0 := by omega
  intro y hy
  rw [List.countP_eq_zero] at hb ha
  rcases List.mem_append.mp hy with hy | hy
  · simpa using hb y hy
  · simpa using ha y hy

/-- A record that rests in the stage zone is the only one there, so the only one that a commitment can name. -/
theorem RecordsSound.others_not_claim (hs : RecordsSound (before ++ r :: after) k f slot) (hr : r.phase.isClaim = true) :
    ∀ x ∈ before ++ after, x.phase.isClaim = false := by
  have hzone : r.zone = .stage := hs.resting r (by simp) hr
  have hothers := countP_le_one_append (p := fun x : Parcel => x.zone == .stage) (by simpa using hzone) hs.stage
  intro x hx
  by_contra hclaim
  rw [Bool.not_eq_false] at hclaim
  have hmem : x ∈ before ++ r :: after := by
    rcases List.mem_append.mp hx with h | h
    · exact List.mem_append_left _ h
    · exact List.mem_append_right _ (List.mem_cons_of_mem _ h)
  have := hothers x hx
  rw [hs.resting x hmem hclaim] at this
  cases this

theorem RecordsSound.others_not_launching (hs : RecordsSound (before ++ r :: after) k f slot)
    (hr : r.phase = .launching) : ∀ x ∈ before ++ after, x.phase ≠ .launching := by
  intro x hx h
  have := countP_le_one_append (p := fun x : Parcel => x.phase == .launching) (by simpa using hr) hs.launching x hx
  rw [h] at this
  cases this

theorem RecordsSound.nil (slot : Bool) : RecordsSound [] none none slot := by
  constructor <;> simp

/-- How the record in one place may change, with the commitment, the launch in flight and the slot. -/
structure RecordChange (before : List Parcel) (r new : Parcel) (after : List Parcel) (k f k' f' : Option SeqNo)
    (slot slot' : Bool) : Prop where
  measuring : new.phase = .measuring → r.phase = .measuring
  numbered  : new.phase ≠ .measuring → new.seq.isSome = true
  stage     : new.zone = .stage → r.zone = .stage ∨ ∀ x ∈ before ++ after, x.zone ≠ .stage
  resting   : new.phase.isClaim = true → new.zone = .stage
  launching : new.phase = .launching → r.phase = .launching ∨ ∀ x ∈ before ++ after, x.phase ≠ .launching
  claim     : (k' = k ∧ (new.isCommitted ↔ r.isCommitted) ∧ (r.isCommitted → new.seq = r.seq)) ∨
    ((∀ x ∈ before ++ after, ¬ x.isCommitted) ∧ (new.isCommitted → new.seq = k') ∧ (k'.isSome = true → new.isCommitted))
  flight    : (f' = f ∧ (new.phase = .launching ↔ r.phase = .launching) ∧ (r.phase = .launching → new.seq = r.seq)) ∨
    ((∀ x ∈ before ++ after, x.phase ≠ .launching) ∧ (new.phase = .launching → new.seq = f') ∧
      (f'.isSome = true → new.phase = .launching))
  measured  : slot' = false ∨ slot' = slot ∧ (new.phase = .measured → r.phase = .measured)

theorem RecordsSound.replace (hs : RecordsSound (before ++ r :: after) k f slot)
    (h : RecordChange before r new after k f k' f' slot slot') : RecordsSound (before ++ new :: after) k' f' slot' := by
  have hother {x : Parcel} (hx : x ∈ before ++ after) : x ∈ before ++ r :: after := by
    rcases List.mem_append.mp hx with h | h
    · exact List.mem_append_left _ h
    · exact List.mem_append_right _ (List.mem_cons_of_mem _ h)
  have hback {x : Parcel} (hx : x ∈ before ++ after) : x ∈ before ++ new :: after := by
    rcases List.mem_append.mp hx with h | h
    · exact List.mem_append_left _ h
    · exact List.mem_append_right _ (List.mem_cons_of_mem _ h)
  have hmem {x : Parcel} (hx : x ∈ before ++ new :: after) : x = new ∨ x ∈ before ++ after := by
    rcases List.mem_append.mp hx with h | h
    · exact .inr (List.mem_append_left _ h)
    · rcases List.mem_cons.mp h with rfl | h
      · exact .inl rfl
      · exact .inr (List.mem_append_right _ h)
  have hmem' {x : Parcel} (hx : x ∈ before ++ r :: after) : x = r ∨ x ∈ before ++ after := by
    rcases List.mem_append.mp hx with h | h
    · exact .inr (List.mem_append_left _ h)
    · rcases List.mem_cons.mp h with rfl | h
      · exact .inl rfl
      · exact .inr (List.mem_append_right _ h)
  have hcount (p : Parcel → Bool) (hle : (before ++ r :: after).countP p ≤ 1)
      (hp : p new = true → p r = true ∨ ∀ x ∈ before ++ after, p x = false) :
      (before ++ new :: after).countP p ≤ 1 := by
    by_cases hnew : p new = true
    · rcases hp hnew with hr | hnone
      · simpa [List.countP_append, List.countP_cons, hnew, hr] using hle
      · have hb : before.countP p = 0 := List.countP_eq_zero.mpr fun x hx => by
          simp [hnone x (List.mem_append_left _ hx)]
        have ha : after.countP p = 0 := List.countP_eq_zero.mpr fun x hx => by
          simp [hnone x (List.mem_append_right _ hx)]
        simp [List.countP_append, hnew, ha, hb]
    · simp only [List.countP_append, List.countP_cons, hnew, Bool.false_eq_true, if_false] at hle ⊢
      omega
  refine ⟨hcount _ hs.measuring fun hn => .inl ?_, fun x hx => ?_, hcount _ hs.stage fun hn => ?_, fun x hx => ?_,
    hcount _ hs.launching fun hn => ?_, fun x hx hc => ?_, fun hk => ?_, fun x hx hl => ?_, fun hf => ?_,
    fun x hx hm => ?_⟩
  · simpa using h.measuring (by simpa using hn)
  · rcases hmem hx with rfl | hx
    · exact h.numbered
    · exact hs.numbered x (hother hx)
  · simpa using h.stage (by simpa using hn)
  · rcases hmem hx with rfl | hx
    · exact h.resting
    · exact hs.resting x (hother hx)
  · simpa using h.launching (by simpa using hn)
  · rcases h.claim with ⟨rfl, hiff, hseq⟩ | ⟨hnone, hnew, -⟩
    · rcases hmem hx with rfl | hx
      · rw [hseq (hiff.mp hc)]
        exact hs.committed r (by simp) (hiff.mp hc)
      · exact hs.committed x (hother hx) hc
    · rcases hmem hx with rfl | hx
      · exact hnew hc
      · exact absurd hc (hnone x hx)
  · rcases h.claim with ⟨rfl, hiff, hseq⟩ | ⟨hnone, hnew, hsome⟩
    · obtain ⟨x, hx, hc, hxk⟩ := hs.commitment hk
      rcases hmem' hx with rfl | hx
      · exact ⟨new, by simp, hiff.mpr hc, (hseq hc).trans hxk⟩
      · exact ⟨x, hback hx, hc, hxk⟩
    · exact ⟨new, by simp, hsome hk, hnew (hsome hk)⟩
  · rcases h.flight with ⟨rfl, hiff, hseq⟩ | ⟨hnone, hnew, -⟩
    · rcases hmem hx with rfl | hx
      · rw [hseq (hiff.mp hl)]
        exact hs.launched r (by simp) (hiff.mp hl)
      · exact hs.launched x (hother hx) hl
    · rcases hmem hx with rfl | hx
      · exact hnew hl
      · exact absurd hl (hnone x hx)
  · rcases h.flight with ⟨rfl, hiff, hseq⟩ | ⟨hnone, hnew, hsome⟩
    · obtain ⟨x, hx, hl, hxf⟩ := hs.flight hf
      rcases hmem' hx with rfl | hx
      · exact ⟨new, by simp, hiff.mpr hl, (hseq hl).trans hxf⟩
      · exact ⟨x, hback hx, hl, hxf⟩
    · exact ⟨new, by simp, hsome hf, hnew (hsome hf)⟩
  · rcases h.measured with h | ⟨rfl, hphase⟩
    · exact h
    · rcases hmem hx with rfl | hx
      · exact hs.measured r (by simp) (hphase hm)
      · exact hs.measured x (hother hx) hm

/-- A record leaves the queue: one that no block names, or the Launching one with its launch in flight. -/
theorem RecordsSound.erase (hs : RecordsSound (before ++ r :: after) k f slot) (hc : ¬ r.isCommitted)
    (hf : (r.phase ≠ .launching ∧ f' = f) ∨ (r.phase = .launching ∧ f' = none)) :
    RecordsSound (before ++ after) k f' slot := by
  have hsub : List.Sublist (before ++ after) (before ++ r :: after) :=
    (List.Sublist.refl before).append (List.sublist_cons_self r after)
  have hcount (p : Parcel → Bool) (hle : (before ++ r :: after).countP p ≤ 1) : (before ++ after).countP p ≤ 1 :=
    (hsub.countP_le).trans hle
  have hmem' {x : Parcel} (hx : x ∈ before ++ r :: after) : x = r ∨ x ∈ before ++ after := by
    rcases List.mem_append.mp hx with h | h
    · exact .inr (List.mem_append_left _ h)
    · rcases List.mem_cons.mp h with rfl | h
      · exact .inl rfl
      · exact .inr (List.mem_append_right _ h)
  refine ⟨hcount _ hs.measuring, fun x hx => hs.numbered x (hsub.subset hx), hcount _ hs.stage,
    fun x hx => hs.resting x (hsub.subset hx), hcount _ hs.launching, fun x hx => hs.committed x (hsub.subset hx),
    fun hk => ?_, fun x hx hl => ?_, fun hsome => ?_, fun x hx => hs.measured x (hsub.subset hx)⟩
  · obtain ⟨x, hx, hxc, hxk⟩ := hs.commitment hk
    rcases hmem' hx with rfl | hx
    · exact absurd hxc hc
    · exact ⟨x, hx, hxc, hxk⟩
  · rcases hf with ⟨-, rfl⟩ | ⟨hr, rfl⟩
    · exact hs.launched x (hsub.subset hx) hl
    · exact absurd hl (hs.others_not_launching hr x hx)
  · rcases hf with ⟨hr, rfl⟩ | ⟨-, rfl⟩
    · obtain ⟨x, hx, hxl, hxf⟩ := hs.flight hsome
      rcases hmem' hx with rfl | hx
      · exact absurd hxl hr
      · exact ⟨x, hx, hxl, hxf⟩
    · cases hsome

/-- A new Measuring record joins at the upstream end where there is none. -/
theorem RecordsSound.append_fresh (hs : RecordsSound q k f slot) (hn : ∀ r ∈ q, r.phase ≠ .measuring) (lowers : Bool) :
    RecordsSound (q ++ [.fresh lowers]) k f slot := by
  have hnone : q.countP (·.phase == .measuring) = 0 := List.countP_eq_zero.mpr fun r hr => by simpa using hn r hr
  have hmem {x : Parcel} (hx : x ∈ q ++ [.fresh lowers]) : x ∈ q ∨ x = .fresh lowers := by simpa using hx
  refine ⟨by simp [List.countP_append, hnone, Parcel.fresh], fun x hx => ?_,
    by simpa [List.countP_append, Parcel.fresh] using hs.stage, fun x hx => ?_,
    by simpa [List.countP_append, Parcel.fresh] using hs.launching, fun x hx => ?_, fun hk => ?_, fun x hx => ?_,
    fun hf => ?_, fun x hx => ?_⟩
  · rcases hmem hx with hx | rfl
    · exact hs.numbered x hx
    · exact fun h => absurd rfl h
  · rcases hmem hx with hx | rfl
    · exact hs.resting x hx
    · exact nofun
  · rcases hmem hx with hx | rfl
    · exact hs.committed x hx
    · rintro (h | h) <;> cases h
  · obtain ⟨x, hx, h⟩ := hs.commitment hk
    exact ⟨x, List.mem_append_left _ hx, h⟩
  · rcases hmem hx with hx | rfl
    · exact hs.launched x hx
    · exact nofun
  · obtain ⟨x, hx, h⟩ := hs.flight hf
    exact ⟨x, List.mem_append_left _ hx, h⟩
  · rcases hmem hx with hx | rfl
    · exact hs.measured x hx
    · exact nofun

/-- Every record changed in what no block looks at but the Launching one's zone. -/
theorem RecordsSound.map (hs : RecordsSound q k f slot) {g : Parcel → Parcel}
    (hphase : ∀ r, (g r).phase = r.phase) (hseq : ∀ r, (g r).seq = r.seq)
    (hzone : ∀ r, (g r).zone = r.zone ∨ (g r).zone = .launch ∧ r.phase = .launching) :
    RecordsSound (q.map g) k f slot := by
  have hmem {P : Parcel → Prop} (h : ∀ r ∈ q, P (g r)) : ∀ r ∈ q.map g, P r := by
    simpa using h
  have hcommitted (r : Parcel) : (g r).isCommitted ↔ r.isCommitted := by simp [Parcel.isCommitted, hphase]
  refine ⟨?_, hmem fun r hr => ?_, ?_, hmem fun r hr hc => ?_, ?_, hmem fun r hr hc => ?_, fun hk => ?_,
    hmem fun r hr hl => ?_, fun hf => ?_, hmem fun r hr hm => ?_⟩
  · simpa [List.countP_map, Function.comp_def, hphase] using hs.measuring
  · rw [hphase, hseq]
    exact hs.numbered r hr
  · rw [List.countP_map]
    refine le_trans (List.countP_mono_left fun r _ h => ?_) hs.stage
    rcases hzone r with hz | ⟨hz, -⟩ <;> simp_all
  · have hstage := hs.resting r hr (hphase r ▸ hc)
    rcases hzone r with hz | ⟨-, hl⟩
    · rw [hz, hstage]
    · rw [hphase, hl] at hc
      cases hc
  · simpa [List.countP_map, Function.comp_def, hphase] using hs.launching
  · rw [hseq]
    exact hs.committed r hr ((hcommitted r).mp hc)
  · obtain ⟨r, hr, hc, hrk⟩ := hs.commitment hk
    exact ⟨g r, List.mem_map_of_mem hr, (hcommitted r).mpr hc, (hseq r).trans hrk⟩
  · rw [hseq]
    exact hs.launched r hr (hphase r ▸ hl)
  · obtain ⟨r, hr, hl, hrf⟩ := hs.flight hf
    exact ⟨g r, List.mem_map_of_mem hr, (hphase r).trans hl, (hseq r).trans hrf⟩
  · exact hs.measured r hr (hphase r ▸ hm)

/-- At most one record is Staged, Committed or Announced. -/
theorem RecordsSound.claims_le_one (hs : RecordsSound q k f slot) :
    q.countP (fun r => r.phase == .staged || r.phase == .committed || r.phase == .announced) ≤ 1 := by
  refine le_trans (List.countP_mono_left fun r hr h => ?_) hs.stage
  have hclaim : r.phase.isClaim = true := by
    rcases hp : r.phase <;> simp_all [Phase.isClaim]
  simpa using hs.resting r hr hclaim

theorem modifyFirst_cases {α : Type} (p : α → Bool) (g : α → α) (l : List α) :
    ((∀ x ∈ l, p x = false) ∧ modifyFirst p g l = l) ∨
      ∃ before x after, l = before ++ x :: after ∧ p x = true ∧ (∀ y ∈ before, p y = false) ∧
        modifyFirst p g l = before ++ g x :: after := by
  by_cases h : ∃ x ∈ l, p x = true
  · obtain ⟨before, x, after, hl, hx, hb⟩ := exists_split_first p l h
    exact .inr ⟨before, x, after, hl, hx, hb, by rw [hl, modifyFirst_split p g before after x hb hx]⟩
  · have hnone : ∀ x ∈ l, p x = false := fun x hx => by
      by_contra hp
      exact h ⟨x, hx, by simpa using hp⟩
    exact .inl ⟨hnone, modifyFirst_none p g l hnone⟩

end Sys2Proof.Machine
end

section
/-! PROOFS. The parcel records through the operations (R14, R25, R121, R122). -/

namespace Sys2Proof.Machine

variable {s t x : State} {c : Instr}

/-! ## What an operation keeps -/

/-- What an operation keeps of the lane, from the state `x` on: the length of the queue is not exceeded, no record
comes to be Measuring, the place count and the levels of the measure and transfer eyes stay, and the records stay in
step with the blocks that name them. -/
structure LaneKeptAt (x : State) (lane : Lane) (k f : Option SeqNo) (slot : Bool) : Prop where
  length    : lane.queue.length ≤ x.lane.queue.length
  measuring : (∀ r ∈ x.lane.queue, r.phase ≠ .measuring) → ∀ r ∈ lane.queue, r.phase ≠ .measuring
  levels    : lane.placeCount = x.lane.placeCount ∧ lane.measureEye = x.lane.measureEye ∧
    lane.transferEye = x.lane.transferEye ∧ lane.transferStray = x.lane.transferStray
  sound     : RecordsSound x.lane.queue (x.launch.commitment.map (·.seq)) (x.launch.flight.map (·.seq)) x.scan.slot.isSome →
    RecordsSound lane.queue k f slot

/-- What stands in the state `t` of what an operation keeps. -/
@[simp] abbrev LaneKept (x t : State) : Prop :=
  LaneKeptAt x t.lane (t.launch.commitment.map (·.seq)) (t.launch.flight.map (·.seq)) t.scan.slot.isSome

theorem LaneKept.refl (s : State) : LaneKept s s := ⟨le_rfl, id, ⟨rfl, rfl, rfl, rfl⟩, id⟩

/-- A lane that differs in what no record and no block looks at here. -/
theorem LaneKeptAt.of_queue {lane lane' : Lane} {k f : Option SeqNo} {slot : Bool} (h : LaneKeptAt x lane k f slot)
    (hq : lane'.queue = lane.queue) (hl : lane'.placeCount = lane.placeCount ∧ lane'.measureEye = lane.measureEye ∧
      lane'.transferEye = lane.transferEye ∧ lane'.transferStray = lane.transferStray) :
    LaneKeptAt x lane' k f slot := by
  obtain ⟨hp, hm, ht, hs⟩ := hl
  exact ⟨hq ▸ h.length, hq ▸ h.measuring, by rw [hp, hm, ht, hs]; exact h.levels, hq ▸ h.sound⟩

/-- The records of one phase among which a block works with one change. -/
theorem LaneKeptAt.modify {lane : Lane} {k f k' f' : Option SeqNo} {slot slot' : Bool} (p : Parcel → Bool)
    (g : Parcel → Parcel) (h : LaneKeptAt x lane k f slot)
    (hmeasuring : ∀ r, p r = true → (g r).phase = .measuring → r.phase = .measuring)
    (hchange : ∀ before r after, lane.queue = before ++ r :: after → p r = true →
      RecordsSound (before ++ r :: after) k f slot → RecordChange before r (g r) after k f k' f' slot slot')
    (hnone : (∀ r ∈ lane.queue, p r = false) → RecordsSound lane.queue k f slot →
      RecordsSound lane.queue k' f' slot') :
    LaneKeptAt x { lane with queue := modifyFirst p g lane.queue } k' f' slot' := by
  refine ⟨by simpa using h.length, fun hx r hr => ?_, h.levels, fun hx => ?_⟩
  · rcases modifyFirst_cases p g lane.queue with ⟨-, hq⟩ | ⟨before, y, after, hq, hy, -, hm⟩
    · exact h.measuring hx r (hq ▸ hr)
    · have hold := h.measuring hx
      rw [hq] at hold
      dsimp only at hr
      rw [hm] at hr
      rcases List.mem_append.mp hr with hr | hr
      · exact hold r (List.mem_append_left _ hr)
      · rcases List.mem_cons.mp hr with rfl | hr
        · exact fun hphase => hold y (by simp) (hmeasuring y hy hphase)
        · exact hold r (List.mem_append_right _ (List.mem_cons_of_mem _ hr))
  · have hs := h.sound hx
    show RecordsSound (modifyFirst p g lane.queue) k' f' slot'
    rcases modifyFirst_cases p g lane.queue with ⟨hno, hq⟩ | ⟨before, y, after, hq, hy, -, hm⟩
    · rw [hq]
      exact hnone hno hs
    · rw [hm]
      have hs' := hs
      rw [hq] at hs'
      exact hs'.replace (hchange before y after hq hy hs')

/-- A change of a record that no block that names records looks at. -/
theorem RecordChange.of_same {before after : List Parcel} {r new : Parcel} {k f : Option SeqNo} {slot : Bool}
    (hs : RecordsSound (before ++ r :: after) k f slot) (hphase : new.phase = r.phase) (hseq : new.seq = r.seq)
    (hzone : new.zone = r.zone) : RecordChange before r new after k f k f slot slot where
  measuring h := hphase ▸ h
  numbered h := by
    rw [hseq]
    exact hs.numbered r (by simp) (hphase ▸ h)
  stage h := .inl (hzone ▸ h)
  resting h := by
    rw [hzone]
    exact hs.resting r (by simp) (hphase ▸ h)
  launching h := .inl (hphase ▸ h)
  claim := .inl ⟨rfl, by simp [Parcel.isCommitted, hphase], fun _ => hseq⟩
  flight := .inl ⟨rfl, by rw [hphase], fun _ => hseq⟩
  measured := .inr ⟨rfl, fun h => hphase ▸ h⟩

/-! ## The lane (R5, R16, R17, R137) -/

theorem acceptWaiting_laneKept (h : LaneKept x s) : LaneKept x (acceptWaiting s) := by
  unfold acceptWaiting
  split
  · rename_i hacc
    have hempty : stageOccupied s = false := by
      simp only [accepts, Bool.and_eq_true, Bool.not_eq_true'] at hacc
      exact hacc.1.2
    refine h.modify _ _ (fun r _ hm => hm) (fun before r after hq hr hs => ?_) (fun _ hs => hs)
    have hfree : ∀ y ∈ before ++ after, y.zone ≠ .stage := fun y hy hz => by
      have hmem : y ∈ s.lane.queue := by
        rw [hq]
        rcases List.mem_append.mp hy with hy | hy
        · exact List.mem_append_left _ hy
        · exact List.mem_append_right _ (List.mem_cons_of_mem _ hy)
      have : stageOccupied s = true := List.any_eq_true.mpr ⟨y, hmem, by simp [Parcel.inZone, hz]⟩
      rw [hempty] at this
      cases this
    exact ⟨id, hs.numbered r (by simp), fun _ => .inr hfree, fun _ => rfl, .inl, .inl ⟨rfl, Iff.rfl, fun _ => rfl⟩,
      .inl ⟨rfl, Iff.rfl, fun _ => rfl⟩, .inr ⟨rfl, id⟩⟩
  · exact h

@[simp] theorem settleLane_laneKept (h : LaneKept x s) : LaneKept x (settleLane s) :=
  (acceptWaiting_laneKept h).of_queue rfl ⟨rfl, rfl, rfl, rfl⟩

theorem leaveStage_laneKept (h : LaneKept x s) : LaneKept x (leaveStage s) := by
  refine ⟨by simpa [leaveStage, withQueue] using h.length, fun hx r hr => ?_, h.levels, fun hx => ?_⟩
  · obtain ⟨y, hy, rfl⟩ := List.mem_map.mp hr
    have := h.measuring hx y hy
    split <;> exact this
  · refine (h.sound hx).map (fun r => ?_) (fun r => ?_) (fun r => ?_)
    · split <;> rfl
    · split <;> rfl
    · split
      · rename_i hl
        exact .inr ⟨rfl, by simpa using hl⟩
      · exact .inl rfl

@[simp] theorem giveBackStage_laneKept (h : LaneKept x s) : LaneKept x (giveBackStage s) :=
  leaveStage_laneKept (s := s.withLane { s.lane with stageHolder := .sequencer }) (h.of_queue rfl ⟨rfl, rfl, rfl, rfl⟩)

@[simp] theorem giveBackLaunch_laneKept (h : LaneKept x s) : LaneKept x (giveBackLaunch s) :=
  leaveStage_laneKept (s := s.withLane { s.lane with stageHolder := .sequencer, launchHolder := .sequencer })
    (h.of_queue rfl ⟨rfl, rfl, rfl, rfl⟩)

/-- A record that no block names leaves the queue, or the Launching one with its launch in flight. -/
theorem LaneKeptAt.erase {lane : Lane} {k f f' : Option SeqNo} {slot : Bool} (p : Parcel → Bool)
    (h : LaneKeptAt x lane k f slot) (hc : ∀ r, p r = true → ¬ r.isCommitted)
    (hf : (f' = f ∧ ∀ r, p r = true → r.phase ≠ .launching) ∨
      (f' = none ∧ (∀ r, p r = true → r.phase = .launching) ∧
        (RecordsSound lane.queue k f slot → ∃ r ∈ lane.queue, p r = true))) :
    LaneKeptAt x { lane with queue := lane.queue.eraseP p } k f' slot := by
  refine ⟨(List.length_eraseP_le).trans h.length,
    fun hx r hr => h.measuring hx r (List.eraseP_subset hr), h.levels, fun hx => ?_⟩
  have hs := h.sound hx
  by_cases hany : ∃ r ∈ lane.queue, p r = true
  · obtain ⟨before, r, after, hq, hr, hb⟩ := exists_split_first p lane.queue hany
    show RecordsSound (lane.queue.eraseP p) k f' slot
    rw [hq] at hs ⊢
    rw [eraseP_split p before after r hb hr]
    refine hs.erase (hc r hr) ?_
    rcases hf with ⟨rfl, hl⟩ | ⟨rfl, hl, -⟩
    · exact .inl ⟨hl r hr, rfl⟩
    · exact .inr ⟨hl r hr, rfl⟩
  · have hsame : lane.queue.eraseP p = lane.queue := List.eraseP_of_forall_not fun r hr hp => hany ⟨r, hr, hp⟩
    show RecordsSound (lane.queue.eraseP p) k f' slot
    rw [hsame]
    rcases hf with ⟨rfl, -⟩ | ⟨-, -, hsome⟩
    · exact hs
    · exact absurd (hsome hs) hany

@[simp] theorem removeRejected_laneKept (h : LaneKept x s) : LaneKept x (removeRejected s) := by
  have hrejected (r : Parcel) (hr : r.restsRejected = true) : r.phase = .rejected := by
    simp only [Parcel.restsRejected, Bool.and_eq_true, beq_iff_eq] at hr
    exact hr.1.1
  have := h.erase Parcel.restsRejected (fun r hr => by simp [Parcel.isCommitted, hrejected r hr])
    (.inl ⟨rfl, fun r hr => by simp [hrejected r hr]⟩)
  simpa [removeRejected, withQueue] using this

/-! ## The commitment and the launch in flight (R121, R122, R133, R138, R141) -/

theorem Parcel.isSeq_iff {among : Phase → Bool} {n : SeqNo} {r : Parcel} :
    r.isSeq among n = true ↔ among r.phase = true ∧ r.seq = some n := by
  simp [Parcel.isSeq]

theorem discardCommitment_laneKept {k : Commitment} (hk : s.launch.commitment.map (·.seq) = some k.seq)
    (h : LaneKept x s) : LaneKept x (discardCommitment k s) := by
  unfold LaneKept at h
  rw [hk] at h
  refine h.modify _ Parcel.returned (fun r _ hm => nomatch hm) (fun before r after hq hr hs => ?_) (fun hno hs => ?_)
  · obtain ⟨hclaim, hseq⟩ := Parcel.isSeq_iff.mp hr
    refine ⟨nofun, fun _ => ?_, .inl, fun _ => hs.resting r (by simp) hclaim, nofun,
      .inr ⟨fun y hy hc => ?_, ?_, nofun⟩, .inl ⟨rfl, ⟨nofun, fun hl => ?_⟩, fun hl => ?_⟩, .inr ⟨rfl, nofun⟩⟩
    · exact hs.numbered r (by simp) fun hm => by rw [hm] at hclaim; cases hclaim
    · have := hs.others_not_claim hclaim y hy
      rw [hc.isClaim] at this
      cases this
    · rintro (h | h) <;> cases h
    · rw [hl] at hclaim; cases hclaim
    · rw [hl] at hclaim; cases hclaim
  · obtain ⟨r, hr, hc, hseq⟩ := hs.commitment rfl
    have := hno r hr
    rw [Parcel.isSeq_iff.mpr ⟨hc.isClaim, hseq⟩] at this
    cases this

/-- Where the launch unit has a commitment, the record it names is the one record in the phases of a claim. -/
theorem RecordsSound.of_commitment {before after : List Parcel} {r : Parcel} {k f : Option SeqNo} {slot : Bool}
    (hs : RecordsSound (before ++ r :: after) k f slot) (hr : r.phase.isClaim = true) (hk : k.isSome = true) :
    r.isCommitted := by
  obtain ⟨y, hy, hc, -⟩ := hs.commitment hk
  have hothers := hs.others_not_claim hr
  rcases List.mem_append.mp hy with h | h
  · have := hothers y (List.mem_append_left _ h)
    rw [hc.isClaim] at this
    cases this
  · rcases List.mem_cons.mp h with rfl | h
    · exact hc
    · have := hothers y (List.mem_append_right _ h)
      rw [hc.isClaim] at this
      cases this

@[simp] theorem leaveRunning_laneKept (h : LaneKept x s) : LaneKept x (leaveRunning s) := by
  unfold leaveRunning
  split
  · exact h
  · rename_i hk
    split
    · exact discardCommitment_laneKept (by simp [hk]) (by simpa using h)
    · exact h

@[simp] theorem dropCommitment_laneKept (h : LaneKept x s) : LaneKept x (dropCommitment s) := by
  unfold dropCommitment
  split
  · exact h
  · rename_i hk
    split
    · simpa using discardCommitment_laneKept (by simp [hk]) h
    · exact discardCommitment_laneKept (by simp [hk]) (by simpa using h)

theorem LaneKept.withFlight_none {s : State} (h : LaneKept x s) (hf : s.launch.flight = none) :
    LaneKeptAt x s.lane (s.launch.commitment.map (·.seq)) none s.scan.slot.isSome := by
  simpa [hf] using h

theorem Phase.isLaunching_iff {p : Phase} : p.isLaunching = true ↔ p = .launching := by
  cases p <;> simp [Phase.isLaunching]

@[simp] theorem conflictFlight_laneKept (h : LaneKept x s) : LaneKept x (conflictFlight s) := by
  unfold conflictFlight
  split
  · exact h
  · rename_i f hf
    unfold LaneKept at h
    rw [hf] at h
    refine h.modify _ (fun r => { r with phase := .conflict }) (fun r _ hm => nomatch hm)
      (fun before r after hq hr hs => ?_) (fun hno hs => ?_)
    · obtain ⟨hl, -⟩ := Parcel.isSeq_iff.mp hr
      rw [Phase.isLaunching_iff] at hl
      have hno : ¬ r.isCommitted := by simp [Parcel.isCommitted, hl]
      refine ⟨nofun, fun _ => hs.numbered r (by simp) (by simp [hl]), .inl, nofun, nofun,
        .inl ⟨rfl, ⟨fun hc => ?_, fun hc => absurd hc hno⟩, fun hc => absurd hc hno⟩,
        .inr ⟨hs.others_not_launching hl, nofun, nofun⟩, .inr ⟨rfl, nofun⟩⟩
      rcases hc with h | h <;> cases h
    · obtain ⟨r, hr, hl, hseq⟩ := hs.flight rfl
      have := hno r hr
      rw [Parcel.isSeq_iff.mpr ⟨Phase.isLaunching_iff.mpr hl, hseq⟩] at this
      cases this

@[simp] theorem takeBelts_laneKept (h : LaneKept x s) : LaneKept x (takeBelts s) :=
  h.of_queue rfl ⟨rfl, rfl, rfl, rfl⟩

@[simp] theorem enterFaulted_laneKept (cause : FaultCause) (h : LaneKept x s) : LaneKept x (enterFaulted cause s) := by
  have hbelts : LaneKept x (stopStall (takeBelts (conflictFlight (dropCommitment s)))) :=
    (conflictFlight_laneKept (dropCommitment_laneKept h)).of_queue rfl ⟨rfl, rfl, rfl, rfl⟩
  simpa [enterFaulted] using hbelts

@[simp] theorem reportFault_laneKept (cause : FaultCause) (h : LaneKept x s) : LaneKept x (reportFault cause s) := by
  unfold reportFault
  repeat' split
  · exact enterFaulted_laneKept cause h
  · exact h
  · exact h

@[simp] theorem reportJam_laneKept (z : Zone) (h : LaneKept x s) : LaneKept x (reportJam z s) :=
  reportFault_laneKept _ (by simpa using h)

@[simp] theorem ordinalClash_laneKept (h : LaneKept x s) : LaneKept x (ordinalClash s) :=
  reportFault_laneKept _ (by simpa using h)

@[simp] theorem lateConflict_laneKept (h : LaneKept x s) : LaneKept x (lateConflict s) := by
  have hbelts : LaneKept x (takeBelts (conflictFlight s)) := takeBelts_laneKept (conflictFlight_laneKept h)
  exact reportFault_laneKept _ (by simpa using hbelts)

@[simp] theorem addHold_laneKept (k : HoldCause) (h : LaneKept x s) : LaneKept x (addHold k s) := by
  unfold addHold
  split
  · exact h
  · dsimp only
    split
    · exact leaveRunning_laneKept (by simpa [setMode, setHolds] using h)
    · simpa [setHolds] using h

theorem withdraw_laneKept {k : Commitment} (hk : s.launch.commitment.map (·.seq) = some k.seq) (h : LaneKept x s) :
    LaneKept x (withdraw k s) := by
  have := discardCommitment_laneKept (s := askRemoval TxBody.isClaim (addCredit k.cost s)) (by simpa using hk)
    (by simpa using h)
  simpa [withdraw] using this

theorem abandon_laneKept {k : Commitment} (hk : s.launch.commitment.map (·.seq) = some k.seq) (h : LaneKept x s) :
    LaneKept x (abandon k s) := by
  have := discardCommitment_laneKept (s := askRemoval TxBody.isClaim s) (by simpa using hk) (by simpa using h)
  simpa [abandon] using this

@[simp] theorem governedAway_laneKept (d : Tray) (h : LaneKept x s) : LaneKept x (governedAway d s) := by
  unfold governedAway
  repeat' split
  · exact withdraw_laneKept (by simp [*]) h
  · exact lateConflict_laneKept h
  · exact h
  · exact h
  · exact lateConflict_laneKept h
  · exact h
  · exact h

@[simp] theorem commitmentEvent_laneKept (count : Option Tray) (h : LaneKept x s) :
    LaneKept x (commitmentEvent count s) := by
  unfold commitmentEvent
  split
  · exact h
  · rename_i hk
    repeat' split
    · simpa [hk] using h
    · simpa [hk] using h
    · exact abandon_laneKept (by simp [hk]) h
    · exact h

@[simp] theorem takeVerdict_laneKept (h : LaneKept x s) : LaneKept x (takeVerdict s) := by
  unfold takeVerdict
  split
  · exact h
  · rename_i f hf
    split
    · exact h
    · unfold LaneKept at h
      rw [hf] at h
      have := h.erase (f' := none) (Parcel.isSeq Phase.isLaunching f.seq)
        (fun r hr hc => by
          have hl := Phase.isLaunching_iff.mp (Parcel.isSeq_iff.mp hr).1
          rcases hc with hc | hc <;> rw [hl] at hc <;> cases hc)
        (.inr ⟨rfl, fun r hr => Phase.isLaunching_iff.mp (Parcel.isSeq_iff.mp hr).1, fun hs => by
          obtain ⟨r, hr, hl, hseq⟩ := hs.flight rfl
          exact ⟨r, hr, Parcel.isSeq_iff.mpr ⟨Phase.isLaunching_iff.mpr hl, hseq⟩⟩⟩)
      simpa [deleteRecord, withQueue] using this
    · exact reportFault_laneKept _ (by simpa using h)

@[simp] theorem launchEvent_laneKept (reading : Option Bool) (h : LaneKept x s) :
    LaneKept x (launchEvent reading s) := by
  refine commitmentEvent_laneKept _ ?_
  unfold flightEvent
  split
  · exact h
  · rename_i f hf
    have hread (g : Flight) : (Flight.read g reading).seq = g.seq := by
      unfold Flight.read
      repeat' split
      all_goals rfl
    have hevent : LaneKept x (s.withLaunch { s.launch with
        flight := some (Flight.read { f with timing := f.timing.event } reading) }) := by
      simpa [hread, hf] using h
    dsimp only
    split
    · exact hevent
    · exact takeVerdict_laneKept hevent

end Sys2Proof.Machine
end

section
/-! PROOFS. The parcel records through the tray edge event, the notices and the scan binder (R14, R25, R121). -/

namespace Sys2Proof.Machine

variable {s t x : State} {c : Instr}

/-! ## Claims (R107, R128) -/

theorem makeCommitment_laneKept {k : Commitment} {r : Parcel} (hr : readyParcel s = some r)
    (hk : k.seq = r.seq.getD 0) (h : LaneKept x s) : LaneKept x (makeCommitment k s) := by
  obtain ⟨hstaged, hmem⟩ : r.phase = .staged ∧ r ∈ s.lane.queue := by
    have hfound : s.lane.queue.find? (·.phase == .staged) = some r := hr
    exact ⟨by simpa using List.find?_some hfound, List.mem_of_find?_eq_some hfound⟩
  have hclaim : r.phase.isClaim = true := by rw [hstaged]; rfl
  have hsame {slot : Bool} {k' f : Option SeqNo} (hs : RecordsSound s.lane.queue k' f slot) :
      r.seq = some k.seq := by
    obtain ⟨n, hn⟩ := Option.isSome_iff_exists.mp (hs.numbered r hmem (by simp [hstaged]))
    rw [hk, hn, Option.getD_some]
  have hmade : LaneKept x ((updateRecord Phase.isClaim k.seq
      (fun r => { r with phase := .committed, placement := some ⟨k.tray, k.edge, k.delay⟩ }) s).withLaunch
        { s.launch with commitment := some k }) := by
    refine h.modify _ (fun r => { r with phase := .committed, placement := some ⟨k.tray, k.edge, k.delay⟩ })
      (fun y _ hm => nomatch hm) (fun before y after hq hy hs => ?_) (fun hno hs => ?_)
    · obtain ⟨hyclaim, hyseq⟩ := Parcel.isSeq_iff.mp hy
      refine ⟨nofun, fun _ => ?_, .inl, fun _ => hs.resting y (by simp) hyclaim, nofun,
        .inr ⟨fun z hz hc => ?_, fun _ => hyseq, fun _ => .inl rfl⟩, .inl ⟨rfl, ⟨nofun, fun hl => ?_⟩, fun hl => ?_⟩,
        .inr ⟨rfl, nofun⟩⟩
      · rw [hyseq]
        rfl
      · have := hs.others_not_claim hyclaim z hz
        rw [hc.isClaim] at this
        cases this
      · rw [hl] at hyclaim; cases hyclaim
      · rfl
    · have := hno r hmem
      rw [Parcel.isSeq_iff.mpr ⟨hclaim, hsame hs⟩] at this
      cases this
  unfold makeCommitment
  dsimp only
  split
  · simpa using hmade
  · exact hmade

@[simp] theorem makeClaim_laneKept (e d : Tray) {r : Parcel} (hr : readyParcel s = some r) (h : LaneKept x s) :
    LaneKept x (makeClaim e d r s) := by
  unfold makeClaim
  dsimp only
  generalize hu : List.foldl _ _ _ = u
  have hlane : u.lane = s.lane := by rw [← hu]; simp [foldl_lane]
  have hlaunch : u.launch = s.launch := by rw [← hu]; simp [foldl_launch]
  have hscan : u.scan = s.scan := by rw [← hu]; simp [foldl_scan]
  have hkept : LaneKept x u := by
    unfold LaneKept
    rw [hlane, hlaunch, hscan]
    exact h
  have hready : readyParcel u = some r := by
    unfold readyParcel
    rw [hlane]
    exact hr
  unfold commitClaim
  dsimp only
  split
  · exact makeCommitment_laneKept hready rfl hkept
  · simpa [refuseClaim] using hkept

@[simp] theorem decideTray_laneKept (e d : Tray) (h : LaneKept x s) : LaneKept x (decideTray e d s) := by
  have hready (u : State) (hu : u.lane = s.lane) (hl : u.launch = s.launch) (hc : u.scan = s.scan) : LaneKept x u := by
    unfold LaneKept
    rw [hu, hl, hc]
    exact h
  unfold decideTray
  dsimp only
  repeat' split
  · exact hready _ (by simp) (by simp) (by simp)
  · exact makeClaim_laneKept _ _ ‹_› (hready _ (by simp) (by simp) (by simp))
  · exact hready _ (by simp) (by simp) (by simp)
  · exact hready _ (by simp) (by simp) (by simp)
  · exact hready _ (by simp) (by simp) (by simp)

@[simp] theorem reportHorizon_laneKept (h : LaneKept x s) : LaneKept x (reportHorizon s) := by
  unfold reportHorizon
  split
  · exact addHold_laneKept _ h
  · simpa using h

theorem recomputeHorizon_laneKept (h : LaneKept x s) : LaneKept x (recomputeHorizon s) := reportHorizon_laneKept h

@[simp] theorem epochEvent_laneKept (h : LaneKept x s) : LaneKept x (epochEvent s) := by
  have haged : LaneKept x (recomputeShare (agePeers (request .demand (s.withShare { s.share with epochCount := 0 })))) := by
    simpa using h
  unfold epochEvent
  split
  · simpa [epochBoundary] using recomputeHorizon_laneKept haged
  · simpa using h

@[simp] theorem shareEvent_laneKept (h : LaneKept x s) : LaneKept x (shareEvent s) := by
  unfold shareEvent
  dsimp only
  split
  · exact epochEvent_laneKept h
  · rename_i e _
    have hepoch : LaneKept x (passOver e s.launch.horizon (epochEvent (expireHolds e s))) := by
      simpa using epochEvent_laneKept (s := expireHolds e s) (by simpa using h)
    repeat' split
    · exact decideTray_laneKept _ _ (by simpa using hepoch)
    · simpa using hepoch
    · exact hepoch

/-! ## Deadlines and resyncs (R50, R72) -/

@[simp] theorem lineEvent_laneKept (last : Bool) (h : LaneKept x s) : LaneKept x (lineEvent last s) := by
  have hreport (u : State) (f : TxFrame) (hu : LaneKept x u) : LaneKept x (reportDeadline u f) := by
    unfold reportDeadline
    split
    · split
      · exact hu
      · rename_i hk
        split
        · exact abandon_laneKept (by simp [hk]) hu
        · exact hu
    · simpa using hu
    · exact hu
    · exact hu
    · exact hu
  unfold lineEvent
  dsimp only
  refine foldl_keeps (P := LaneKept x) hreport _ ?_
  split
  · exact h
  · exact h

@[simp] theorem resyncHold_laneKept (h : LaneKept x s) : LaneKept x (resyncHold s) :=
  addHold_laneKept _ (dropCommitment_laneKept (by simpa using h))

@[simp] theorem implausibleInterval_laneKept (h : LaneKept x s) : LaneKept x (implausibleInterval s) := by
  unfold implausibleInterval
  dsimp only
  split
  · exact resyncHold_laneKept (by simpa using h)
  · simpa using h

@[simp] theorem takeTurn_laneKept (turn : TrayTurn) (loaded : Bool) (h : LaneKept x s) :
    LaneKept x (takeTurn turn loaded s) := by
  unfold takeTurn
  split
  · exact h
  · exact implausibleInterval_laneKept h
  · simpa using h
  · simpa using resyncHold_laneKept h
  · simpa using resyncHold_laneKept (s := loseTracking s) (by simpa using h)
  · unfold advanceCount
    dsimp only
    split <;> simpa using h

/-! ## What is heard (R83 to R93) -/

@[simp] theorem placePart_laneKept (offset : Nat) (p : Part) (h : LaneKept x s) : LaneKept x (placePart offset p s) := by
  unfold placePart applyPart
  dsimp only
  repeat' split
  · exact h
  · exact h
  · exact h
  · exact governedAway_laneKept _ (by simpa using h)
  · simpa using h
  · simpa using h
  · simpa using h
  · simpa using h
  · simpa using h

@[simp] theorem hearParts_laneKept (k : LaneOrdinal) (valid : Bool) (parts : List Part) (h : LaneKept x s) :
    LaneKept x (hearParts k valid parts s) := by
  unfold hearParts
  repeat' split
  · exact h
  · simpa using h
  · exact foldl_keeps (P := LaneKept x) (fun u p hu => placePart_laneKept _ p hu) _ h
  · exact h

/-! ## The scan binder (R24 to R30) -/

theorem Parcel.decided_phase (cfg : Settings) (n : Nat) (r : Parcel) :
    (r.decided cfg n).phase = .bound ∨ (r.decided cfg n).phase = .rejected := by
  unfold Parcel.decided
  split
  · exact .inl rfl
  · exact .inr rfl

theorem Parcel.decided_place (cfg : Settings) (n : Nat) (r : Parcel) :
    (r.decided cfg n).seq = r.seq ∧ (r.decided cfg n).zone = r.zone := by
  unfold Parcel.decided
  split <;> exact ⟨rfl, rfl⟩

@[simp] theorem leaveMeasured_laneKept (n : SeqNo) (d : Nat) (h : LaneKept x s) : LaneKept x (leaveMeasured n d s) := by
  have hdecided : LaneKept x (updateRecord Phase.isMeasured n (Parcel.decided s.cfg d) s) := by
    refine h.modify _ _ (fun r _ hm => ?_) (fun before r after hq hr hs => ?_) (fun _ hs => hs)
    · rcases Parcel.decided_phase s.cfg d r with hp | hp <;> rw [hp] at hm <;> cases hm
    · have hphase := Parcel.decided_phase s.cfg d r
      obtain ⟨hseq, hzone⟩ := Parcel.decided_place s.cfg d r
      have hm := (Phase.isMeasured_iff _).mp (Parcel.isSeq_iff.mp hr).1
      refine ⟨fun hp => ?_, fun _ => ?_, fun hz => .inl (hzone ▸ hz), fun hp => ?_, fun hp => ?_,
        .inl ⟨rfl, ?_, fun hc => ?_⟩, .inl ⟨rfl, ?_, fun hl => ?_⟩, .inr ⟨rfl, fun hp => ?_⟩⟩
      · rcases hphase with h | h <;> rw [h] at hp <;> cases hp
      · rw [hseq]
        exact hs.numbered r (by simp) (by simp [hm])
      · rcases hphase with h | h <;> rw [h] at hp <;> cases hp
      · rcases hphase with h | h <;> rw [h] at hp <;> cases hp
      · rcases hphase with h | h <;> simp [Parcel.isCommitted, h, hm]
      · rcases hc with h | h <;> rw [hm] at h <;> cases h
      · rcases hphase with h | h <;> simp [h, hm]
      · rw [hm] at hl; cases hl
      · rcases hphase with h | h <;> rw [h] at hp <;> cases hp
  unfold leaveMeasured
  dsimp only
  split
  · simpa using hdecided
  · exact hdecided

@[simp] theorem bindRecord_laneKept (d : ScanData) (h : LaneKept x s) : LaneKept x (bindRecord d s) := by
  unfold bindRecord
  split
  · exact leaveMeasured_laneKept _ _ h
  · rename_i hnone
    have hno : ∀ r ∈ s.lane.queue, r.phase ≠ .measured := by
      simpa [oldestMeasured] using hnone
    have hslot : LaneKept x (s.withScan { s.scan with slot := some ⟨d, 0⟩ }) := by
      refine ⟨h.length, h.measuring, h.levels, fun hx => { h.sound hx with measured := fun r hr hm => ?_ }⟩
      exact absurd hm (hno r hr)
    dsimp only
    split
    · simpa using hslot
    · exact hslot

@[simp] theorem takeScan_laneKept (d : ScanData) (h : LaneKept x s) : LaneKept x (takeScan d s) := by
  unfold takeScan
  repeat' split
  · simpa using h
  · simpa using h
  · exact bindRecord_laneKept d (by simpa using h)

@[simp] theorem takeChar_laneKept (h : LaneKept x s) (k : ScanChar) : LaneKept x (takeChar s k) := by
  unfold takeChar closeRecord
  dsimp only
  repeat' split
  · simpa using h
  · exact h
  · simpa using h
  · exact takeScan_laneKept _ (by simpa using h)
  · simpa using h
  · simpa using h
  · simpa using h

end Sys2Proof.Machine
end

section
/-! PROOFS. The parcel records and the lane's bounds through every command (R1, R8, R11, R14, R25, R121, R122). -/

namespace Sys2Proof.Machine

variable {s t u x : State} {c : Instr}

/-- The records of the state against the blocks that name them. -/
abbrev RecordsOf (s : State) : Prop :=
  RecordsSound s.lane.queue (s.launch.commitment.map (·.seq)) (s.launch.flight.map (·.seq)) s.scan.slot.isSome

theorem ParcelsSound.records (hs : ParcelsSound s) : RecordsOf s where
  measuring := hs.measuring
  numbered := hs.numbered
  stage := hs.stage
  resting := hs.resting
  launching := hs.launching
  committed r hr hc := by
    obtain ⟨k, hk, hseq⟩ := hs.committed r hr hc
    rw [hk, hseq]
    rfl
  commitment hk := by
    obtain ⟨k, hk⟩ := Option.isSome_iff_exists.mp (by simpa using hk)
    obtain ⟨r, hr, hc, hseq⟩ := hs.commitment k hk
    exact ⟨r, hr, hc, by rw [hk, hseq]; rfl⟩
  launched r hr hl := by
    obtain ⟨f, hf, hseq⟩ := hs.launched r hr hl
    rw [hf, hseq]
    rfl
  flight hf := by
    obtain ⟨f, hf⟩ := Option.isSome_iff_exists.mp (by simpa using hf)
    obtain ⟨r, hr, hl, hseq⟩ := hs.flight f hf
    exact ⟨r, hr, hl, by rw [hf, hseq]; rfl⟩
  measured r hr hm := by rw [hs.slot r hr hm]; rfl

theorem RecordsSound.parcels (hs : RecordsOf s) (hbefore : active s = false → s.lane.queue = [])
    (hblocked : takesLaneEvents s = true → ∀ r ∈ s.lane.queue, r.phase = .measuring → s.lane.measureEye = true) :
    ParcelsSound s where
  before := hbefore
  measuring := hs.measuring
  blocked := hblocked
  numbered := hs.numbered
  stage := hs.stage
  resting := hs.resting
  launching := hs.launching
  committed r hr hc := by
    obtain ⟨n, hn⟩ := Option.isSome_iff_exists.mp (hs.numbered r hr (by rcases hc with h | h <;> simp [h]))
    obtain ⟨k, hk, rfl⟩ := Option.map_eq_some_iff.mp ((hs.committed r hr hc).symm.trans hn)
    exact ⟨k, hk, hn⟩
  commitment k hk := by
    obtain ⟨r, hr, hc, hseq⟩ := hs.commitment (by simp [hk])
    exact ⟨r, hr, hc, by rw [hseq, hk]; rfl⟩
  launched r hr hl := by
    obtain ⟨n, hn⟩ := Option.isSome_iff_exists.mp (hs.numbered r hr (by simp [hl]))
    obtain ⟨f, hf, rfl⟩ := Option.map_eq_some_iff.mp ((hs.launched r hr hl).symm.trans hn)
    exact ⟨f, hf, hn⟩
  flight f hf := by
    obtain ⟨r, hr, hl, hseq⟩ := hs.flight (by simp [hf])
    exact ⟨r, hr, hl, by rw [hseq, hf]; rfl⟩
  slot r hr hm := by simpa using hs.measured r hr hm

/-! ## What the eyes do before the lane settles (R8, R9, R11, R16) -/

/-- What a command has done to the lane before the operations that keep it. -/
structure Prepared (s u : State) : Prop where
  bounds  : LaneBounds s.lane → LaneBounds u.lane
  records : ParcelsSound s → RecordsOf u
  blocked : ParcelsSound s → takesLaneEvents s = true → ∀ r ∈ u.lane.queue, r.phase = .measuring →
    u.lane.measureEye = true
  before  : active s = false → s.lane.queue = [] → u.lane.queue = []

theorem Prepared.refl (s : State) : Prepared s s := ⟨id, (·.records), (·.blocked), fun _ h => h⟩

/-- A level of the measure or the transfer eye where lane events are not taken, or where it bears on no record. -/
theorem Prepared.of_levels {l : Lane} (hq : l.queue = s.lane.queue) (hp : l.placeCount = s.lane.placeCount)
    (hstray : LaneBounds s.lane → l.transferStray = true → l.transferEye = true)
    (hm : takesLaneEvents s = true → l.measureEye = true ∨ l.measureEye = s.lane.measureEye ∨
      ∀ r ∈ s.lane.queue, r.phase ≠ .measuring) : Prepared s (s.withLane l) where
  bounds h := ⟨hq ▸ h.queue, hp ▸ h.place, hstray h⟩
  records h := by
    have := h.records
    unfold RecordsOf at this
    rw [← hq] at this
    exact this
  blocked h ht r hr hphase := by
    replace hr : r ∈ s.lane.queue := hq ▸ hr
    rcases hm ht with he | he | hno
    · exact he
    · exact he.trans (h.blocked ht r hr hphase)
    · exact absurd hphase (hno r hr)
  before _ h := hq.trans h

theorem LaneKept.laneBounds (h : LaneKept u t) (hu : LaneBounds u.lane) : LaneBounds t.lane := by
  obtain ⟨hp, -, ht, hs⟩ := h.levels
  exact ⟨h.length.trans hu.queue, hp ▸ hu.place, fun hstray => ht.trans (hu.stray (hs ▸ hstray))⟩

/-- The lane after a command: kept from what the command prepared. -/
def LaneFollows (s t : State) : Prop := ∃ u, Prepared s u ∧ LaneKept u t

theorem LaneFollows.of_kept (h : LaneKept s t) : LaneFollows s t := ⟨s, .refl s, h⟩

theorem LaneFollows.parcelsSound (h : LaneFollows s t) (hs : ParcelsSound s)
    (hruns : active t = false → active s = false) (htakes : takesLaneEvents t = true → takesLaneEvents s = true) :
    ParcelsSound t := by
  obtain ⟨u, hu, ht⟩ := h
  refine (ht.sound (hu.records hs)).parcels (fun ha => ?_) (fun hev r hr hphase => ?_)
  · have hempty := hu.before (hruns ha) (hs.before (hruns ha))
    have := ht.length
    rw [hempty] at this
    exact List.eq_nil_of_length_eq_zero (Nat.le_zero.mp this)
  · rw [ht.levels.2.1]
    by_contra hclear
    exact ht.measuring (fun y hy hyphase => hclear (hu.blocked hs (htakes hev) y hy hyphase)) r hr hphase

/-! ## The lane eyes -/

theorem placeEye_laneFollows : Leads (LaneFollows s) (execPlaceEyeFrontEdge s) := by
  unfold execPlaceEyeFrontEdge
  split
  · refine leads_next.mpr ⟨raisePlace s, ⟨fun h => ⟨h.queue, Nat.min_le_right _ _, h.stray⟩, (·.records), (·.blocked),
      fun _ h => h⟩, settleLane_laneKept ?_⟩
    exact (LaneKept.refl (raisePlace s)).of_queue rfl ⟨rfl, rfl, rfl, rfl⟩
  · exact leads_next.mpr (.of_kept (LaneKept.refl s))

theorem createRecord_prepared (hroom : queueRoom s = true) (heye : s.lane.measureEye = false)
    (ht : takesLaneEvents s = true) :
    Prepared s (createRecord (s.withLane { s.lane with measureEye := true })) where
  bounds h := by
    refine ⟨?_, (Nat.sub_le _ _).trans h.place, h.stray⟩
    have := of_decide_eq_true hroom
    simpa [createRecord] using this
  records h := h.records.append_fresh (fun r hr hphase => by
    have := h.blocked ht r hr hphase
    rw [heye] at this
    cases this) _
  blocked _ _ _ _ _ := rfl
  before ha := by
    rw [takesLaneEvents_of_inactive ha] at ht
    cases ht

theorem measureEyeFront_laneFollows : Leads (LaneFollows s) (execMeasureEyeFrontEdge s) := by
  have hlevel : Prepared s (s.withLane { s.lane with measureEye := true }) :=
    .of_levels rfl rfl (fun h => h.stray) (fun _ => .inl rfl)
  unfold execMeasureEyeFrontEdge
  split
  · exact leads_next.mpr (.of_kept (LaneKept.refl s))
  · rename_i heye
    dsimp only
    split
    · rename_i ht
      split
      · rename_i hroom
        exact leads_next.mpr ⟨_, createRecord_prepared hroom (by simpa using heye) ht,
          settleLane_laneKept ((LaneKept.refl _).of_queue rfl ⟨rfl, rfl, rfl, rfl⟩)⟩
      · exact leads_next.mpr ⟨_, hlevel, reportJam_laneKept _ (LaneKept.refl _)⟩
    · exact leads_next.mpr ⟨_, hlevel, LaneKept.refl _⟩

/-- The record being measured is the only one, so none is being measured once it is not. -/
theorem RecordsSound.others_not_measuring {before after : List Parcel} {r : Parcel} {k f : Option SeqNo} {slot : Bool}
    (hs : RecordsSound (before ++ r :: after) k f slot) (hr : r.phase = .measuring) :
    ∀ y ∈ before ++ after, y.phase ≠ .measuring := by
  intro y hy h
  have := countP_le_one_append (p := fun y : Parcel => y.phase == .measuring) (by simpa using hr) hs.measuring y hy
  rw [h] at this
  cases this

theorem measuringRecord_split {r : Parcel} (h : measuringRecord s = some r) :
    r.phase = .measuring ∧ ∃ before after, s.lane.queue = before ++ r :: after ∧
      ∀ y ∈ before, (y.phase == .measuring) = false := by
  obtain ⟨hr, before, after, hq, hb⟩ := List.find?_eq_some_iff_append.mp h
  exact ⟨by simpa using hr, before, after, hq, fun y hy => by simpa using hb y hy⟩

theorem deleteNoise_prepared {r : Parcel} (hr : measuringRecord s = some r) (ht : takesLaneEvents s = true) :
    Prepared s (deleteNoise r (s.withLane { s.lane with measureEye := false })) := by
  obtain ⟨hphase, before, after, hq, hb⟩ := measuringRecord_split hr
  have hqueue : (deleteNoise r (s.withLane { s.lane with measureEye := false })).lane.queue = before ++ after := by
    simp only [deleteNoise, State.withLane_lane, raise_frame, hq]
    exact eraseP_split _ before after r hb (by simp [hphase])
  have hno : ¬ r.isCommitted := by simp [Parcel.isCommitted, hphase]
  refine ⟨fun h => ⟨?_, ?_, fun hstray => ?_⟩, fun h => ?_, fun h _ y hy hyphase => ?_, fun ha => ?_⟩
  · rw [hqueue]
    have := h.queue
    rw [hq] at this
    simp only [List.length_append, List.length_cons] at this ⊢
    omega
  · simp only [deleteNoise, State.withLane_lane, raise_frame]
    split
    · exact Nat.min_le_right _ _
    · exact h.place
  · simp only [deleteNoise, State.withLane_lane, raise_frame, Bool.or_eq_true, Bool.and_eq_true] at hstray ⊢
    rcases hstray with hstray | hstray
    · exact h.stray hstray
    · exact hstray.1
  · have hs := h.records
    unfold RecordsOf at hs ⊢
    rw [hqueue]
    rw [hq] at hs
    simpa [deleteNoise] using hs.erase (f' := s.launch.flight.map (·.seq)) hno (.inl ⟨by simp [hphase], rfl⟩)
  · rw [hqueue] at hy
    have hs := h.records
    unfold RecordsOf at hs
    rw [hq] at hs
    exact absurd hyphase (hs.others_not_measuring hphase y hy)
  · rw [takesLaneEvents_of_inactive ha] at ht
    cases ht

/-- The record that has become Measured, the slot taken (R9, R10, R27). -/
def measured (length : Nat) (s : State) : State :=
  (s.withLane { s.lane with
    queue := modifyFirst (·.phase == .measuring)
      (fun r => { r with
        phase := .measured
        seq := some s.lane.nextSeq
        length := some length
        blockedTicks := none
        scanTimer := some 0 }) s.lane.queue
    nextSeq := s.lane.nextSeq + 1 }).withScan { s.scan with slot := none }

theorem becomeMeasured_laneKept (length : Nat) (s : State) : LaneKept (measured length s) (becomeMeasured length s) := by
  unfold becomeMeasured measuredArrives
  dsimp only
  split
  · rename_i hslot
    have : s.scan.slot = none := hslot
    have hscan : LaneKept (measured length s) (measured length s) := .refl _
    simpa [measured, this] using hscan
  · split
    · exact leaveMeasured_laneKept _ _ (LaneKept.refl (measured length s))
    · exact LaneKept.refl (measured length s)

theorem measured_prepared {r : Parcel} (length : Nat) (hr : measuringRecord s = some r) (ht : takesLaneEvents s = true) :
    Prepared s (measured length (s.withLane { s.lane with measureEye := false })) := by
  obtain ⟨hphase, before, after, hq, hb⟩ := measuringRecord_split hr
  have hqueue : (measured length (s.withLane { s.lane with measureEye := false })).lane.queue =
      before ++ { r with
        phase := .measured, seq := some s.lane.nextSeq, length := some length, blockedTicks := none,
        scanTimer := some 0 } :: after := by
    simp only [measured, State.withLane_lane, State.withScan_lane, hq]
    exact modifyFirst_split _ _ before after r hb (by simp [hphase])
  have hno : ¬ r.isCommitted := by simp [Parcel.isCommitted, hphase]
  refine ⟨fun h => ⟨?_, h.place, h.stray⟩, fun h => ?_, fun h _ y hy hyphase => ?_, fun ha => ?_⟩
  · rw [hqueue]
    have := h.queue
    rw [hq] at this
    simpa using this
  · have hs := h.records
    unfold RecordsOf at hs ⊢
    rw [hqueue]
    rw [hq] at hs
    refine hs.replace ⟨nofun, fun _ => rfl, .inl, nofun, nofun, .inl ⟨rfl, ⟨?_, fun hc => absurd hc hno⟩,
      fun hc => absurd hc hno⟩, .inl ⟨rfl, by simp [hphase], fun hl => ?_⟩, .inl rfl⟩
    · rintro (h | h) <;> cases h
    · rw [hphase] at hl; cases hl
  · rw [hqueue] at hy
    have hs := h.records
    unfold RecordsOf at hs
    rw [hq] at hs
    have hothers := hs.others_not_measuring hphase
    rcases List.mem_append.mp hy with hy | hy
    · exact absurd hyphase (hothers y (List.mem_append_left _ hy))
    · rcases List.mem_cons.mp hy with rfl | hy
      · cases hyphase
      · exact absurd hyphase (hothers y (List.mem_append_right _ hy))
  · rw [takesLaneEvents_of_inactive ha] at ht
    cases ht

theorem measureEyeClearing_laneFollows : Leads (LaneFollows s) (execMeasureEyeClearing s) := by
  have hlevel (hno : takesLaneEvents s = true → ∀ r ∈ s.lane.queue, r.phase ≠ .measuring) :
      Prepared s (s.withLane { s.lane with measureEye := false }) :=
    .of_levels rfl rfl (fun h => h.stray) (fun h => .inr (.inr (hno h)))
  unfold execMeasureEyeClearing
  split
  · dsimp only
    split
    · rename_i ht
      split
      · rename_i hnone
        have hno : ∀ r ∈ s.lane.queue, r.phase ≠ .measuring := by simpa [measuringRecord] using hnone
        exact leads_next.mpr ⟨_, hlevel fun _ => hno, settleLane_laneKept (LaneKept.refl _)⟩
      · rename_i r hr
        split
        · exact leads_next.mpr ⟨_, deleteNoise_prepared (s := s) hr ht, settleLane_laneKept (LaneKept.refl _)⟩
        · exact leads_next.mpr ⟨_, measured_prepared (s := s) _ hr ht,
            settleLane_laneKept (becomeMeasured_laneKept _ _)⟩
    · rename_i ht
      exact leads_next.mpr ⟨_, hlevel fun h => absurd h ht, LaneKept.refl _⟩
  · exact leads_next.mpr (.of_kept (LaneKept.refl s))

theorem transferEyeFront_laneFollows : Leads (LaneFollows s) (execTransferEyeFrontEdge s) := by
  have hlevel : Prepared s (s.withLane { s.lane with transferEye := true }) :=
    .of_levels rfl rfl (fun _ _ => rfl) (fun _ => .inr (.inl rfl))
  unfold execTransferEyeFrontEdge
  split
  · exact leads_next.mpr (.of_kept (LaneKept.refl s))
  · dsimp only
    repeat' split
    · refine leads_next.mpr ⟨_, hlevel, settleLane_laneKept ?_⟩
      exact ((LaneKept.refl (s.withLane { s.lane with transferEye := true })).modify Parcel.awaitsTransfer
        (fun r => { r with atTransfer := true }) (fun r _ hm => hm)
        (fun before r after _ _ hs => .of_same hs rfl rfl rfl) (fun _ hs => hs)).of_queue rfl ⟨rfl, rfl, rfl, rfl⟩
    · exact leads_next.mpr ⟨_, hlevel, reportJam_laneKept _ (LaneKept.refl _)⟩
    · exact leads_next.mpr ⟨_, hlevel, LaneKept.refl _⟩

theorem transferEyeClearing_laneFollows : Leads (LaneFollows s) (execTransferEyeClearing s) := by
  have hlevel : Prepared s (s.withLane { s.lane with transferEye := false, transferStray := false }) :=
    .of_levels rfl rfl (fun _ => nofun) (fun _ => .inr (.inl rfl))
  unfold execTransferEyeClearing
  split
  · dsimp only
    repeat' split
    · exact leads_next.mpr ⟨_, hlevel, reportJam_laneKept _ (LaneKept.refl _)⟩
    · exact leads_next.mpr ⟨_, hlevel, settleLane_laneKept (LaneKept.refl _)⟩
    · exact leads_next.mpr ⟨_, hlevel, LaneKept.refl _⟩
  · exact leads_next.mpr (.of_kept (LaneKept.refl s))

theorem stageEyeFront_laneKept : Leads (LaneKept s) (execStageEyeFrontEdge s) := by
  have hlevel : LaneKept s (s.withLane { s.lane with stageEye := true }) :=
    (LaneKept.refl s).of_queue rfl ⟨rfl, rfl, rfl, rfl⟩
  unfold execStageEyeFrontEdge
  split
  · exact leads_next.mpr (LaneKept.refl s)
  · dsimp only
    repeat' split
    · refine leads_next.mpr (settleLane_laneKept ?_)
      have hreached := hlevel.modify Parcel.awaitsStage Parcel.reachStage (k' := s.launch.commitment.map (·.seq))
        (f' := s.launch.flight.map (·.seq)) (slot' := s.scan.slot.isSome) (fun r _ hm => by
          unfold Parcel.reachStage at hm
          dsimp only at hm
          split at hm
          · cases hm
          · exact hm) (fun before r after _ hr hs => ?_) (fun _ hs => hs)
      · unfold reportRejected
        split <;> simpa [withQueue] using hreached
      · obtain ⟨hstage, -⟩ := Bool.and_eq_true_iff.mp hr
        rw [beq_iff_eq] at hstage
        by_cases hbound : r.phase = .bound
        · refine ⟨?_, ?_, fun _ => .inl hstage, fun _ => hstage, ?_, .inl ⟨rfl, ?_, ?_⟩, .inl ⟨rfl, ?_, ?_⟩,
            .inr ⟨rfl, ?_⟩⟩
          all_goals simp [Parcel.reachStage, hbound, Parcel.isCommitted]
          exact hs.numbered r (by simp) (by simp [hbound])
        · refine .of_same hs ?_ rfl rfl
          simp [Parcel.reachStage, hbound]
    · exact leads_next.mpr (reportJam_laneKept _ hlevel)
    · exact leads_next.mpr hlevel

end Sys2Proof.Machine
end

section
/-! PROOFS. The report unit's figures through the operations and the commands (R178 to R180). -/

namespace Sys2Proof.Machine

variable {s t x : State} {c : Instr}

/-- What an operation keeps of the report, from the state `x` on: within its bounds it stays so, and no counter falls. -/
structure ReportKeptAt (x : Report) (r : Report) : Prop where
  bounds : ReportBounds x → ReportBounds r
  grows  : ReportBounds x → ∀ c, x.counters.get c ≤ r.counters.get c

@[simp] abbrev ReportKept (x t : State) : Prop := ReportKeptAt x.report t.report

theorem ReportKept.refl (s : State) : ReportKept s s := ⟨id, fun _ _ => le_rfl⟩

theorem ReportKeptAt.of_counters {x r r' : Report} (h : ReportKeptAt x r) (hc : r'.counters = r.counters)
    (hn : ReportBounds r → r'.statCount < Config.statBoundaries ∧ r'.group < Config.counterGroups) :
    ReportKeptAt x r' where
  bounds hx := ⟨by rw [hc]; exact (h.bounds hx).counters, (hn (h.bounds hx)).1, (hn (h.bounds hx)).2⟩
  grows hx := by rw [hc]; exact h.grows hx

@[simp] theorem raise_reportKept (k : Counter) (h : ReportKept x s) : ReportKept x (raise k s) where
  bounds hx := by
    have hs := h.bounds hx
    refine ⟨fun c => ?_, hs.interval, hs.group⟩
    have := hs.counters c
    simp only [Config.counterMax] at this ⊢
    show (s.report.counters.raise k).get c ≤ 65535
    rw [Counters.get_raise]
    split <;> omega
  grows hx c := (h.grows hx c).trans (Counters.get_le_raise _ _ _ ((h.bounds hx).counters c))

@[simp] theorem setFlag_reportKept (f : Flag) (h : ReportKept x s) : ReportKept x (setFlag f s) :=
  h.of_counters rfl fun hs => ⟨hs.interval, hs.group⟩

@[simp] theorem clearFlag_reportKept (f : Flag) (h : ReportKept x s) : ReportKept x (clearFlag f s) :=
  h.of_counters rfl fun hs => ⟨hs.interval, hs.group⟩

@[simp] theorem clearFlags_reportKept (h : ReportKept x s) : ReportKept x (clearFlags s) :=
  h.of_counters rfl fun hs => ⟨hs.interval, hs.group⟩

@[simp] theorem statInterval_reportKept (h : ReportKept x s) : ReportKept x (statInterval s) := by
  unfold statInterval
  split
  · exact h.of_counters rfl fun hs => ⟨‹_›, hs.group⟩
  · have : ReportKept x (s.withReport { s.report with statCount := 0 }) :=
      h.of_counters rfl fun hs => ⟨Nat.zero_lt_succ _, hs.group⟩
    simpa using this

theorem advanceGroup_reportKept (h : ReportKept x s) : ReportKept x (advanceGroup s) :=
  h.of_counters rfl fun hs => ⟨hs.interval, Nat.mod_lt _ (by decide)⟩

/-! ## The blocks (R92, R93, R115, R118, R131, R132, R141) -/

@[simp] theorem reportJam_reportKept (z : Zone) (h : ReportKept x s) : ReportKept x (reportJam z s) := by
  simpa [reportJam] using setFlag_reportKept .jam h

@[simp] theorem ordinalClash_reportKept (h : ReportKept x s) : ReportKept x (ordinalClash s) := by
  simpa [ordinalClash] using setFlag_reportKept .ordinalClash h

@[simp] theorem lateConflict_reportKept (h : ReportKept x s) : ReportKept x (lateConflict s) := by
  have := setFlag_reportKept .lateConflict (x := x) (s := takeBelts (conflictFlight s)) (by simpa using h)
  simpa [lateConflict] using this

@[simp] theorem withdraw_reportKept (k : Commitment) (h : ReportKept x s) : ReportKept x (withdraw k s) :=
  raise_reportKept _ (by simpa using h)

@[simp] theorem abandon_reportKept (k : Commitment) (h : ReportKept x s) : ReportKept x (abandon k s) :=
  raise_reportKept _ (by simpa using h)

@[simp] theorem governedAway_reportKept (d : Tray) (h : ReportKept x s) : ReportKept x (governedAway d s) := by
  unfold governedAway
  repeat' split
  · exact withdraw_reportKept _ h
  · exact lateConflict_reportKept h
  · exact h
  · exact h
  · exact lateConflict_reportKept h
  · exact h
  · exact h

@[simp] theorem commitmentEvent_reportKept (count : Option Tray) (h : ReportKept x s) :
    ReportKept x (commitmentEvent count s) := by
  unfold commitmentEvent
  repeat' split
  · exact h
  · exact h
  · exact h
  · exact abandon_reportKept _ h
  · exact h

@[simp] theorem takeVerdict_reportKept (h : ReportKept x s) : ReportKept x (takeVerdict s) := by
  unfold takeVerdict
  repeat' split
  · exact h
  · exact h
  · exact raise_reportKept _ (by simpa using h)
  · have := setFlag_reportKept .lostParcel (x := x) (s := offerVacate ‹Flight›.tray ‹Flight›.span s) (by simpa using h)
    simpa using this

@[simp] theorem launchEvent_reportKept (reading : Option Bool) (h : ReportKept x s) :
    ReportKept x (launchEvent reading s) := by
  refine commitmentEvent_reportKept _ ?_
  unfold flightEvent
  dsimp only
  repeat' split
  · exact h
  · exact h
  · exact takeVerdict_reportKept h

@[simp] theorem launchWarning_reportKept (h : ReportKept x s) : ReportKept x (launchWarning s) :=
  setFlag_reportKept _ (raise_reportKept _ h)

@[simp] theorem exitCheck_reportKept (h : ReportKept x s) : ReportKept x (exitCheck s) := by
  unfold exitCheck
  repeat' split
  · exact h
  · exact h
  · exact h
  · exact launchWarning_reportKept h

@[simp] theorem placePart_reportKept (offset : Nat) (p : Part) (h : ReportKept x s) :
    ReportKept x (placePart offset p s) := by
  unfold placePart applyPart joinPending
  dsimp only
  repeat' split
  · exact h
  · exact h
  · exact h
  · exact governedAway_reportKept _ (by simpa using h)
  · simpa using h
  · simpa using h
  · simpa using h
  · exact h
  · exact setFlag_reportKept _ (raise_reportKept _ h)
  · exact raise_reportKept _ h

@[simp] theorem hearParts_reportKept (k : LaneOrdinal) (valid : Bool) (parts : List Part) (h : ReportKept x s) :
    ReportKept x (hearParts k valid parts s) := by
  unfold hearParts
  repeat' split
  · exact h
  · exact raise_reportKept _ h
  · exact foldl_keeps (P := ReportKept x) (fun u p hu => placePart_reportKept _ p hu) _ h
  · exact h

@[simp] theorem takeDemand_reportKept (k : LaneOrdinal) (d : DemandReport) (h : ReportKept x s) :
    ReportKept x (takeDemand k d s) := by
  unfold takeDemand
  split
  · exact setFlag_reportKept _ (raise_reportKept _ (by simpa using h))
  · simpa using h

@[simp] theorem epochEvent_reportKept (h : ReportKept x s) : ReportKept x (epochEvent s) := by
  unfold epochEvent
  split
  · exact statInterval_reportKept (by simpa using h)
  · exact h

@[simp] theorem expireHolds_reportKept (e : Tray) (h : ReportKept x s) : ReportKept x (expireHolds e s) := by
  have hlapse (u : State) (j : LaneOrdinal) (hu : ReportKept x u) : ReportKept x (recordLapse j u) := by
    have hraised : ReportKept x (raise .lapses (updatePeer j Peer.lapse u)) := raise_reportKept _ (by simpa using hu)
    unfold recordLapse
    dsimp only
    split
    · exact setFlag_reportKept _ hraised
    · exact hraised
  exact foldl_keeps (P := ReportKept x) (fun u a hu => hlapse u a.target hu) _ h

@[simp] theorem decideTray_reportKept (e d : Tray) (h : ReportKept x s) : ReportKept x (decideTray e d s) := by
  have hyield (u : State) (hu : ReportKept x u) : ReportKept x (yieldTray d u) := by
    unfold yieldTray
    repeat' split
    · exact raise_reportKept _ (by simpa using hu)
    · exact hu
    · exact hu
  unfold decideTray
  dsimp only
  repeat' split
  · exact hyield _ (by simpa using h)
  · simpa using h
  · exact hyield _ (by simpa using h)
  · simpa using h
  · simpa using h

@[simp] theorem shareEvent_reportKept (h : ReportKept x s) : ReportKept x (shareEvent s) := by
  unfold shareEvent
  dsimp only
  repeat' split
  · exact epochEvent_reportKept h
  · exact decideTray_reportKept _ _ (by simpa using epochEvent_reportKept (expireHolds_reportKept _ h))
  · simpa using epochEvent_reportKept (expireHolds_reportKept _ h)
  · simpa using epochEvent_reportKept (expireHolds_reportKept _ h)

@[simp] theorem lineEvent_reportKept (last : Bool) (h : ReportKept x s) : ReportKept x (lineEvent last s) := by
  have hreport (u : State) (f : TxFrame) (hu : ReportKept x u) : ReportKept x (reportDeadline u f) := by
    unfold reportDeadline
    repeat' split
    · exact hu
    · exact abandon_reportKept _ hu
    · exact hu
    · simpa using hu
    · exact hu
    · exact hu
    · exact hu
  unfold lineEvent
  dsimp only
  refine foldl_keeps (P := ReportKept x) hreport _ ?_
  split <;> exact h

/-! ## Tracking, the scan binder and the lane (R22 to R30, R34, R45 to R47) -/

@[simp] theorem implausibleInterval_reportKept (h : ReportKept x s) : ReportKept x (implausibleInterval s) := by
  have hfault : ReportKept x (setFlag .trayTiming (raise .timingFaults s)) := setFlag_reportKept _ (raise_reportKept _ h)
  unfold implausibleInterval
  dsimp only
  split
  · simpa using hfault
  · simpa using hfault

@[simp] theorem takeTurn_reportKept (turn : TrayTurn) (loaded : Bool) (h : ReportKept x s) :
    ReportKept x (takeTurn turn loaded s) := by
  unfold takeTurn
  split
  · exact h
  · exact implausibleInterval_reportKept h
  · simpa using h
  · exact raise_reportKept _ (by simpa using h)
  · exact raise_reportKept _ (by simpa using h)
  · simpa using h

@[simp] theorem leaveMeasured_reportKept (n : SeqNo) (d : Nat) (h : ReportKept x s) :
    ReportKept x (leaveMeasured n d s) := by
  unfold leaveMeasured
  dsimp only
  split
  · exact raise_reportKept _ (by simpa using h)
  · simpa using h

@[simp] theorem takeChar_reportKept (h : ReportKept x s) (k : ScanChar) : ReportKept x (takeChar s k) := by
  have hbind (d : ScanData) (u : State) (hu : ReportKept x u) : ReportKept x (bindRecord d u) := by
    unfold bindRecord
    dsimp only
    repeat' split
    · exact leaveMeasured_reportKept _ _ hu
    · exact setFlag_reportKept _ (raise_reportKept _ hu)
    · exact hu
  unfold takeChar closeRecord takeScan
  dsimp only
  repeat' split
  · exact h
  · exact h
  · exact raise_reportKept _ h
  · exact raise_reportKept _ h
  · exact raise_reportKept _ h
  · exact hbind _ _ h
  · exact raise_reportKept _ h
  · exact raise_reportKept _ h
  · exact h

@[simp] theorem deleteNoise_reportKept (r : Parcel) (h : ReportKept x s) : ReportKept x (deleteNoise r s) :=
  raise_reportKept _ h

@[simp] theorem becomeMeasured_reportKept (n : Nat) (h : ReportKept x s) : ReportKept x (becomeMeasured n s) := by
  unfold becomeMeasured measuredArrives
  dsimp only
  repeat' split
  · exact h
  · exact leaveMeasured_reportKept _ _ h
  · exact raise_reportKept _ h

@[simp] theorem removeRejected_reportKept (h : ReportKept x s) : ReportKept x (removeRejected s) :=
  clearFlag_reportKept _ (raise_reportKept _ (by simpa using h))

@[simp] theorem reportRejected_reportKept (h : ReportKept x s) : ReportKept x (reportRejected s) := by
  unfold reportRejected
  split
  · exact setFlag_reportKept _ h
  · exact h

theorem clearTogether_reportKept (h : ReportKept x s) : ReportKept x (clearTogether s) := by
  have haccept : ReportKept x (acceptClear s) := by
    have hcleared (u : State) (hu : u.report = s.report) : ReportKept x (clearFlags u) :=
      clearFlags_reportKept (by simpa [hu] using h)
    simpa [acceptClear] using hcleared _ (by simp)
  unfold clearTogether
  split
  · exact haccept
  · simpa using haccept

theorem LoaderStep.reportKept (h : LoaderStep s t) : ReportKept s t := by
  have hrefl := ReportKept.refl s
  cases h with
  | still => exact hrefl
  | attempt => exact hrefl
  | failed => exact hrefl.of_counters rfl fun hs => ⟨hs.interval, hs.group⟩
  | loaded block eyes hm hgood =>
    have hlocked : ReportKept s (handOver (readSettings block) (setPort transferActs s)) := by
      rw [handOver_eq]
      exact hrefl.of_counters rfl fun hs => ⟨hs.interval, hs.group⟩
    simpa using hlocked

/-! ## The commands -/

theorem exec_reportKept (hr : c ≠ .powerOnReset) : Leads (ReportKept s) (exec c s) := by
  have hrefl := ReportKept.refl s
  have herror : ReportKept s (frameError s) := raise_reportKept _ hrefl
  have hclash : ReportKept s (ordinalClash (awaitStart s)) := ordinalClash_reportKept hrefl
  have hjam (z : Zone) (l : Lane) := reportJam_reportKept z (x := s) (s := s.withLane l) hrefl
  have hnoise (r : Parcel) (l : Lane) := deleteNoise_reportKept r (x := s) (s := s.withLane l) hrefl
  have hmeasured (n : Nat) (l : Lane) := becomeMeasured_reportKept n (x := s) (s := s.withLane l) hrefl
  have hrejected (l : Lane) (q : List Parcel) :=
    reportRejected_reportKept (x := s) (s := withQueue (s.withLane l) q) hrefl
  have hremoved (l : Lane) := removeRejected_reportKept (x := s) (s := s.withLane l) hrefl
  have hchecked (l : Lane) := takeVerdict_reportKept (x := s) (s := giveBackLaunch (exitCheck (s.withLane l)))
    (by simpa using exitCheck_reportKept (x := s) (s := s.withLane l) hrefl)
  cases c
  case powerOnReset => exact absurd rfl hr
  case lineRecovery | refusal | transfer => exact fun t h => (loaderStep_of_exec rfl h).reportKept
  case clear =>
    dsimp only [exec, execClear]
    repeat' split
    · exact leads_next.mpr (clearTogether_reportKept hrefl)
    · exact leads_next.mpr hrefl
    · exact leads_next.mpr (clearFlags_reportKept hrefl)
    · exact leads_next.mpr hrefl
  case placeEyeFrontEdge | measureEyeFrontEdge | measureEyeClearing | transferEyeFrontEdge | transferEyeClearing
      | stageEyeFrontEdge | stageEyeClearing | exitEyeFrontEdge | exitEyeClearing | stallTimerRunsOut =>
    dsimp only [exec, execPlaceEyeFrontEdge, execMeasureEyeFrontEdge, execMeasureEyeClearing,
      execTransferEyeFrontEdge, execTransferEyeClearing, execStageEyeFrontEdge, execStageEyeClearing,
      execExitEyeFrontEdge, execExitEyeClearing, execStallTimerRunsOut]
    repeat' split
    all_goals simp [hrefl, hjam, hnoise, hmeasured, hrejected, hremoved, hchecked]
  case scanRecord chars =>
    dsimp only [exec, execScanRecord]
    split
    · have := foldl_keeps (P := ReportKept s) (fun u k hu => takeChar_reportKept hu k) chars hrefl
      simpa using this
    · exact leads_next.mpr hrefl
  case scanWindowRunsOut | confirmEyeBlocked | timeout =>
    dsimp only [exec, execScanWindowRunsOut, execConfirmEyeBlocked, execTimeout]
    split <;> simp [hrefl]
  case trayEdgeEvent =>
    dsimp only [exec, execTrayEdgeEvent]
    split
    · have hturned (turn : TrayTurn) (load confirm : Bool) :
          ReportKept s (takeTurn turn load (trackerTimes confirm (ageVacates s))) :=
        takeTurn_reportKept turn load hrefl
      simpa using lineEvent_reportKept _ (launchEvent_reportKept _ (shareEvent_reportKept (hturned _ _ _)))
    · exact leads_next.mpr hrefl
  case launchMoment | exitWindowClosing =>
    dsimp only [exec, execLaunchMoment, execExitWindowClosing]
    repeat' split
    all_goals simp [hrefl]
  case joiningEnds | frameBegin | lostArbitration | bitError | bitTimingError | lineFault | lineConditionNormal
      | claimCompletion | holdCompletion | frameCompletion =>
    dsimp only [exec, execJoiningEnds, execFrameBegin, execLostArbitration, execBitError, execBitTimingError,
      execLineFault, execLineConditionNormal, execClaimCompletion, execHoldCompletion, execFrameCompletion]
    repeat' split
    all_goals simp [hrefl, herror, advanceGroup_reportKept]
  case claimNotice =>
    have hheard (k : LaneOrdinal) (n : Nat) (span : Span) : ReportKept s (hearClaim k n span (awaitStart s)) :=
      hearParts_reportKept _ _ _ hrefl
    refine leads_receiveFrame hrefl herror hclash ?_
    dsimp only
    split
    · simpa using hheard _ _ _
    · exact hheard _ _ _
  case holdNotice | vacateNotice =>
    exact leads_receiveFrame hrefl herror hclash (hearParts_reportKept _ _ _ hrefl)
  case demandNotice =>
    exact leads_receiveFrame hrefl herror hclash (takeDemand_reportKept _ _ hrefl)
  case statNotice | unknownKindFrame => exact leads_receiveFrame hrefl herror hclash hrefl
  case bankHold | bankResume | bankPace =>
    dsimp only [exec, execBankHold, execBankResume, execBankPace]
    exact leads_receiveBank hrefl herror hclash hrefl (fun _ => by simp [hrefl])
  case start | stop | paceTimerRunsOut | faultBlinkPhase | faultBlinkEnd =>
    dsimp only [exec, execStart, execStop, execPaceTimerRunsOut, execFaultBlinkPhase, execFaultBlinkEnd]
    repeat' split
    all_goals simp [hrefl]

end Sys2Proof.Machine
end

section
/-! PROOFS. The parcel records, the lane and the pending list through every step, and the statement on the rooms and
the counters (R14, R25, R94, R121, R122, R178). -/

namespace Sys2Proof.Machine

variable {s t x : State} {c : Instr}

/-! ## The lane through the commands -/

theorem startLaunch_laneKept {k : Commitment} (ct : EdgeTiming) (hp : phaseOf s k.seq = some .announced)
    (hlone : ∀ r ∈ s.lane.queue, r.phase ≠ .launching) : LaneKept s (startLaunch k ct s) := by
  obtain ⟨r, hr, -⟩ := Option.map_eq_some_iff.mp hp
  have hmem : r ∈ s.lane.queue := List.mem_of_find?_eq_some hr
  have hseq : r.isSeq Phase.isClaim k.seq = true := List.find?_some hr
  have hlaunched := (LaneKept.refl s).modify (k' := none) (f' := some k.seq) (slot' := s.scan.slot.isSome)
    (Parcel.isSeq Phase.isClaim k.seq) (fun r => { r with phase := .launching }) (fun y _ hm => nomatch hm)
    (fun before y after hq hy hs => ?_) (fun hno _ => ?_)
  · refine settleLane_laneKept (s := ((updateRecord Phase.isClaim k.seq (fun r => { r with phase := .launching })
      s).withLaunch { s.launch with commitment := none, flight := some (flightOf s k ct) }).withLane
        { (updateRecord Phase.isClaim k.seq (fun r => { r with phase := .launching }) s).lane with
          stageHolder := .launchUnit, launchHolder := .launchUnit }) ?_
    exact hlaunched.of_queue rfl ⟨rfl, rfl, rfl, rfl⟩
  · obtain ⟨hclaim, hyseq⟩ := Parcel.isSeq_iff.mp hy
    have hothers (z : Parcel) (hz : z ∈ before ++ after) : z.phase ≠ .launching := hlone z (by
      rw [hq]
      rcases List.mem_append.mp hz with h | h
      · exact List.mem_append_left _ h
      · exact List.mem_append_right _ (List.mem_cons_of_mem _ h))
    refine ⟨nofun, fun _ => ?_, .inl, nofun, fun _ => .inr hothers, .inr ⟨fun z hz hc => ?_, ?_, nofun⟩,
      .inr ⟨hothers, fun _ => hyseq, fun _ => rfl⟩, .inr ⟨rfl, nofun⟩⟩
    · rw [hyseq]
      rfl
    · have := hs.others_not_claim hclaim z hz
      rw [hc.isClaim] at this
      cases this
    · rintro (h | h) <;> cases h
  · have := hno r hmem
    rw [hseq] at this
    cases this

/-- The commands that begin or end the running of the lane as a whole. -/
def Instr.emptiesLane : Instr → Bool
  | .powerOnReset | .lineRecovery _ | .refusal _ | .transfer _ _ | .clear _ _ => true
  | _ => false

theorem exec_laneFollows (hc : Instr.emptiesLane c = false) : Leads (LaneFollows s) (exec c s) := by
  have hrefl := LaneKept.refl s
  have hstay : LaneFollows s s := .of_kept hrefl
  have herror : LaneFollows s (frameError s) := .of_kept hrefl
  have hclash : LaneFollows s (ordinalClash (awaitStart s)) := .of_kept (ordinalClash_laneKept hrefl)
  have hexit (stage exit : Bool) : LaneKept s (s.withLane { s.lane with stageEye := stage, exitEye := exit }) :=
    hrefl.of_queue rfl ⟨rfl, rfl, rfl, rfl⟩
  cases c
  case powerOnReset | lineRecovery | refusal | transfer | clear => exact nomatch hc
  case placeEyeFrontEdge => exact placeEye_laneFollows
  case measureEyeFrontEdge => exact measureEyeFront_laneFollows
  case measureEyeClearing => exact measureEyeClearing_laneFollows
  case transferEyeFrontEdge => exact transferEyeFront_laneFollows
  case transferEyeClearing => exact transferEyeClearing_laneFollows
  case stageEyeFrontEdge => exact fun t h => .of_kept (stageEyeFront_laneKept t h)
  case stageEyeClearing =>
    dsimp only [exec, execStageEyeClearing]
    repeat' split
    · exact leads_next.mpr (.of_kept (settleLane_laneKept (giveBackStage_laneKept (hexit _ _))))
    · exact leads_next.mpr (.of_kept (settleLane_laneKept (removeRejected_laneKept (hexit _ _))))
    · exact leads_next.mpr (.of_kept (reportJam_laneKept _ (hexit _ _)))
    · exact leads_next.mpr (.of_kept (hexit _ _))
    · exact leads_next.mpr (.of_kept (hexit _ _))
    · exact leads_next.mpr hstay
  case exitEyeFrontEdge =>
    dsimp only [exec, execExitEyeFrontEdge]
    repeat' split
    · exact leads_next.mpr hstay
    · exact leads_next.mpr (.of_kept (reportJam_laneKept _ (hexit _ _)))
    · exact leads_next.mpr (.of_kept (hexit _ _))
  case exitEyeClearing =>
    have hchecked (u : State) (hu : LaneKept s u) : LaneKept s (exitCheck u) := by
      unfold exitCheck
      repeat' split
      · exact hu
      · exact hu
      · simpa [markChecked, ‹u.launch.flight = _›] using hu
      · simpa [launchWarning, markChecked, ‹u.launch.flight = _›] using hu
    dsimp only [exec, execExitEyeClearing]
    repeat' split
    · exact leads_next.mpr (.of_kept (settleLane_laneKept (takeVerdict_laneKept (giveBackLaunch_laneKept
        (hchecked _ (hexit _ _))))))
    · exact leads_next.mpr (.of_kept (hexit _ _))
    · exact leads_next.mpr hstay
  case stallTimerRunsOut =>
    dsimp only [exec, execStallTimerRunsOut]
    split
    · exact leads_next.mpr (.of_kept (reportJam_laneKept _ hrefl))
    · exact leads_next.mpr hstay
  case scanRecord chars =>
    dsimp only [exec, execScanRecord]
    split
    · exact leads_next.mpr (.of_kept (settleLane_laneKept
        (foldl_keeps (P := LaneKept s) (fun u k hu => takeChar_laneKept hu k) chars hrefl)))
    · exact leads_next.mpr hstay
  case scanWindowRunsOut =>
    dsimp only [exec, execScanWindowRunsOut]
    split
    · exact leads_next.mpr (.of_kept (settleLane_laneKept (leaveMeasured_laneKept _ _ hrefl)))
    · exact leads_next.mpr hstay
  case trayEdgeEvent =>
    dsimp only [exec, execTrayEdgeEvent]
    split
    · have hturned (turn : TrayTurn) (load confirm : Bool) :
          LaneKept s (takeTurn turn load (trackerTimes confirm (ageVacates s))) :=
        takeTurn_laneKept turn load hrefl
      exact leads_next.mpr (.of_kept (settleLane_laneKept (lineEvent_laneKept _
        (launchEvent_laneKept _ (shareEvent_laneKept (hturned _ _ _))))))
    · exact leads_next.mpr hstay
  case timeout =>
    dsimp only [exec, execTimeout]
    split
    · exact leads_next.mpr (.of_kept (implausibleInterval_laneKept (by simpa using hrefl)))
    · exact leads_next.mpr hstay
  case confirmEyeBlocked =>
    dsimp only [exec, execConfirmEyeBlocked]
    split <;> exact leads_next.mpr hstay
  case launchMoment =>
    intro t h
    cases launchStep_of_exec h with
    | still => exact hstay
    | jam => exact .of_kept (reportJam_laneKept _ hrefl)
    | launched k ct hk hp hfree hlone => exact .of_kept (startLaunch_laneKept ct hp hlone)
  case exitWindowClosing =>
    dsimp only [exec, execExitWindowClosing]
    split
    · refine leads_next.mpr (.of_kept ?_)
      simpa [launchWarning, markChecked, Function.comp_def] using hrefl
    · exact leads_next.mpr hstay
  case lineFault =>
    dsimp only [exec, execLineFault]
    split
    · refine leads_next.mpr (.of_kept (addHold_laneKept _ ?_))
      split <;> simpa using hrefl
    · exact leads_next.mpr hstay
  case claimCompletion =>
    have hdone : LaneKept s (completePassage s) := by simpa using hrefl
    dsimp only [exec, execClaimCompletion]
    repeat' split
    · exact leads_next.mpr (.of_kept (by simpa using hrefl))
    · exact leads_next.mpr (.of_kept hdone)
    · rename_i k hk hcond
      refine leads_next.mpr (.of_kept (hdone.modify _ (fun r => { r with phase := .announced }) (fun r _ hm => nomatch hm)
        (fun before r after hq hr hs => ?_) (fun _ hs => hs)))
      obtain ⟨hclaim, hseq⟩ := Parcel.isSeq_iff.mp hr
      have hcommitted : r.isCommitted := hs.of_commitment hclaim (by rw [hk]; rfl)
      have hno : r.phase ≠ .launching := fun h => by rw [h] at hclaim; cases hclaim
      exact ⟨nofun, fun _ => by rw [hseq]; rfl, .inl, fun _ => hs.resting r (by simp) hclaim, nofun,
        .inl ⟨rfl, ⟨fun _ => hcommitted, fun _ => .inr rfl⟩, fun _ => rfl⟩,
        .inl ⟨rfl, ⟨nofun, fun h => absurd h hno⟩, fun _ => rfl⟩, .inr ⟨rfl, nofun⟩⟩
    · exact leads_next.mpr (.of_kept hdone)
    · exact leads_next.mpr hstay
  case joiningEnds | frameBegin | lostArbitration | bitError | bitTimingError | lineConditionNormal | holdCompletion
      | frameCompletion =>
    dsimp only [exec, execJoiningEnds, execFrameBegin, execLostArbitration, execBitError, execBitTimingError,
      execLineConditionNormal, execHoldCompletion, execFrameCompletion]
    repeat' split
    all_goals exact leads_next.mpr (.of_kept (by simp [hrefl]))
  case claimNotice =>
    have hheard (k : LaneOrdinal) (n : Nat) (span : Span) : LaneKept s (hearClaim k n span (awaitStart s)) :=
      hearParts_laneKept _ _ _ hrefl
    refine leads_receiveFrame hstay herror hclash (.of_kept ?_)
    dsimp only
    split
    · simpa using hheard _ _ _
    · exact hheard _ _ _
  case holdNotice | vacateNotice =>
    exact leads_receiveFrame hstay herror hclash (.of_kept (hearParts_laneKept _ _ _ hrefl))
  case demandNotice | statNotice | unknownKindFrame =>
    exact leads_receiveFrame hstay herror hclash (.of_kept (by simp [hrefl]))
  case bankHold =>
    dsimp only [exec, execBankHold]
    exact leads_receiveBank hstay herror hclash (.of_kept hrefl) (fun _ => .of_kept (addHold_laneKept _ hrefl))
  case bankResume | bankPace =>
    dsimp only [exec, execBankResume, execBankPace]
    exact leads_receiveBank hstay herror hclash (.of_kept hrefl) (fun _ => .of_kept (by simp [hrefl]))
  case start =>
    dsimp only [exec, execStart]
    split
    · exact leads_next.mpr (.of_kept (settleLane_laneKept (by simp [hrefl])))
    · exact leads_next.mpr hstay
  case stop =>
    dsimp only [exec, execStop]
    repeat' split
    · exact leads_next.mpr (.of_kept (settleLane_laneKept (leaveRunning_laneKept (by simp [hrefl]))))
    · exact leads_next.mpr (.of_kept (settleLane_laneKept (by simp [hrefl])))
    · exact leads_next.mpr hstay
  case paceTimerRunsOut | faultBlinkPhase | faultBlinkEnd =>
    dsimp only [exec, execPaceTimerRunsOut, execFaultBlinkPhase, execFaultBlinkEnd]
    repeat' split
    all_goals exact leads_next.mpr (.of_kept (by simp [hrefl]))

end Sys2Proof.Machine
end

section
/-! PROOFS. The statement on the rooms of the queues and lists and the growth of the counters. -/

namespace Sys2Proof.Machine

variable {s t : State} {c : Instr}

/-! ## Station states in which the lane's events are taken -/

theorem exec_keeps_active (hr : c ≠ .powerOnReset) (h : exec c s = .next t) (ha : active t = false) :
    active s = false := by
  by_contra hrun
  have hruns : s.station.runs := active_iff.mp (by simpa using hrun)
  have hkept : t.station.runs := by
    cases hload : Instr.onMemoryPort c
    case true =>
      rw [(loaderStep_of_exec hload h).eq_of_active (active_iff.mpr hruns)]
      exact hruns
    cases hmoves : Instr.movesWindow c
    case false => exact (exec_layoutKept hmoves t h).runs hruns
    by_cases htime : c = .timeout
    · subst htime
      simp only [exec, execTimeout] at h
      split at h <;> cases h
      · exact implausibleInterval_runs (by simpa using hruns)
      · exact hruns
    by_cases hedge : ∃ home load confirm last, c = .trayEdgeEvent home load confirm last
    · obtain ⟨home, load, confirm, last, rfl⟩ := hedge
      simp only [exec, execTrayEdgeEvent] at h
      split at h <;> cases h
      · have hturned (turn : TrayTurn) (load confirm : Bool) :
            (takeTurn turn load (trackerTimes confirm (ageVacates s))).station.runs := takeTurn_runs _ _ hruns
        simpa using launchEvent_runs _ (shareEvent_runs (hturned _ _ _))
      · exact hruns
    · exact (exec_heardKept hmoves hr hload
        (fun home load confirm last he => hedge ⟨home, load, confirm, last, he⟩) htime t h).runs hruns
  rw [active_iff.mpr hkept] at ha
  cases ha

theorem exec_takesLaneEvents (hc : Instr.emptiesLane c = false) (h : exec c s = .next t)
    (ht : takesLaneEvents t = true) : takesLaneEvents s = true := by
  have hr : c ≠ .powerOnReset := by rintro rfl; cases hc
  have hload : Instr.onMemoryPort c = false := by
    by_contra hl
    cases c <;> simp_all [Instr.onMemoryPort, Instr.emptiesLane]
  cases ha : active s
  case false =>
    rw [← takesLaneEvents_congr (congrArg Station.mode (exec_inactive_leaves_station hr hload ha t h))]
    exact ht
  have hnot : s.station.mode ≠ .faulted := fun hm => by
    rcases exec_keeps_fault h hm with hst | rfl | ⟨q, rfl⟩
    · rw [takesLaneEvents, hst] at ht
      simp [hm] at ht
    · cases hc
    · cases hc
  cases hm : s.station.mode <;> simp_all [active, takesLaneEvents]

/-! ## The commands that empty the lane (R155, R163, R164, R168) -/

/-- An empty lane with nothing committed and nothing in flight, through operations that keep the lane. -/
theorem LaneKept.parcelsSound_of_empty {u : State} (h : LaneKept u t) (hq : u.lane.queue = [])
    (hk : u.launch.commitment = none) (hf : u.launch.flight = none) : ParcelsSound t := by
  have hempty : t.lane.queue = [] := by
    have := h.length
    rw [hq] at this
    exact List.eq_nil_of_length_eq_zero (Nat.le_zero.mp this)
  have hrecords : RecordsOf u := by
    unfold RecordsOf
    rw [hq, hk, hf]
    exact .nil _
  refine (h.sound hrecords).parcels (fun _ => hempty) (fun _ r hr => ?_)
  rw [hempty] at hr
  cases hr

theorem clearTogether_laneKept (s : State) : LaneKept (acceptClear s) (clearTogether s) := by
  unfold clearTogether
  split
  · exact .refl _
  · exact reportFault_laneKept _ (.refl _)

theorem acceptClear_lane (s : State) : (acceptClear s).lane = (clearLane s).lane := by simp [acceptClear]

theorem acceptClear_launch (s : State) :
    (acceptClear s).launch.commitment = none ∧ (acceptClear s).launch.flight = none := by simp [acceptClear]

theorem endLoading_laneKept (eyes : LaneEyes) (s : State) : LaneKept (readEyes eyes s) (endLoading eyes s) := by
  unfold endLoading
  dsimp only
  refine reportHorizon_laneKept (addHold_laneKept _ ?_)
  simpa using LaneKept.refl (readEyes eyes s)

theorem LaneBounds.of_readEyes (eyes : LaneEyes) (hs : LaneBounds s.lane) : LaneBounds (readEyes eyes s).lane :=
  ⟨hs.queue, hs.place, nofun⟩

theorem ParcelsSound.idle_of_inactive (hs : ParcelsSound s) (ha : active s = false) :
    s.lane.queue = [] ∧ s.launch.commitment = none ∧ s.launch.flight = none := by
  have hempty := hs.before ha
  refine ⟨hempty, ?_, ?_⟩
  · cases hk : s.launch.commitment with
    | none => rfl
    | some k =>
      obtain ⟨r, hr, -⟩ := hs.commitment k hk
      rw [hempty] at hr
      cases hr
  · cases hf : s.launch.flight with
    | none => rfl
    | some f =>
      obtain ⟨r, hr, -⟩ := hs.flight f hf
      rw [hempty] at hr
      cases hr

theorem LoaderStep.keeps_lane (h : LoaderStep s t) :
    (LaneBounds s.lane → LaneBounds t.lane) ∧ (ParcelsSound s → ParcelsSound t) := by
  cases h with
  | still => exact ⟨id, id⟩
  | attempt phase port hm =>
    refine ⟨id, fun hs => ?_⟩
    obtain ⟨hq, hk, hf⟩ := hs.idle_of_inactive (active_of_loading hm)
    exact LaneKept.parcelsSound_of_empty (u := s) (.refl s) hq hk hf
  | failed port hm =>
    refine ⟨id, fun hs => ?_⟩
    obtain ⟨hq, hk, hf⟩ := hs.idle_of_inactive (active_of_loading hm)
    exact LaneKept.parcelsSound_of_empty (u := s) (.refl s) hq hk hf
  | loaded block eyes hm hgood =>
    have hlane : (handOver (readSettings block) (setPort transferActs s)).lane = s.lane := by
      rw [handOver_eq]
      rfl
    refine ⟨fun hs => (endLoading_laneKept eyes _).laneBounds (.of_readEyes eyes (by rw [hlane]; exact hs)), fun hs => ?_⟩
    obtain ⟨hq, hk, hf⟩ := hs.idle_of_inactive (active_of_loading hm)
    refine (endLoading_laneKept eyes _).parcelsSound_of_empty ?_ ?_ ?_
    · exact (congrArg Lane.queue hlane).trans hq
    · rw [handOver_eq]
      exact hk
    · rw [handOver_eq]
      exact hf

theorem exec_keeps_lane (h : exec c s = .next t) :
    (LaneBounds s.lane → LaneBounds t.lane) ∧ (ParcelsSound s → ParcelsSound t) := by
  cases hc : Instr.emptiesLane c
  case false =>
    have hfollows := exec_laneFollows hc t h
    refine ⟨fun hs => ?_, fun hs => hfollows.parcelsSound hs (exec_keeps_active (by rintro rfl; cases hc) h)
      (exec_takesLaneEvents hc h)⟩
    obtain ⟨u, hu, ht⟩ := hfollows
    exact ht.laneBounds (hu.bounds hs)
  case true =>
    cases c
    case powerOnReset =>
      cases h
      exact ⟨fun _ => ⟨Nat.zero_le _, Nat.zero_le _, nofun⟩,
        fun _ => LaneKept.parcelsSound_of_empty (.refl _) rfl rfl rfl⟩
    case lineRecovery | refusal | transfer => exact (loaderStep_of_exec rfl h).keeps_lane
    case clear =>
      simp only [exec, execClear] at h
      repeat' split at h
      all_goals cases h
      · refine ⟨fun hs => (clearTogether_laneKept _).laneBounds ?_, fun _ =>
          (clearTogether_laneKept _).parcelsSound_of_empty ?_ (acceptClear_launch _).1 (acceptClear_launch _).2⟩
        · rw [acceptClear_lane]
          exact ⟨Nat.zero_le _, Nat.zero_le _, nofun⟩
        · rw [acceptClear_lane]
          rfl
      · exact ⟨id, fun hs => ⟨hs.before, hs.measuring, hs.blocked, hs.numbered, hs.stage, hs.resting, hs.launching,
          hs.committed, hs.commitment, hs.launched, hs.flight, hs.slot⟩⟩
      · exact ⟨id, fun hs => ⟨hs.before, hs.measuring, hs.blocked, hs.numbered, hs.stage, hs.resting, hs.launching,
          hs.committed, hs.commitment, hs.launched, hs.flight, hs.slot⟩⟩
      · exact ⟨id, id⟩
    all_goals exact nomatch hc

/-! ## The pending list's room (R94) -/

theorem takeTurn_windowBounds (turn : TrayTurn) (loaded : Bool) (hs : WindowBounds s.window) :
    WindowBounds (takeTurn turn loaded s).window := by
  refine ⟨?_⟩
  show (takeTurn turn loaded s).window.layout.2.length ≤ _
  rw [takeTurn_layout]
  cases turn with
  | unsynced => exact hs.pending
  | implausible =>
    dsimp only
    split
    · exact Nat.zero_le _
    · exact hs.pending
  | entersFilling => exact hs.pending
  | homeMismatch => exact Nat.zero_le _
  | homeMissing => exact Nat.zero_le _
  | advances count sinceHome => exact (List.length_filter_le _ _).trans hs.pending

theorem LayoutKept.windowBounds (h : LayoutKept s t) (hs : WindowBounds s.window) : WindowBounds t.window :=
  ⟨by rw [show t.window.pending = s.window.pending from congrArg Prod.snd h.layout]; exact hs.pending⟩

theorem WindowStep.windowBounds (h : WindowStep s t) (hs : WindowBounds s.window) : WindowBounds t.window := by
  cases h with
  | kept h => exact h.windowBounds hs
  | heard h => exact h.room hs
  | turned turn loaded u _ _ _ hwindow _ _ _ ht =>
    exact ht.windowBounds (takeTurn_windowBounds turn loaded (by rw [hwindow]; exact hs))
  | unstarted _ _ hwindow =>
    rw [hwindow]
    exact hs
  | reset _ hwindow =>
    rw [hwindow]
    exact ⟨Nat.zero_le _⟩

/-! ## The tick -/

theorem tick_parcelsSound (hs : ParcelsSound s) : ParcelsSound (tick s) := by
  have hrecords : RecordsOf (tick s) := by
    have hmapped := hs.records.map (g := Parcel.tick (s.lane.measureEye && measureDraws s) (drawing s))
      (fun _ => rfl) (fun _ => rfl) (fun _ => .inl rfl)
    have hslot : (tickScan s).slot.isSome = s.scan.slot.isSome := by
      unfold tickScan
      split <;> simp
    have hk : (tickLaunch s.launch).commitment.map (·.seq) = s.launch.commitment.map (·.seq) := by
      simp [tickLaunch, Function.comp_def]
    have hf : (tickLaunch s.launch).flight.map (·.seq) = s.launch.flight.map (·.seq) := by
      simp [tickLaunch, Function.comp_def]
    show RecordsSound _ ((tickLaunch s.launch).commitment.map (·.seq)) ((tickLaunch s.launch).flight.map (·.seq))
      (tickScan s).slot.isSome
    rw [hslot, hk, hf]
    exact hmapped
  refine hrecords.parcels (fun ha => ?_) (fun ht r hr hphase => ?_)
  · exact List.map_eq_nil_iff.mpr (hs.before ha)
  · obtain ⟨y, hy, rfl⟩ := List.mem_map.mp hr
    exact hs.blocked ht y hy hphase

theorem tick_laneBounds (hs : LaneBounds s.lane) : LaneBounds (tick s).lane :=
  ⟨(List.length_map _).trans_le hs.queue, hs.place, hs.stray⟩

/-- Settles O55: each part by what every operation keeps of it. -/
theorem everyStepKeepsTheCapacities : Obligations.EveryStepKeepsTheCapacities := by
  unfold Obligations.EveryStepKeepsTheCapacities
  intro s t h
  rcases step_cases h with ⟨-, rfl⟩ | ⟨c, rest, hq, hexec⟩
  · refine ⟨tick_laneBounds, fun hs => ⟨tick_parcelsSound hs, (tick_parcelsSound hs).records.claims_le_one⟩,
      fun hs => ⟨hs.pending⟩, ?_, ?_, ?_, fun hs => ⟨?_, fun _ c => ?_⟩⟩
    all_goals simp
    exact hs
  · have hlane := exec_keeps_lane hexec
    have hline := exec_lineKept_or_joins t hexec
    refine ⟨hlane.1, fun hs => ?_, fun hs => (windowStep_of_exec hexec).windowBounds hs, hline.limits, hline.passage,
      hline.assembler, fun hs => ?_⟩
    · have ht := hlane.2 ⟨hs.before, hs.measuring, hs.blocked, hs.numbered, hs.stage, hs.resting, hs.launching,
        hs.committed, hs.commitment, hs.launched, hs.flight, hs.slot⟩
      exact ⟨ht, ht.records.claims_le_one⟩
    · by_cases hr : c = .powerOnReset
      · subst hr
        cases hexec
        exact ⟨reportBounds_reset, fun hno => absurd (by rw [hq]; rfl) hno⟩
      · have hreport := exec_reportKept hr t hexec
        exact ⟨hreport.bounds hs, fun _ => hreport.grows hs⟩

end Sys2Proof.Machine
end

section
/-! PROOFS. The reset tables (R21 to R25, R53, R73, R97, R120, R143, R153, R167, R168, R182), and the passing of one
tick of 100 µs with the events that are then due (R9, R19, R20, R28, R29, R40, R131, R134, R140, R147, R150). -/

namespace Sys2Proof.Machine

variable {s t : State}

/-- Settles O3: each figure of the reset state, read off. -/
theorem resetValues : Obligations.ResetValues := by
  unfold Obligations.ResetValues
  have hstall (z : Zone) : State.reset.lane.stall.get z = none := by cases z <;> rfl
  have hflag (f : Flag) : State.reset.report.flags.get f = false := by cases f <;> rfl
  have hcounter (c : Counter) : State.reset.report.counters.get c = 0 := by cases c <;> rfl
  have halert (n : Fin 4) : alertOutput State.reset n = false := by
    simp [alertOutput, State.reset]
  refine ⟨rfl, rfl, rfl, rfl, hstall, rfl, rfl, rfl, rfl, rfl, rfl, rfl, rfl, rfl, rfl, rfl, rfl, rfl, rfl, rfl, rfl,
    rfl, rfl, rfl, rfl, rfl, rfl, rfl, rfl, rfl, rfl, rfl, rfl, rfl, rfl, rfl, rfl, rfl, rfl, rfl, rfl, rfl, rfl, rfl,
    rfl, hflag, hcounter, rfl, rfl, halert, rfl⟩

/-! ## The events that are due -/

theorem mem_dueEvent {due : Bool} {c d : Instr} : c ∈ dueEvent due d ↔ due = true ∧ c = d := by
  cases due <;> simp [dueEvent]

theorem mem_dueScanWindows {c : Instr} : c ∈ dueScanWindows s ↔
    ∃ n, c = .scanWindowRunsOut n ∧ drawing s = true ∧ scanWindowDue n s = true := by
  simp only [dueScanWindows, List.mem_map, List.mem_filter, List.mem_filterMap, Bool.and_eq_true]
  constructor
  · rintro ⟨n, ⟨-, hdue⟩, rfl⟩
    exact ⟨n, rfl, hdue⟩
  · rintro ⟨n, rfl, hdraw, hdue⟩
    obtain ⟨r, hr, -⟩ := (Option.any_eq_true _ _).mp hdue
    have hseq : r.isSeq Phase.isMeasured n = true := List.find?_some hr
    exact ⟨n, ⟨⟨r, List.mem_of_find?_eq_some hr, (Parcel.isSeq_iff.mp hseq).2⟩, hdraw, hdue⟩, rfl⟩

theorem mem_dueStalls {c : Instr} : c ∈ dueStalls s ↔ ∃ z, c = .stallTimerRunsOut z ∧ s.lane.stall.get z = some 0 := by
  simp only [dueStalls, List.mem_map, List.mem_filter, stallDue, beq_iff_eq]
  constructor
  · rintro ⟨z, ⟨-, hz⟩, rfl⟩
    exact ⟨z, rfl, hz⟩
  · rintro ⟨z, rfl, hz⟩
    exact ⟨z, ⟨by cases z <;> simp, hz⟩, rfl⟩

/-- The events that are due, each under its condition. -/
theorem mem_dueEvents {c : Instr} : c ∈ dueEvents s ↔
    (∃ n, c = .scanWindowRunsOut n ∧ drawing s = true ∧ scanWindowDue n s = true) ∨
    (∃ z, c = .stallTimerRunsOut z ∧ s.lane.stall.get z = some 0) ∨
    (closingDue s = true ∧ c = .exitWindowClosing) ∨ (launchDue s = true ∧ c = .launchMoment) ∨
    ((active s && timeoutDue s) = true ∧ c = .timeout) ∨
    ((drawing s && s.pace.timer == some 0) = true ∧ c = .paceTimerRunsOut) ∨
    (s.pace.blink.any (·.phaseLeft == 0) = true ∧ c = .faultBlinkPhase) ∨
    (s.pace.blink.any (·.left == 0) = true ∧ c = .faultBlinkEnd) := by
  simp only [dueEvents, List.mem_append, mem_dueEvent, mem_dueScanWindows, mem_dueStalls, or_assoc]

theorem scanWindowDue_iff (n : SeqNo) (s : State) : scanWindowDue n s = true ↔
    ∃ r k, recordOf Phase.isMeasured s n = some r ∧ r.scanTimer = some k ∧ s.cfg.scanWindow * 10 ≤ k := by
  simp only [scanWindowDue, Option.any_eq_true, scanWindowTicks, Config.ticksPerMs]
  constructor
  · rintro ⟨r, hr, k, hk, hle⟩
    exact ⟨r, k, hr, hk, of_decide_eq_true hle⟩
  · rintro ⟨r, k, hr, hk, hle⟩
    exact ⟨r, hr, k, hk, decide_eq_true hle⟩

theorem ExitMoment.passed_iff (m : ExitMoment) (x : EdgeTiming) : m.passed x = true ↔
    ∃ n, x.edges[m.event - 1]? = some n ∧ m.ticks < x.clock - n := by
  simp only [ExitMoment.passed, EdgeTiming.since, Option.any_map, Option.any_eq_true]
  exact exists_congr fun n => and_congr_right fun _ => decide_eq_true_iff

theorem closingDue_iff (s : State) : closingDue s = true ↔ s.lane.launchHolder = .launchUnit ∧ ∃ f n,
    s.launch.flight = some f ∧ f.checked = false ∧ f.timing.edges[f.closing.event - 1]? = some n ∧
    n + f.closing.ticks < f.timing.clock := by
  simp only [closingDue, inProgress, Bool.and_eq_true, beq_iff_eq, Option.any_eq_true, Bool.not_eq_true',
    ExitMoment.passed_iff]
  refine and_congr_right fun _ => ⟨?_, ?_⟩
  · rintro ⟨f, hf, hc, n, hn, hlt⟩
    exact ⟨f, n, hf, hc, hn, Nat.add_comm _ n ▸ Nat.add_lt_of_lt_sub hlt⟩
  · rintro ⟨f, n, hf, hc, hn, hlt⟩
    exact ⟨f, hf, hc, n, hn, Nat.lt_sub_of_add_lt (Nat.add_comm n _ ▸ hlt)⟩

theorem launchDue_iff (s : State) : launchDue s = true ↔
    ∃ k x, s.launch.commitment = some k ∧ k.timing = some x ∧ k.delay ≤ x.clock := by
  unfold launchDue
  cases hk : s.launch.commitment with
  | none => simp
  | some k => cases hx : k.timing <;> simp [hx]

theorem timeoutDue_iff (s : State) : timeoutDue s = true ↔
    ∃ n, s.tracker.timer = some n ∧ timedOut s.cfg.pitch (period s) n = true := by
  simp [timeoutDue, Option.any_eq_true]

theorem scanWindowRunsOut_due (n : SeqNo) (s : State) : .scanWindowRunsOut n ∈ dueEvents s ↔ drawing s = true ∧
    ∃ r k, recordOf Phase.isMeasured s n = some r ∧ r.scanTimer = some k ∧ s.cfg.scanWindow * 10 ≤ k := by
  simp only [← scanWindowDue_iff]
  simp [mem_dueEvents]

theorem stallTimerRunsOut_due (z : Zone) (s : State) :
    .stallTimerRunsOut z ∈ dueEvents s ↔ s.lane.stall.get z = some 0 := by
  simp [mem_dueEvents]

theorem exitWindowClosing_due (s : State) : .exitWindowClosing ∈ dueEvents s ↔
    s.lane.launchHolder = .launchUnit ∧ ∃ f n, s.launch.flight = some f ∧ f.checked = false ∧
      f.timing.edges[f.closing.event - 1]? = some n ∧ n + f.closing.ticks < f.timing.clock := by
  rw [← closingDue_iff]
  simp [mem_dueEvents]

theorem launchMoment_due (s : State) : .launchMoment ∈ dueEvents s ↔
    ∃ k x, s.launch.commitment = some k ∧ k.timing = some x ∧ k.delay ≤ x.clock := by
  rw [← launchDue_iff]
  simp [mem_dueEvents]

theorem timeout_due (s : State) : .timeout ∈ dueEvents s ↔ active s = true ∧
    ∃ n, s.tracker.timer = some n ∧ timedOut s.cfg.pitch (period s) n = true := by
  rw [← timeoutDue_iff]
  simp [mem_dueEvents]

theorem paceTimerRunsOut_due (s : State) :
    .paceTimerRunsOut ∈ dueEvents s ↔ drawing s = true ∧ s.pace.timer = some 0 := by
  simp [mem_dueEvents]

theorem faultBlinkPhase_due (s : State) :
    .faultBlinkPhase ∈ dueEvents s ↔ ∃ b, s.pace.blink = some b ∧ b.phaseLeft = 0 := by
  simp [mem_dueEvents, Option.any_eq_true]

theorem faultBlinkEnd_due (s : State) :
    .faultBlinkEnd ∈ dueEvents s ↔ ∃ b, s.pace.blink = some b ∧ b.left = 0 := by
  simp [mem_dueEvents, Option.any_eq_true]

/-- Settles O2: the blocks after a tick by their definitions, and the queue by the events that are due. -/
theorem emptyQueuePassesOneTick : Obligations.EmptyQueuePassesOneTick := by
  unfold Obligations.EmptyQueuePassesOneTick
  intro s hq
  have hstep : step s = .next (tick s) := by simp [step, hq]
  have hpending : (tick s).pending = dueEvents (elapse s) := by simp [tick, hq]
  refine ⟨tick s, hstep, rfl, rfl, rfl, fun z => by cases z <;> rfl, rfl, rfl, rfl, rfl, rfl, rfl, rfl, rfl, ?_⟩
  rw [hpending]
  refine ⟨fun n => scanWindowRunsOut_due n (elapse s), fun z => stallTimerRunsOut_due z (elapse s),
    exitWindowClosing_due (elapse s), launchMoment_due (elapse s), timeout_due (elapse s),
    paceTimerRunsOut_due (elapse s), faultBlinkPhase_due (elapse s), faultBlinkEnd_due (elapse s), ?_⟩
  simp only [mem_dueEvents]
  · rintro c (⟨n, h, -⟩ | ⟨z, h, -⟩ | ⟨-, h⟩ | ⟨-, h⟩ | ⟨-, h⟩ | ⟨-, h⟩ | ⟨-, h⟩ | ⟨-, h⟩)
    · exact .inl ⟨n, h⟩
    · exact .inr (.inl ⟨z, h⟩)
    all_goals
      subst h
      exact .inr (.inr (by simp))

end Sys2Proof.Machine
end

section
/-! PROOFS. Parcels enter the lane and are measured (R8 to R11, R26, R27, R30). -/

namespace Sys2Proof.Machine

variable {s : State} {before after : List Parcel} {r : Parcel}

/-! ## The place and measure eyes (R8, R11) -/

theorem exec_placeEyeFrontEdge (ht : takesLaneEvents s = true) :
    exec .placeEyeFrontEdge s = .next (settleLane (restartPace (raisePlace s))) := by
  simp [exec, execPlaceEyeFrontEdge, ht]

theorem exec_measureEyeFrontEdge (ht : takesLaneEvents s = true) (he : s.lane.measureEye = false)
    (hroom : queueRoom s = true) : exec .measureEyeFrontEdge s =
      .next (settleLane (restartStall .place (createRecord (s.withLane { s.lane with measureEye := true })))) := by
  have ht' : takesLaneEvents (s.withLane { s.lane with measureEye := true }) = true := ht
  have hroom' : queueRoom (s.withLane { s.lane with measureEye := true }) = true := hroom
  simp [exec, execMeasureEyeFrontEdge, he, ht', hroom']

/-- Settles O9: each front edge by what it does where it is taken, and by the level alone elsewhere. -/
theorem parcelsEnterTheLane : Obligations.ParcelsEnterTheLane := by
  unfold Obligations.ParcelsEnterTheLane
  refine ⟨fun s ht => exec_placeEyeFrontEdge ht, fun s ht he hroom => ?_, fun s ht => ⟨?_, ?_⟩⟩
  · exact exec_measureEyeFrontEdge ht he (decide_eq_true hroom)
  · simp [exec, execPlaceEyeFrontEdge, ht]
  · have ht' : takesLaneEvents (s.withLane { s.lane with measureEye := true }) = false := ht
    cases he : s.lane.measureEye
    · simp [exec, execMeasureEyeFrontEdge, he, ht']
      rfl
    · cases s with
      | mk lane =>
        cases lane
        simp_all [exec, execMeasureEyeFrontEdge]

/-! ## Measuring (R9, R10) -/

theorem measuredLength_eq (cfg : Settings) (ticks : Ticks) :
    measuredLength cfg ticks = min ((2 * (ticks * cfg.conveying) + 10000) / 20000) 4095 := rfl

/-- The record as it becomes Measured (R9, R10). -/
def Parcel.measured (n : SeqNo) (length : Nat) (r : Parcel) : Parcel :=
  { r with phase := .measured, seq := some n, length := some length, blockedTicks := none, scanTimer := some 0 }

/-- The clearing of the measure eye finds the one record that is being measured at the upstream end. -/
theorem exec_measureEyeClearing {ticks : Ticks} (ht : takesLaneEvents s = true) (he : s.lane.measureEye = true)
    (hq : s.lane.queue = before ++ [r]) (hb : ∀ q ∈ before, q.phase ≠ .measuring) (hr : r.phase = .measuring)
    (hticks : r.blockedTicks = some ticks) :
    exec .measureEyeClearing s =
      if measuredLength s.cfg ticks < s.cfg.noiseFloor then
        .next (settleLane (deleteNoise r (s.withLane { s.lane with measureEye := false })))
      else
        .next (settleLane (becomeMeasured (measuredLength s.cfg ticks)
          (s.withLane { s.lane with measureEye := false }))) := by
  have ht' : takesLaneEvents (s.withLane { s.lane with measureEye := false }) = true := ht
  have hfound : measuringRecord (s.withLane { s.lane with measureEye := false }) = some r := by
    show s.lane.queue.find? _ = _
    rw [hq]
    exact find?_split _ _ _ _ (fun y hy => by simpa using hb y hy) (by simp [hr])
  dsimp only [exec, execMeasureEyeClearing]
  rw [if_pos he, if_pos ht', hfound]
  simp only [hticks, Option.getD_some, State.withLane_cfg]

theorem deleteNoise_eq (hq : s.lane.queue = before ++ [r]) (hb : ∀ q ∈ before, q.phase ≠ .measuring)
    (hr : r.phase = .measuring) :
    deleteNoise r (s.withLane { s.lane with measureEye := false }) = { s with
      lane := { s.lane with
        measureEye := false
        queue := before
        transferStray := s.lane.transferStray || (s.lane.transferEye && r.atTransfer)
        placeCount := if r.loweredCount then min (s.lane.placeCount + 1) 15 else s.lane.placeCount }
      report := { s.report with counters := s.report.counters.raise .noiseBlocks } } := by
  have herased : s.lane.queue.eraseP (·.phase == .measuring) = before := by
    rw [hq, eraseP_split _ _ _ _ (fun y hy => by simpa using hb y hy) (by simp [hr]), List.append_nil]
  simp only [deleteNoise, State.withLane_lane, herased]
  rfl

/-- The state when the record at the upstream end has become Measured and the slot has not been looked at. -/
def State.withMeasured (before : List Parcel) (length : Nat) (r : Parcel) (s : State) : State :=
  { s with lane := { s.lane with
    measureEye := false
    nextSeq := s.lane.nextSeq + 1
    queue := before ++ [r.measured s.lane.nextSeq length] } }

theorem becomeMeasured_eq (length : Nat) (hq : s.lane.queue = before ++ [r])
    (hb : ∀ q ∈ before, q.phase ≠ .measuring) (hr : r.phase = .measuring) :
    becomeMeasured length (s.withLane { s.lane with measureEye := false }) =
      measuredArrives s.lane.nextSeq (s.withMeasured before length r) := by
  have hchanged : modifyFirst (fun q : Parcel => q.phase == .measuring) (Parcel.measured s.lane.nextSeq length)
      s.lane.queue = before ++ [r.measured s.lane.nextSeq length] := by
    rw [hq, modifyFirst_split _ _ _ _ _ (fun y hy => by simpa using hb y hy) (by simp [hr])]
  rw [State.withMeasured, ← hchanged]
  rfl

/-! ## The scan slot (R27) -/

theorem measuredArrives_empty (n : SeqNo) (h : s.scan.slot = none) : measuredArrives n s = s := by
  simp [measuredArrives, h]

theorem measuredArrives_taken (n : SeqNo) {slot : ScanSlot} (h : s.scan.slot = some slot)
    (hage : slot.age ≤ s.cfg.scanWindow * 10) :
    measuredArrives n s = leaveMeasured n slot.record.effective (s.withScan { s.scan with slot := none }) := by
  have hdue : slot.age ≤ scanWindowTicks (s.withScan { s.scan with slot := none }) := hage
  simp [measuredArrives, h, hdue]

theorem measuredArrives_orphan (n : SeqNo) {slot : ScanSlot} (h : s.scan.slot = some slot)
    (hage : s.cfg.scanWindow * 10 < slot.age) :
    measuredArrives n s = raise .orphanScans (s.withScan { s.scan with slot := none }) := by
  have hdue : ¬ slot.age ≤ scanWindowTicks (s.withScan { s.scan with slot := none }) := Nat.not_le.mpr hage
  simp [measuredArrives, h, hdue]

/-- Settles O10: the noise, and the measured record by the state of the scan slot. -/
theorem parcelsAreMeasured : Obligations.ParcelsAreMeasured := by
  unfold Obligations.ParcelsAreMeasured
  intro s before r ticks ht he hq hb hr hticks length record lane
  have hexec := exec_measureEyeClearing ht he hq (fun q h => (hb q h).1) hr hticks
  have hbecomes := becomeMeasured_eq length hq (fun q h => (hb q h).1) hr
  rw [show measuredLength s.cfg ticks = length from rfl] at hexec
  have hlong (hlen : s.cfg.noiseFloor ≤ length) : exec .measureEyeClearing s = .next (settleLane
      (measuredArrives s.lane.nextSeq (s.withMeasured before length r))) := by
    rw [hexec, if_neg (Nat.not_lt.mpr hlen), hbecomes]
  refine ⟨fun hlen => ?noise, fun hlen hslot => ?waits, fun slot hlen hslot hold => ?orphan,
    fun slot hlen hslot hage => ?taken⟩
  case noise => rw [hexec, if_pos hlen, deleteNoise_eq hq (fun q h => (hb q h).1) hr]
  case waits =>
    rw [hlong hlen, measuredArrives_empty (s := s.withMeasured before length r) _ hslot]
    rfl
  case orphan =>
    rw [hlong hlen, measuredArrives_orphan (s := s.withMeasured before length r) _ hslot hold]
    rfl
  case taken =>
    have hrecord : FirstRecord ((s.withMeasured before length r).withScan { s.scan with slot := none })
        Phase.isMeasured s.lane.nextSeq before record [] :=
      ⟨rfl, rfl, rfl, fun q hmem hphase => (hb q hmem).2 ((Phase.isMeasured_iff _).mp hphase)⟩
    have heffective : slot.record.effective = if slot.record.quality = 0 then 0 else slot.record.destination := by
      simp [ScanData.effective]
    rw [hlong hlen, measuredArrives_taken (s := s.withMeasured before length r) _ hslot hage, ← heffective]
    exact congrArg (fun x => Host.Outcome.next (settleLane x)) (hrecord.leaveMeasured _)

end Sys2Proof.Machine
end

section
/-! PROOFS. The transfer, stage and exit eyes (R1, R2, R16, R17, R18, R34, R137, R140), the stray events, and what
follows at once from the lane's conditions (R3 to R7, R19, R136). -/

namespace Sys2Proof.Machine

variable {s : State} {before after : List Parcel} {r : Parcel}

/-! ## What follows at once from the lane's conditions (R5, R19) -/

/-- Where the stage zone accepts nothing and the stall timers agree with their conditions, nothing follows. -/
theorem settleLane_of_settled (ha : accepts s = false) (hs : ∀ z, (s.lane.stall.get z).isSome = stallCondition s z) :
    settleLane s = s := by
  have htimer (full : Ticks) (z : Zone) : stallTimer full (stallCondition s z) (s.lane.stall.get z) =
      s.lane.stall.get z := by
    rw [← hs z]
    cases h : s.lane.stall.get z <;> simp [stallTimer]
  have hplace := htimer (stallTicks s) .place
  have hmeasure := htimer (stallTicks s) .measure
  have hstage := htimer (stallTicks s) .stage
  have hlaunch := htimer (stallTicks s) .launch
  simp only [StallTimers.get] at hplace hmeasure hstage hlaunch
  simp only [settleLane, acceptWaiting, ha, Bool.false_eq_true, if_false, updateStall, hplace, hmeasure, hstage, hlaunch]
  rfl

/-- Each stall timer after it: it keeps its time, starts with the full time, or stops (R19). -/
theorem settleLane_stall_get (s : State) (z : Zone) : (settleLane s).lane.stall.get z =
    stallTimer (s.cfg.stallTime * 10000) (stallCondition (settleLane s) z) (s.lane.stall.get z) := by
  have hcondition (u : State) (full : Ticks) : (updateStall u).lane.stall.get z =
      stallTimer (stallTicks u) (stallCondition (updateStall u) z) (u.lane.stall.get z) := by
    rw [updateStall, stallCondition_withStall]
    cases z <;> rfl
  have hstall : (acceptWaiting s).lane.stall = s.lane.stall := by
    unfold acceptWaiting
    split <;> rfl
  have hfull : stallTicks (acceptWaiting s) = s.cfg.stallTime * 10000 := by
    simp [stallTicks, Config.ticksPerSecond]
  show (updateStall (acceptWaiting s)).lane.stall.get z = _
  rw [hcondition _ 0, hfull, hstall]
  rfl

theorem measureFront_eq (hq : s.lane.queue = before ++ r :: after) (hb : ∀ q ∈ before, q.zone ≠ .measure)
    (hr : r.zone = .measure) : measureFront s = some r := by
  unfold measureFront
  rw [hq]
  exact find?_split _ _ _ _ (fun q h => by simpa [Parcel.inZone] using hb q h) (by simp [Parcel.inZone, hr])

theorem stageOccupied_eq_false : stageOccupied s = false ↔ ∀ q ∈ s.lane.queue, q.zone ≠ .stage := by
  simp [stageOccupied, Parcel.inZone]

theorem stageResting_of_not_occupied (h : ∀ q ∈ s.lane.queue, q.zone ≠ .stage) : stageResting s = false := by
  simp only [stageResting, List.any_eq_false, Bool.and_eq_true, beq_iff_eq, not_and]
  exact fun q hq hz => absurd hz (h q hq)

/-- The conditions of R5, for the front record of the measure zone. -/
theorem accepts_iff (hq : s.lane.queue = before ++ r :: after) (hb : ∀ q ∈ before, q.zone ≠ .measure)
    (hr : r.zone = .measure) : accepts s = true ↔
      (s.station.mode = .running ∨ s.station.mode = .holding) ∧ s.lane.transferEye = true ∧ r.atTransfer = true ∧
        (r.phase = .bound ∨ r.phase = .rejected) ∧ (∀ q ∈ s.lane.queue, q.zone ≠ .stage) ∧
        s.lane.stageHolder = .sequencer := by
  simp only [accepts, waitsAtTransfer, frontIsDecided, measureFront_eq hq hb hr, Option.any_some, Bool.and_eq_true,
    Bool.or_eq_true, beq_iff_eq, Bool.not_eq_true', drawing_iff, stageOccupied_eq_false, stageDraws]
  constructor
  · rintro ⟨⟨⟨⟨hd, he, ht⟩, hp⟩, hstage⟩, ⟨-, hh⟩, -⟩
    exact ⟨hd, he, ht, hp, hstage, hh⟩
  · rintro ⟨hd, he, ht, hp, hstage, hh⟩
    exact ⟨⟨⟨⟨hd, he, ht⟩, hp⟩, hstage⟩, ⟨hd, hh⟩, stageResting_of_not_occupied hstage⟩

theorem accepts_of_no_front (h : ∀ q ∈ s.lane.queue, q.zone ≠ .measure) : accepts s = false := by
  have hnone : measureFront s = none := List.find?_eq_none.mpr fun q hq => by simpa [Parcel.inZone] using h q hq
  simp [accepts, waitsAtTransfer, hnone]

/-! ## The belts (R3 to R6) -/

theorem waitsAtTransfer_iff (s : State) : waitsAtTransfer s = true ↔ s.lane.transferEye = true ∧
    ∃ r, s.lane.queue.find? (fun q => q.zone == .measure) = some r ∧ r.atTransfer = true := by
  simp only [waitsAtTransfer, Bool.and_eq_true, Option.any_eq_true]
  rfl

theorem strayAtTransfer_iff (s : State) :
    strayAtTransfer s = true ↔ s.lane.transferEye = true ∧ s.lane.transferStray = true := by
  simp [strayAtTransfer]

theorem measureDraws_iff (s : State) : measureDraws s = true ↔
    (s.station.mode = .running ∨ s.station.mode = .holding) ∧ ¬ (s.lane.measureEye = false ∧
      (strayAtTransfer s = true ∨ waitsAtTransfer s = true ∧ accepts s = false)) := by
  simp only [measureDraws, transferBlocked, Bool.and_eq_true, Bool.or_eq_true, drawing_iff, Bool.not_eq_true']
  refine and_congr_right fun _ => ?_
  cases s.lane.measureEye <;> cases strayAtTransfer s <;> cases waitsAtTransfer s <;> cases accepts s <;> simp

theorem placeDraws_iff (s : State) : placeDraws s = true ↔
    (s.station.mode = .running ∨ s.station.mode = .holding) ∧
      (s.lane.measureEye = true ∨ (measureDraws s = true ∧ s.lane.queue.length < 4)) := by
  have hroom : queueRoom s = true ↔ s.lane.queue.length < 4 := decide_eq_true_iff
  simp only [placeDraws, Bool.and_eq_true, Bool.or_eq_true, drawing_iff, hroom]

theorem stageDraws_iff (s : State) : stageDraws s = true ↔
    (s.station.mode = .running ∨ s.station.mode = .holding) ∧ s.lane.stageHolder = .sequencer ∧
      ¬ ∃ r ∈ s.lane.queue, r.zone = .stage ∧ r.atStage = true := by
  simp [stageDraws, stageResting, drawing_iff, and_assoc]

/-- Settles O15: acceptance, the stall timers, which belts are commanded, and the commands. -/
theorem theLaneSettles : Obligations.TheLaneSettles := by
  unfold Obligations.TheLaneSettles
  refine ⟨?front, ?nofront, ?settled, ?stall, ?draws, ?belts⟩
  case front =>
    intro s before after r hq hb hr met
    have hmet : met ↔ accepts s = true := (accepts_iff hq hb hr).symm
    refine ⟨hmet, fun h => settleLane_queue_of_accepts s hq hb hr (hmet.mp h), fun h => ?_⟩
    exact settleLane_queue_of_not_accepts s (by simpa [hmet] using h)
  case nofront =>
    intro s h
    exact ⟨accepts_of_no_front h, settleLane_queue_of_not_accepts s (accepts_of_no_front h)⟩
  case settled => exact fun s => ⟨accepts_settleLane s, settleLane_eq s⟩
  case stall =>
    intro s t full follows
    have hfollows (z : Zone) (condition : Prop) (hiff : stallCondition t z = true ↔ condition) :
        follows (t.lane.stall.get z) (s.lane.stall.get z) condition := by
      have hget : t.lane.stall.get z = stallTimer full (stallCondition t z) (s.lane.stall.get z) :=
        settleLane_stall_get s z
      rw [hget]
      exact ⟨fun h => by simp [stallTimer, hiff.mpr h], fun h => by simp [stallTimer, mt hiff.mp h]⟩
    refine ⟨hfollows .place _ ?_, hfollows .measure _ ?_, hfollows .stage _ ?_, hfollows .launch _ ?_⟩
    · simp [stallCondition]
    · simp [stallCondition]
    · simp [stallCondition]
    · simp [stallCondition, inProgress]
  case draws =>
    intro s draws waits stray
    refine ⟨?_, placeDraws_iff s, stageDraws_iff s⟩
    rw [measureDraws_iff, strayAtTransfer_iff, waitsAtTransfer_iff]
  case belts =>
    intro s
    refine ⟨rfl, rfl, fun h => by simp [stageBelt, h], fun h => by simp [launchBelt, h], fun f hf => ?_⟩
    exact ⟨fun h => by simp [stageBelt, h, rampCommand, hf, Config.ticksPerSecond],
      fun h => by simp [launchBelt, h, rampCommand, hf, Config.ticksPerSecond]⟩

end Sys2Proof.Machine
end

section
/-! PROOFS. The transfer, stage and exit eyes (R1, R2, R16, R17, R34, R137, R140), and the stray events (R8, R18,
R20). -/

namespace Sys2Proof.Machine

variable {s : State} {before after : List Parcel} {r : Parcel}

/-! ## The transfer eye (R1, R16) -/

theorem awaitsTransfer_iff (r : Parcel) : r.awaitsTransfer = true ↔ r.zone = .measure ∧ r.atTransfer = false := by
  simp [Parcel.awaitsTransfer]

/-- A transfer eye that clears with no parcel waiting at it changes no belt and no stall condition. -/
theorem stallCondition_transferCleared (hw : waitsAtTransfer s = false) (hstray : s.lane.transferStray = false) (z : Zone) :
    stallCondition (s.withLane { s.lane with transferEye := false }) z = stallCondition s z := by
  have hblocked : transferBlocked s = false := by simp [transferBlocked, hw, strayAtTransfer, hstray]
  have hcleared : transferBlocked (s.withLane { s.lane with transferEye := false }) = false :=
    transferBlocked_of_clear _ rfl
  have hmeasure : measureDraws (s.withLane { s.lane with transferEye := false }) = measureDraws s := by
    simp only [measureDraws, hblocked, hcleared]
    rfl
  cases z
  case place =>
    simp only [stallCondition, placeDraws, hmeasure]
    rfl
  case measure =>
    simp only [stallCondition, hmeasure]
    rfl
  case stage => rfl
  case launch => rfl

theorem settleLane_transferCleared (hs : BeltsSound s) (hw : waitsAtTransfer s = false)
    (hstray : s.lane.transferStray = false) :
    settleLane (s.withLane { s.lane with transferEye := false }) = s.withLane { s.lane with transferEye := false } := by
  refine settleLane_of_settled ?_ fun z => ?_
  · simp [accepts, waitsAtTransfer]
  · rw [stallCondition_transferCleared hw hstray]
    exact hs.stall z

/-- Settles O11: the front edge, the clearing with nothing waiting, and either where it is not taken. -/
theorem parcelsPassTheTransferEye : Obligations.ParcelsPassTheTransferEye := by
  unfold Obligations.ParcelsPassTheTransferEye
  refine ⟨?front, ?cleared, ?untaken⟩
  case front =>
    intro s before after r ht he hq hb hz ha
    have hany : (s.withLane { s.lane with transferEye := true }).lane.queue.any Parcel.awaitsTransfer = true :=
      List.any_eq_true.mpr ⟨r, by simp [hq], (awaitsTransfer_iff r).mpr ⟨hz, ha⟩⟩
    have hchanged : modifyFirst Parcel.awaitsTransfer (fun r => { r with atTransfer := true }) s.lane.queue =
        before ++ { r with atTransfer := true } :: after := by
      rw [hq, modifyFirst_split _ _ _ _ _ (fun q hmem => ?_) ((awaitsTransfer_iff r).mpr ⟨hz, ha⟩)]
      rw [← Bool.not_eq_true, awaitsTransfer_iff]
      rintro ⟨hzone, hfirst⟩
      rw [hb q hmem hzone] at hfirst
      cases hfirst
    have ht' : takesLaneEvents (s.withLane { s.lane with transferEye := true }) = true := ht
    dsimp only [exec, execTransferEyeFrontEdge]
    rw [if_neg (by simp [he]), if_pos ht', if_pos hany, State.withLane_lane, hchanged]
    rfl
  case cleared =>
    intro s ht he hw hstray cleared
    have hcleared : cleared = s.withLane { s.lane with transferEye := false } := rfl
    have hlevel : s.withLane { s.lane with transferEye := false, transferStray := false } = cleared := by
      rw [hcleared, ← hstray]
    have hexec : exec .transferEyeClearing s = .next (settleLane cleared) := by
      have ht' : takesLaneEvents cleared = true := ht
      have hnone : (waitsAtTransfer s || strayAtTransfer s) = false := by simp [hw, strayAtTransfer, hstray]
      dsimp only [exec, execTransferEyeClearing]
      rw [if_pos he, hlevel, if_pos ht', if_neg (by simp [hnone])]
    refine ⟨hexec, fun hs => ?_⟩
    rw [hexec, hcleared, settleLane_transferCleared hs hw hstray]
  case untaken =>
    intro s ht
    refine ⟨?_, fun hl => ?_⟩
    · cases he : s.lane.transferEye
      · have ht' : takesLaneEvents (s.withLane { s.lane with transferEye := true }) = false := ht
        simp [exec, execTransferEyeFrontEdge, he, ht']
        rfl
      · simp only [exec, execTransferEyeFrontEdge, he, if_true]
        rw [← he]
    · cases he : s.lane.transferEye
      · have hstray : s.lane.transferStray = false := by
          by_contra h
          have := hl.stray (by simpa using h)
          rw [he] at this
          cases this
        have hsame : ({ s.lane with transferEye := false, transferStray := false } : Lane) = s.lane := by
          cases hlane : s.lane
          simp_all
        rw [hsame]
        simp only [exec, execTransferEyeClearing, he, Bool.false_eq_true, if_false]
      · have ht' : takesLaneEvents (s.withLane { s.lane with transferEye := false, transferStray := false }) = false := ht
        simp [exec, execTransferEyeClearing, he, ht']
        rfl

/-! ## The stage eye (R17, R34, R137) -/

theorem awaitsStage_iff (r : Parcel) : r.awaitsStage = true ↔ r.zone = .stage ∧ r.atStage = false := by
  simp [Parcel.awaitsStage]

theorem restsRejected_iff (r : Parcel) :
    r.restsRejected = true ↔ r.phase = .rejected ∧ r.zone = .stage ∧ r.atStage = true := by
  simp [Parcel.restsRejected, and_assoc]

theorem rejectedAtStage_eq (s : State) : rejectedAtStage s = s.lane.queue.any Parcel.restsRejected := rfl

/-- Where a record is in the stage zone, the stage zone accepts nothing. -/
theorem accepts_of_stage (hr : r ∈ s.lane.queue) (hz : r.zone = .stage) : accepts s = false := by
  have : stageOccupied s = true := List.any_eq_true.mpr ⟨r, hr, by simp [Parcel.inZone, hz]⟩
  simp [accepts, this]

/-- A rejected record that has reached the stage eye sets the REMOVE flag; none other does. -/
theorem reportRejected_reached (hq : s.lane.queue = before ++ r :: after) (hz : r.zone = .stage)
    (ha : r.atStage = true) (hothers : ∀ q ∈ before ++ after, q.restsRejected = false) :
    reportRejected s = { s with report := { s.report with flags := { s.report.flags with
      remove := s.report.flags.remove || r.phase == .rejected } } } := by
  have hrejected : rejectedAtStage s = (r.phase == .rejected) := by
    have hb : before.any Parcel.restsRejected = false :=
      List.any_eq_false.mpr fun q hq => by simp [hothers q (List.mem_append_left _ hq)]
    have hf : after.any Parcel.restsRejected = false :=
      List.any_eq_false.mpr fun q hq => by simp [hothers q (List.mem_append_right _ hq)]
    rw [rejectedAtStage_eq, hq, List.any_append, List.any_cons, hb, hf]
    simp [Parcel.restsRejected, hz, ha]
  unfold reportRejected
  rw [hrejected]
  cases hphase : r.phase == .rejected
  · simp
  · simp [setFlag, EventFlags.put]
    rfl

theorem leaveStage_eq (s : State) : leaveStage s = s.withLane { s.lane with
    queue := s.lane.queue.map (fun r => if r.phase = .launching then { r with zone := .launch } else r) } := by
  simp [leaveStage, withQueue]

/-- Settles O12: the record that reaches the stage eye, the launch's tail, and the removal of a rejected parcel. -/
theorem parcelsAtTheStageEye : Obligations.ParcelsAtTheStageEye := by
  unfold Obligations.ParcelsAtTheStageEye
  refine ⟨?reaches, ?launch, ?removed⟩
  case reaches =>
    intro s before after r ht he hq hb hz ha hnone
    have hfirst : r.awaitsStage = true := (awaitsStage_iff r).mpr ⟨hz, ha⟩
    have hreached : modifyFirst Parcel.awaitsStage Parcel.reachStage s.lane.queue =
        before ++ r.reachStage :: after := by
      rw [hq, modifyFirst_split _ _ _ _ _ (fun q hmem => ?_) hfirst]
      rw [← Bool.not_eq_true, awaitsStage_iff]
      exact fun h => hb q hmem h.1
    have hothers : ∀ q ∈ before ++ after, q.restsRejected = false := by
      rw [rejectedAtStage_eq, hq, List.any_eq_false] at hnone
      intro q hmem
      simpa using hnone q (by
        rcases List.mem_append.mp hmem with h | h
        · exact List.mem_append_left _ h
        · exact List.mem_append_right _ (List.mem_cons_of_mem _ h))
    have hphase : (r.reachStage.phase == .rejected) = (r.phase == .rejected) := by
      unfold Parcel.reachStage
      cases hp : r.phase <;> rfl
    let u : State := s.withLane { s.lane with stageEye := true, queue := before ++ r.reachStage :: after }
    have hreport := reportRejected_reached (s := u) (r := r.reachStage) rfl hz rfl hothers
    have ht' : takesLaneEvents (s.withLane { s.lane with stageEye := true }) = true := ht
    have hany : (s.withLane { s.lane with stageEye := true }).lane.queue.any Parcel.awaitsStage = true :=
      List.any_eq_true.mpr ⟨r, by simp [hq], hfirst⟩
    refine ⟨settleLane (reportRejected u), ?_, ?_⟩
    · dsimp only [exec, execStageEyeFrontEdge]
      rw [if_neg (by simp [he]), if_pos ht', if_pos hany, State.withLane_lane, hreached]
      rfl
    · have hsettled : accepts (reportRejected u) = false :=
        accepts_of_stage (r := r.reachStage) (by rw [reportRejected_lane]; simp [u]) hz
      rw [settleLane_eq, settleLane_queue_of_not_accepts _ hsettled, hreport, hphase]
      simp only [u, Parcel.reachStage, beq_iff_eq]
      rfl
  case launch =>
    intro s ht he hh
    have ht' : takesLaneEvents (s.withLane { s.lane with stageEye := false }) = true := ht
    dsimp only [exec, execStageEyeClearing]
    rw [if_pos he, if_pos ht', if_pos (by simp [hh]), giveBackStage, leaveStage_eq]
    rfl
  case removed =>
    intro s before after r ht he hh hq hb hz ha hp
    have ht' : takesLaneEvents (s.withLane { s.lane with stageEye := false }) = true := ht
    have hrests : r.restsRejected = true := (restsRejected_iff r).mpr ⟨hp, hz, ha⟩
    have hany : (s.withLane { s.lane with stageEye := false }).lane.queue.any Parcel.restsRejected = true :=
      List.any_eq_true.mpr ⟨r, by simp [hq], hrests⟩
    have herased : s.lane.queue.eraseP Parcel.restsRejected = before ++ after := by
      rw [hq, eraseP_split _ _ _ _ (fun q hmem => ?_) hrests]
      rw [← Bool.not_eq_true, restsRejected_iff]
      exact fun h => hb q hmem h.2.1
    dsimp only [exec, execStageEyeClearing]
    rw [if_pos he, if_pos ht', if_neg (by simp [hh]), if_pos hany, removeRejected, State.withLane_lane, herased]
    rfl

end Sys2Proof.Machine
end

section
/-! PROOFS. The exit eye (R1, R2, R137, R140), and the stray events (R1, R8, R18, R20). -/

namespace Sys2Proof.Machine

variable {s : State} {f : Flight}

/-! ## The exit check (R140) -/

theorem ExitMoment.reached_iff (m : ExitMoment) (x : EdgeTiming) : m.reached x = true ↔
    ∃ n, x.edges[m.event - 1]? = some n ∧ m.ticks ≤ x.clock - n := by
  simp only [ExitMoment.reached, EdgeTiming.since, Option.any_map, Option.any_eq_true]
  exact exists_congr fun n => and_congr_right fun _ => decide_eq_true_iff

/-- Inside the exit window, opening and closing included. -/
theorem insideWindow_iff (f : Flight) : (f.opening.reached f.timing && !f.closing.passed f.timing) = true ↔
    (∃ m, f.timing.edges[f.opening.event - 1]? = some m ∧ f.opening.ticks ≤ f.timing.clock - m) ∧
      (∀ m, f.timing.edges[f.closing.event - 1]? = some m → f.timing.clock - m ≤ f.closing.ticks) := by
  rw [Bool.and_eq_true, Bool.not_eq_true', ExitMoment.reached_iff, ← Bool.not_eq_true, ExitMoment.passed_iff]
  refine and_congr_right fun _ => ?_
  simp only [not_exists, not_and, Nat.not_lt]

theorem markChecked_eq (hf : s.launch.flight = some f) :
    markChecked s = s.withLaunch { s.launch with flight := some { f with checked := true } } := by
  simp [markChecked, hf]

theorem exitCheck_passes (hf : s.launch.flight = some f)
    (h : f.checked = true ∨ (f.opening.reached f.timing && !f.closing.passed f.timing) = true) :
    exitCheck s = s.withLaunch { s.launch with flight := some { f with checked := true } } := by
  unfold exitCheck
  rw [hf]
  dsimp only
  cases hc : f.checked
  · rw [if_neg nofun, if_pos (h.resolve_left (by simp [hc])), markChecked_eq hf]
  · rw [if_pos rfl, ← hc, ← hf]
    rfl

theorem exitCheck_warns (hf : s.launch.flight = some f) (hc : f.checked = false)
    (h : ¬ (f.opening.reached f.timing && !f.closing.passed f.timing) = true) :
    exitCheck s = launchWarning (s.withLaunch { s.launch with flight := some { f with checked := true } }) := by
  unfold exitCheck
  rw [hf]
  dsimp only
  rw [if_neg (by simp [hc]), if_neg h, markChecked_eq hf]

theorem giveBackLaunch_eq (s : State) : giveBackLaunch s = s.withLane { s.lane with
    stageHolder := .sequencer
    launchHolder := .sequencer
    queue := s.lane.queue.map (fun r => if r.phase = .launching then { r with zone := .launch } else r) } := by
  rw [giveBackLaunch, leaveStage_eq]
  rfl

theorem exec_exitEyeClearing (ht : takesLaneEvents s = true) (he : s.lane.exitEye = true)
    (hh : s.lane.launchHolder = .launchUnit) : exec .exitEyeClearing s = .next (settleLane (takeVerdict
      (giveBackLaunch (exitCheck (s.withLane { s.lane with exitEye := false }))))) := by
  have htaken : (takesLaneEvents (s.withLane { s.lane with exitEye := false }) &&
      inProgress (s.withLane { s.lane with exitEye := false })) = true := by
    simpa [takesLaneEvents, inProgress, hh] using ht
  dsimp only [exec, execExitEyeClearing]
  rw [if_pos he, if_pos htaken]

theorem exec_exitEyeClearing_untaken (h : takesLaneEvents s = false ∨ s.lane.launchHolder = .sequencer) :
    exec .exitEyeClearing s = .next { s with lane := { s.lane with exitEye := false } } := by
  cases he : s.lane.exitEye
  · have hsame : ({ s.lane with exitEye := false } : Lane) = s.lane := by
      cases hlane : s.lane
      simp_all
    simp [exec, execExitEyeClearing, he, hsame]
  · have hno : ¬ (takesLaneEvents (s.withLane { s.lane with exitEye := false }) &&
        inProgress (s.withLane { s.lane with exitEye := false })) = true := by
      rw [Bool.and_eq_true]
      rintro ⟨ht, hp⟩
      rcases h with h | h
      · exact nomatch h.symm.trans ht
      · simp [inProgress, h] at hp
    dsimp only [exec, execExitEyeClearing]
    rw [if_pos he, if_neg hno]
    rfl

/-- Settles O13: the front edge, the exit check by the window, its closing, and what has no effect. -/
theorem parcelsPassTheExitEye : Obligations.ParcelsPassTheExitEye := by
  unfold Obligations.ParcelsPassTheExitEye
  refine ⟨?front, ?cleared, ?closes, ?unclosed, ?untakenFront, ?untakenClearing⟩
  case front =>
    intro s ht he hh
    have hno : ¬ (takesLaneEvents (s.withLane { s.lane with exitEye := true }) &&
        !inProgress (s.withLane { s.lane with exitEye := true })) = true := by simp [inProgress, hh]
    dsimp only [exec, execExitEyeFrontEdge]
    rw [if_neg (by simp [he]), if_neg hno]
    rfl
  case cleared =>
    intro s f ht he hh hf hv inside cleared
    have hinside := insideWindow_iff f
    have hexec := exec_exitEyeClearing ht he hh
    have hundecided : verdictOf { f with checked := true } = .undecided := hv
    let u : State := s.withLane { s.lane with exitEye := false }
    refine ⟨fun h => ?_, fun hc h => ?_⟩
    · have hpass := exitCheck_passes (s := u) hf (h.imp_right hinside.mpr)
      rw [hexec, hpass, giveBackLaunch_eq, takeVerdict_undecided rfl hundecided]
      rfl
    · have hwarn := exitCheck_warns (s := u) hf hc (mt hinside.mp h)
      rw [hexec, hwarn, giveBackLaunch_eq, takeVerdict_undecided (by simp [launchWarning]) hundecided]
      rfl
  case closes =>
    intro s f m hh hf hc hm hlt
    dsimp only [exec, execExitWindowClosing]
    rw [if_pos ((closingDue_iff s).mpr ⟨hh, f, m, hf, hc, hm, hlt⟩), markChecked_eq hf]
    rfl
  case unclosed =>
    intro s h
    have hno : ¬ closingDue s = true := by
      rw [closingDue_iff]
      rintro ⟨hh, f, m, hf, hc, hm, hlt⟩
      rcases h with h | h | ⟨g, hg, h⟩
      · exact nomatch hh.symm.trans h
      · exact nomatch hf.symm.trans h
      · obtain rfl := Option.some.inj (hf.symm.trans hg)
        rcases h with h | h
        · exact nomatch hc.symm.trans h
        · exact absurd (h m hm) (Nat.not_le.mpr hlt)
    dsimp only [exec, execExitWindowClosing]
    rw [if_neg hno]
  case untakenFront =>
    intro s ht
    cases he : s.lane.exitEye
    · have ht' : takesLaneEvents (s.withLane { s.lane with exitEye := true }) = false := ht
      simp [exec, execExitEyeFrontEdge, he, ht']
      rfl
    · have hsame : ({ s.lane with exitEye := true } : Lane) = s.lane := by
        cases hlane : s.lane
        simp_all
      simp [exec, execExitEyeFrontEdge, he, hsame]
  case untakenClearing => exact fun s h => exec_exitEyeClearing_untaken h

/-! ## Stray events (R1, R8, R18, R20) -/

/-- A JAM at the state with its lane changed, where lane events are taken. -/
theorem reportJam_withLane (z : Zone) (ht : takesLaneEvents s = true) (l : Lane) :
    reportJam z (s.withLane l) = enterFaulted (.jam z)
      { s with lane := l, report := { s.report with flags := { s.report.flags with jam := true } } } :=
  reportJam_taken z (s := s.withLane l) ht

/-- Settles O14: each stray event finds none of the records that it could be taken for. -/
theorem strayEventsAndStallsJam : Obligations.StrayEventsAndStallsJam := by
  unfold Obligations.StrayEventsAndStallsJam
  intro s ht jammed
  have ht' (l : Lane) : takesLaneEvents (s.withLane l) = true := ht
  refine ⟨fun he h => ?transferFront, fun he h => ?transferClearing, fun he h => ?stageFront,
    fun he hh h hno => ?stageClearing, fun he hh => ?exitFront, fun he h => ?overfill, fun z h => ?stall⟩
  case transferFront =>
    have hnone : ¬ s.lane.queue.any Parcel.awaitsTransfer = true := by
      simp only [List.any_eq_true, awaitsTransfer_iff, not_exists, not_and]
      exact fun r hr hz => by simp [h r hr hz]
    dsimp only [exec, execTransferEyeFrontEdge]
    rw [if_neg (by simp [he]), if_pos (ht' _), State.withLane_lane, if_neg hnone, reportJam_withLane _ ht]
  case transferClearing =>
    have hstray : (waitsAtTransfer s || strayAtTransfer s) = true := by
      rw [Bool.or_eq_true, waitsAtTransfer_iff, strayAtTransfer_iff]
      exact h.elim (fun h => .inr ⟨he, h⟩) (fun h => .inl ⟨he, h⟩)
    dsimp only [exec, execTransferEyeClearing]
    rw [if_pos he, if_pos (ht' _), if_pos hstray, reportJam_withLane _ ht]
  case stageFront =>
    have hnone : ¬ s.lane.queue.any Parcel.awaitsStage = true := by
      simp only [List.any_eq_true, awaitsStage_iff, not_exists, not_and]
      exact fun r hr hz => by simp [h r hr hz]
    dsimp only [exec, execStageEyeFrontEdge]
    rw [if_neg (by simp [he]), if_pos (ht' _), State.withLane_lane, if_neg hnone, reportJam_withLane _ ht]
  case stageClearing =>
    have hnone : ¬ s.lane.queue.any Parcel.restsRejected = true := by
      simp only [List.any_eq_true, restsRejected_iff, not_exists, not_and]
      exact fun r hr hp hz => absurd hz (hno r hr hp)
    have hready : readyRests (s.withLane { s.lane with stageEye := false }) = true := by
      obtain ⟨r, hr, hp⟩ := h
      exact List.any_eq_true.mpr ⟨r, hr, by rcases hp with hp | hp | hp <;> simp [hp]⟩
    dsimp only [exec, execStageEyeClearing]
    rw [if_pos he, if_pos (ht' _), State.withLane_lane, if_neg (by simp [hh]), if_neg hnone, if_pos hready, reportJam_withLane _ ht]
  case exitFront =>
    have hjam : (takesLaneEvents (s.withLane { s.lane with exitEye := true }) &&
        !inProgress (s.withLane { s.lane with exitEye := true })) = true := by
      simpa [inProgress, hh] using ht' _
    dsimp only [exec, execExitEyeFrontEdge]
    rw [if_neg (by simp [he]), if_pos hjam, reportJam_withLane _ ht]
  case overfill =>
    have hfull : ¬ queueRoom (s.withLane { s.lane with measureEye := true }) = true := fun hroom =>
      absurd (of_decide_eq_true hroom) (Nat.not_lt.mpr h)
    dsimp only [exec, execMeasureEyeFrontEdge]
    rw [if_neg (by simp [he]), if_pos (ht' _), if_neg hfull, reportJam_withLane _ ht]
  case stall =>
    dsimp only [exec, execStallTimerRunsOut]
    rw [if_pos (by simp [stallDue, h])]
    exact congrArg Host.Outcome.next (reportJam_taken z ht)

end Sys2Proof.Machine
end

section

/-! PROOFS. A resync (R50 to R52, R133): O23. -/

namespace Sys2Proof.Machine

variable {s : State} {f g : TxFrame} {k : Commitment} {before after : List Parcel} {r : Parcel}

/-! ## What a resync does before it drops the commitment (R50, R51) -/

/-- The state at which a resync drops the commitment: the lists that trays number are empty, and no CLAIM or HOLD
waits. -/
def resyncSwept (s : State) : State :=
  askRemoval (fun b => b.isClaim || b.isHold)
    (sparePassage
      ((s.withWindow { entries := [], pending := [] }).withShare { s.share with credit := 0, held := [] }))

theorem resync_eq (s : State) : resync s = dropCommitment (resyncSwept s) := rfl

@[simp] theorem resyncSwept_frame (s : State) :
    (resyncSwept s).lane = s.lane ∧ (resyncSwept s).launch = s.launch ∧
    (resyncSwept s).window = { entries := [], pending := [] } ∧
    (resyncSwept s).share = { s.share with credit := 0, held := [] } ∧
    (resyncSwept s).line.passage = s.line.passage := by
  simp [resyncSwept, sparePassage, askRemoval, withTxQueue]

/-- A frame that a resync sweeps runs to its end, past its deadline too (R51). -/
def TxFrame.runsOut (f : TxFrame) : TxFrame := { f with removalAsked := true, spared := true }

theorem mem_resyncSwept :
    f ∈ (resyncSwept s).line.queue ↔
      (f ∈ s.line.queue ∧ (f.body.isClaim || f.body.isHold) = false) ∨
      ∃ g ∈ s.line.queue, (g.body.isClaim || g.body.isHold) = true ∧ g.inPassage = true ∧ f = g.runsOut := by
  rw [resyncSwept, mem_askRemoval]
  show (f ∈ List.map _ s.line.queue ∧ _) ∨ (∃ g ∈ List.map _ s.line.queue, _) ↔ _
  simp only [List.mem_map]
  constructor
  · rintro (⟨⟨g, hg, rfl⟩, hp⟩ | ⟨-, ⟨g, hg, rfl⟩, hp, hpass, rfl⟩)
    · split at hp
      case isTrue h => simp_all
      case isFalse h => exact .inl ⟨by rwa [if_neg h], by rwa [if_neg h]⟩
    · split at hp
      case isTrue h => exact .inr ⟨g, hg, hp, by simp_all, by rw [if_pos h]; rfl⟩
      case isFalse h => simp_all
  · rintro (⟨hf, hp⟩ | ⟨g, hg, hp, hpass, rfl⟩)
    · exact .inl ⟨⟨f, hf, by simp [hp]⟩, hp⟩
    · refine .inr ⟨_, ⟨g, hg, if_pos (by simp [hp, hpass])⟩, hp, hpass, rfl⟩

/-- What shares the limit of five after the sweep: the VACATEs, and the HOLDs in passage (R68). -/
theorem resyncSwept_countP (hold : s.line.queue.countP (fun f => f.body.isHold && f.inPassage) = 0) :
    (resyncSwept s).line.queue.countP (·.body.isHoldOrVacate) = s.line.queue.countP (·.body.isVacate) := by
  show List.countP _ (List.map _ (List.filter _ (List.map _ s.line.queue))) = _
  rw [List.countP_map, List.countP_filter, List.countP_map]
  refine List.countP_congr fun f hf => ?_
  have hno := List.countP_eq_zero.mp hold f hf
  cases hb : f.body <;> cases hp : f.inPassage <;>
    simp_all [TxBody.isHoldOrVacate, TxBody.isHold, TxBody.isVacate, TxBody.isClaim]

/-! ## What dropping the commitment leaves in the queue (R69, R71, R133) -/

theorem offerVacate_passage (t : Tray) (span : Span) (s : State) :
    (offerVacate t span s).line.passage = s.line.passage := by
  rw [offerVacate]
  split
  · rfl
  · split <;> rfl

theorem dropCommitment_passage (s : State) : (dropCommitment s).line.passage = s.line.passage := by
  rw [dropCommitment]
  split
  · rfl
  · split
    · rw [offerVacate_passage]
      simp
    · simp [askRemoval, withTxQueue]

/-- Of the lane, dropping the commitment changes the parcel queue alone (R12, R133). -/
theorem dropCommitment_lane (s : State) :
    (dropCommitment s).lane = { s.lane with queue := (dropCommitment s).lane.queue } := by
  rw [dropCommitment]
  split
  · rfl
  · split
    · rw [(offerVacate_frame _ _ _).1]
      rfl
    · rfl

/-- A frame that a drop of the commitment cannot touch: a CLAIM or HOLD that runs to its end stays. -/
theorem mem_dropCommitment_of_runsOut (hg : g ∈ s.line.queue)
    (hruns : (g.body.isClaim || g.body.isHold) = true → g.inPassage = true ∧ g.removalAsked = true) :
    g ∈ (dropCommitment s).line.queue := by
  rw [dropCommitment]
  split
  · exact hg
  · split
    · rw [offerVacate]
      split
      · exact mem_enqueue (by simpa using hg)
      · split
        · refine mem_enqueue ?_
          show g ∈ List.eraseP _ _
          rw [List.mem_eraseP_of_neg (by cases hh : g.body.isHold <;> simp_all)]
          simpa using hg
        · simpa using hg
    · rw [(discardCommitment_frame _ _).2.2.2.2.2.1, mem_askRemoval]
      by_cases hc : g.body.isClaim = true
      case neg => exact .inl ⟨hg, by simpa using hc⟩
      case pos =>
        obtain ⟨hpass, hasked⟩ := hruns (by simp [hc])
        exact .inr ⟨g, hg, hc, hpass, by rw [← hasked]⟩

/-- What a VACATE's offer leaves in the queue comes from it, the VACATE apart (R69). -/
theorem mem_of_mem_offerVacate {t : Tray} {span : Span} (hg : g ∈ (offerVacate t span s).line.queue)
    (hv : g.body.isVacate = false) : g ∈ s.line.queue := by
  have hfresh {q : List TxFrame} (h : g ∈ q ++ [.fresh (.vacate t span Config.vacateEvents)]) : g ∈ q := by
    rcases List.mem_append.mp h with h | h
    · exact h
    · obtain rfl := List.mem_singleton.mp h
      cases hv
  rw [offerVacate] at hg
  split at hg
  · exact hfresh hg
  · split at hg
    · exact List.mem_of_mem_eraseP (hfresh hg)
    · exact hg

/-- Every CLAIM and HOLD that a dropped commitment leaves comes from the queue, at most marked (R71). -/
theorem exists_of_mem_dropCommitment (hg : g ∈ (dropCommitment s).line.queue) (hv : g.body.isVacate = false) :
    g ∈ s.line.queue ∨ ∃ f ∈ s.line.queue, g = { f with removalAsked := true } := by
  rw [dropCommitment] at hg
  split at hg
  · exact .inl hg
  · split at hg
    · exact .inl (by simpa using mem_of_mem_offerVacate hg hv)
    · rw [(discardCommitment_frame _ _).2.2.2.2.2.1, mem_askRemoval] at hg
      rcases hg with ⟨hg, -⟩ | ⟨f, hf, -, -, rfl⟩
      · exact .inl hg
      · exact .inr ⟨f, hf, rfl⟩

/-- Dropping the commitment with no hold placed leaves the share unit as it stands. -/
theorem dropCommitment_share_of_no_held (h : s.share.held = []) : (dropCommitment s).share = s.share := by
  have hoffer (u : State) (t : Tray) (span : Span) (hu : u.share = s.share) :
      (offerVacate t span u).share = s.share := by
    rw [offerVacate]
    split
    · simpa [enqueue] using hu
    · split
      · have hheld : { s.share with held := [] } = s.share := by rw [← h]
        simpa [enqueue, dropHeld, hu, h] using hheld
      · exact hu
  rw [dropCommitment]
  split
  · rfl
  · split
    · exact hoffer _ _ _ (by simp)
    · simp

/-! ## A resync (R50 to R52) -/

theorem resync_share (s : State) : (resync s).share = { s.share with credit := 0, held := [] } := by
  rw [resync_eq, dropCommitment_share_of_no_held (by simp)]
  simp

theorem resync_lane (s : State) : (resync s).lane = { s.lane with queue := (resync s).lane.queue } := by
  simpa [resync_eq] using dropCommitment_lane (resyncSwept s)

theorem resync_passage (s : State) : (resync s).line.passage = s.line.passage := by
  simp [resync_eq, dropCommitment_passage]

theorem resync_launch (s : State) : (resync s).launch = { s.launch with commitment := none } := by
  simp [resync_eq, dropCommitment_launch]

/-- No CLAIM or HOLD waits after a resync, and one in passage runs to its end (R50, R51). -/
theorem resync_runsOut (hf : f ∈ (resync s).line.queue) (hb : f.body.isClaim = true ∨ f.body.isHold = true) :
    f.inPassage = true ∧ f.removalAsked = true ∧ f.spared = true := by
  have hswept (g : TxFrame) (hg : g ∈ (resyncSwept s).line.queue) (hp : g.body.isClaim = true ∨ g.body.isHold = true) :
      g.inPassage = true ∧ g.removalAsked = true ∧ g.spared = true := by
    rcases mem_resyncSwept.mp hg with ⟨-, hno⟩ | ⟨x, -, -, hpass, rfl⟩
    · simp_all
    · exact ⟨hpass, rfl, rfl⟩
  have hv : f.body.isVacate = false := by
    cases hv : f.body.isVacate with
    | false => rfl
    | true => rcases hb with hb | hb <;> simp_all [TxBody.isHold_of_isVacate, TxBody.isClaim_of_isVacate]
  rcases exists_of_mem_dropCommitment hf hv with h | ⟨g, hg, rfl⟩
  · exact hswept f h hb
  · obtain ⟨hpass, -, hspared⟩ := hswept g hg hb
    exact ⟨hpass, rfl, hspared⟩

theorem runsOut_mem_resync (hf : f ∈ s.line.queue) (hb : f.body.isClaim = true ∨ f.body.isHold = true)
    (hpass : f.inPassage = true) : f.runsOut ∈ (resync s).line.queue :=
  mem_dropCommitment_of_runsOut (mem_resyncSwept.mpr (.inr ⟨f, hf, by simpa using hb, hpass, rfl⟩))
    fun _ => ⟨hpass, rfl⟩

theorem mem_resync (hf : f ∈ s.line.queue) (hc : f.body.isClaim = false) (hh : f.body.isHold = false) :
    f ∈ (resync s).line.queue :=
  mem_dropCommitment_of_runsOut (mem_resyncSwept.mpr (.inl ⟨hf, by simp [hc, hh]⟩)) (by simp [hc, hh])

theorem FirstRecord.resyncSwept (h : FirstRecord s Phase.isClaim k.seq before r after) :
    FirstRecord (Machine.resyncSwept s) Phase.isClaim k.seq before r after :=
  ⟨h.queue, h.phase, h.seq, h.first⟩

/-- An Announced commitment's trays are vacated where the limit of five has room (R68, R133). -/
theorem FirstRecord.vacate_mem_resync (h : FirstRecord s Phase.isClaim k.seq before r after)
    (hk : s.launch.commitment = some k) (hr : r.phase = .announced)
    (hroom : s.line.queue.countP (·.body.isVacate) < 5)
    (hhold : s.line.queue.countP (fun f => f.body.isHold && f.inPassage) = 0) :
    .fresh (.vacate k.tray k.span 8) ∈ (resync s).line.queue := by
  have hphase : Machine.phaseOf (Machine.resyncSwept s) k.seq = some .announced := by
    rw [h.resyncSwept.phaseOf, hr]
  rw [resync_eq, dropCommitment_of_announced (by simpa using hk) hphase]
  refine fresh_mem_offerVacate _ _ ?_
  rw [(discardCommitment_frame _ _).2.2.2.2.2.1, resyncSwept_countP hhold]
  exact hroom

/-- Settles O23, from the sweep of the lists that trays number and from what the drop of the commitment can do. -/
theorem resyncDiscardsWhatTraysNumber : Obligations.ResyncDiscardsWhatTraysNumber := by
  unfold Obligations.ResyncDiscardsWhatTraysNumber
  intro s
  refine ⟨?_, resync_share s, fun f => resync_runsOut, fun f => runsOut_mem_resync, fun f => mem_resync,
    resync_passage s, resync_launch s, resync_lane s, ?_, ?_, ?_⟩
  · simp [resync_eq]
  · intro hk
    rw [resync_eq, dropCommitment_of_no_commitment (by simpa using hk)]
    simp
  · intro k before after r hk hrecord
    exact ⟨by rw [resync_eq, hrecord.resyncSwept.dropCommitment_queue (by simpa using hk)],
      hrecord.vacate_mem_resync hk⟩
  · simp

end Sys2Proof.Machine
end

section

/-! PROOFS. The confirm eye, and a timeout with its resync (R39, R41, R47, R49 to R53, R157): O22. -/

namespace Sys2Proof.Machine

variable {s : State} {f g : TxFrame} {c : HoldCause} {k : Commitment} {before after : List Parcel} {r : Parcel}

/-! ## A cause added where nothing is committed (R156, R157) -/

/-- Two queues that a STAT's offers apart have one passage and the same other frames (R70). -/
structure Line.StatsApart (x y : Line) : Prop where
  passage : y.passage = x.passage
  kept    : ∀ f ∈ x.queue, f.body ≠ .stat → f ∈ y.queue
  came    : ∀ f ∈ y.queue, f.body ≠ .stat → f ∈ x.queue

theorem Line.StatsApart.refl (x : Line) : x.StatsApart x := ⟨rfl, fun _ h _ => h, fun _ h _ => h⟩

theorem Line.StatsApart.trans {x y z : Line} (h : x.StatsApart y) (h' : y.StatsApart z) : x.StatsApart z :=
  ⟨h'.passage.trans h.passage, fun f hf hb => h'.kept f (h.kept f hf hb) hb,
    fun f hf hb => h.came f (h'.came f hf hb) hb⟩

theorem request_statsApart (s : State) : s.line.StatsApart (request .stat s).line := by
  rw [request_eq]
  exact ⟨rfl, fun _ => mem_requested, fun _ => mem_of_mem_requested⟩

theorem addHold_of_no_commitment (c : HoldCause) (ha : active s = true) (hk : s.launch.commitment = none) :
    (addHold c s).lane = s.lane ∧ (addHold c s).launch = s.launch ∧ s.line.StatsApart (addHold c s).line := by
  by_cases hc : s.station.holds.has c = true
  · rw [addHold_of_has hc]
    exact ⟨rfl, rfl, .refl _⟩
  · rw [Bool.not_eq_true] at hc
    obtain ⟨hlane, hlaunch⟩ := addHold_keeps_lane ha hc (.inr (.inr (.inl hk)))
    refine ⟨hlane, hlaunch, ?_⟩
    by_cases h : s.station.mode = .running ∧ s.station.holds = ⟨false, false, false, false⟩
    · obtain ⟨hm, hh⟩ := h
      have hleft (h : HoldSet) : leaveRunning ((s.heldBy h).movedTo .holding) = (s.heldBy h).movedTo .holding :=
        leaveRunning_of_no_commitment (s := (s.heldBy h).movedTo .holding) hk
      rw [addHold_leaves_running hc hm hh, hleft]
      exact (request_statsApart s).trans (request_statsApart (s.heldBy _))
    · rw [addHold_keeps_mode ha hc h]
      exact request_statsApart s

/-! ## The resync with its hold cause (R49, R50) -/

theorem resyncHold_lane_launch (ha : active s = true) :
    (resyncHold s).lane = (resync s).lane ∧ (resyncHold s).launch = { s.launch with commitment := none } ∧
      (resync s).line.StatsApart (resyncHold s).line := by
  have hlaunch := resync_launch s
  rw [← hlaunch]
  exact addHold_of_no_commitment .tracking (by simpa [active] using ha) (by rw [hlaunch])

/-- TRACKING joins the hold set, and Running with an empty one goes to Holding (R49, R157). -/
theorem resyncHold_station (s : State) :
    (resyncHold s).station.holds = { s.station.holds with tracking := true } ∧
      (resyncHold s).station.cause = s.station.cause ∧
      (s.station.mode = .running → s.station.holds.isEmpty = true → (resyncHold s).station.mode = .holding) ∧
      (s.station.mode ≠ .running → (resyncHold s).station.mode = s.station.mode) := by
  have hsame : (resync s).station = s.station := by simp
  by_cases hc : s.station.holds.has .tracking = true
  · have hheld : s.station.holds.tracking = true := hc
    rw [resyncHold, addHold_of_has (by rwa [hsame]), hsame]
    refine ⟨by rw [← hheld], rfl, fun _ he => ?_, fun _ => rfl⟩
    rw [s.station.holds.isEmpty_iff_eq.mp he] at hheld
    cases hheld
  · rw [resyncHold, addHold_station _ _ (by rw [hsame]; simpa using hc), hsame]
    exact ⟨rfl, rfl, fun hm he => if_pos ⟨hm, he⟩, fun hm => if_neg fun h => hm h.1⟩

/-- What a resync leaves in the queue (R50, R51), the offers of a STAT apart. -/
theorem resyncHold_runsOut (ha : active s = true) (hf : f ∈ (resyncHold s).line.queue)
    (hb : f.body.isClaim = true ∨ f.body.isHold = true) :
    f.inPassage = true ∧ f.removalAsked = true ∧ f.spared = true := by
  obtain ⟨-, -, hline⟩ := resyncHold_lane_launch ha
  refine resync_runsOut (hline.came f hf ?_) hb
  intro hstat
  rcases hb with hb | hb <;> · rw [hstat] at hb; cases hb

theorem mem_resyncHold (ha : active s = true) (hf : f ∈ s.line.queue)
    (hb : f.body.isVacate = true ∨ f.body.isDemand = true) : f ∈ (resyncHold s).line.queue := by
  obtain ⟨-, -, hline⟩ := resyncHold_lane_launch ha
  cases hbody : f.body <;> rw [hbody] at hb <;> simp_all [TxBody.isVacate, TxBody.isDemand]
  all_goals exact hline.kept f (mem_resync hf (by rw [hbody]; rfl) (by rw [hbody]; rfl)) (by simp [hbody])

/-! ## The timeout (R41, R47, R53) -/

/-- What a timeout does to the tracker itself. -/
def Tracker.timedOut (k : Tracker) : Tracker :=
  { k with tracking := .unsynced, count := none, sinceHome := 0, fillEvents := 0, history := [], timer := none }

/-- TRAY TIMING, reported and counted (R47). -/
def Report.trayTimingFault (p : Report) : Report :=
  { p with counters := p.counters.raise .timingFaults, flags := { p.flags with trayTiming := true } }

/-- The state that a timeout resyncs in Filling and Locked: the confirm eye that stays blocked sets the latch
again (R39, R53). -/
def State.timedOut (s : State) : State :=
  { s with
    tracker := { s.tracker.timedOut with
      latch := s.tracker.latch && Config.confirmEyeStaysBlocked s.tracker.timeouts
      timeouts := s.tracker.timeouts + 1 }
    report := s.report.trayTimingFault }

theorem execTimeout_unsynced (ha : active s = true) (hdue : timeoutDue s = true)
    (ht : s.tracker.tracking = .unsynced) :
    exec .timeout s = .next { s with tracker := s.tracker.timedOut, report := s.report.trayTimingFault } := by
  have huntracked : tracked s = false := by simp [tracked, ht]
  dsimp only [exec, execTimeout]
  rw [if_pos (by simp [ha, hdue]), trackerTimesOut, if_neg (by simp [huntracked]), implausibleInterval]
  dsimp only
  rw [if_neg (by simpa [tracked] using ht)]
  rfl

theorem execTimeout_tracked (ha : active s = true) (hdue : timeoutDue s = true)
    (ht : s.tracker.tracking ≠ .unsynced) :
    exec .timeout s = .next (resyncHold s.timedOut) := by
  have htracked : tracked s = true := by simp [tracked, ht]
  dsimp only [exec, execTimeout]
  rw [if_pos (by simp [ha, hdue]), trackerTimesOut, if_pos htracked, implausibleInterval]
  dsimp only
  rw [if_pos (by simpa [tracked] using ht)]
  rfl

theorem timedOut_iff (pitch x : Nat) (p : Option Ticks) :
    timedOut pitch p x = true ↔ pitch * 20 < x ∨ ∃ m, p = some m ∧ 2 * m < x := by
  have hover : upperBound pitch < x ↔ pitch * 20 < x := Iff.rfl
  cases p <;> simp only [timedOut, Bool.or_eq_true, decide_eq_true_eq, hover] <;> simp

/-- Settles O22, from the timeout's two cases and the rules of a resync. -/
theorem confirmEyeAndTimeout : Obligations.ConfirmEyeAndTimeout := by
  unfold Obligations.ConfirmEyeAndTimeout
  refine ⟨fun s ha => ?latch, fun s x ha hx hover => ?due, fun s h => ?early, timedOut_iff⟩
  case latch =>
    dsimp only [exec, execConfirmEyeBlocked]
    rw [if_pos ha]
    rfl
  case due =>
    have hdue : timeoutDue s = true := by simpa [timeoutDue, hx] using hover
    refine ⟨execTimeout_unsynced ha hdue, fun ht => ⟨_, execTimeout_tracked ha hdue ht, rfl, ?_⟩⟩
    have hactive : active s.timedOut = true := ha
    obtain ⟨hlane, hlaunch, hline⟩ := resyncHold_lane_launch hactive
    obtain ⟨hholds, hcause, hruns, hrests⟩ := resyncHold_station s.timedOut
    have hdrop : (resync s.timedOut).lane = { s.lane with queue := (resync s.timedOut).lane.queue } :=
      resync_lane s.timedOut
    refine ⟨by simp; rfl, by simp; rfl, by simp [resyncHold, resync_eq], ?_, ?_, ?_, ?_, hholds, hcause, hruns, hrests,
      ?_, fun k before after r hk hrecord => ⟨?_, fun hr hroom hhold => ?_⟩, fun f => resyncHold_runsOut hactive,
      fun f => mem_resyncHold hactive, ?_, by simp; rfl, by simp; rfl, by simp; rfl⟩
    · exact ((addHold_frame _ _).2.2.2.1).trans (resync_share _)
    · rw [hlaunch]
    · rw [hlaunch]
      rfl
    · rw [hlaunch]
      rfl
    · intro hk
      rw [hlane, resync_eq, dropCommitment_of_no_commitment (s := resyncSwept s.timedOut) (by simpa using (show s.timedOut.launch.commitment = none from hk))]
      simp
      rfl
    · have hmoved : FirstRecord s.timedOut Phase.isClaim k.seq before r after :=
        ⟨hrecord.queue, hrecord.phase, hrecord.seq, hrecord.first⟩
      rw [hlane, hdrop, resync_eq, hmoved.resyncSwept.dropCommitment_queue (by simpa using (show s.timedOut.launch.commitment = some k from hk))]
    · have hmoved : FirstRecord s.timedOut Phase.isClaim k.seq before r after :=
        ⟨hrecord.queue, hrecord.phase, hrecord.seq, hrecord.first⟩
      exact hline.kept _ (hmoved.vacate_mem_resync hk hr hroom hhold) (by simp [TxFrame.fresh])
    · rw [hline.passage, resync_passage]
      rfl
  case early =>
    have hnot : timeoutDue s = false := by
      rcases h with h | ⟨x, h, hunder⟩
      · simp [timeoutDue, h]
      · simpa [timeoutDue, h] using hunder
    dsimp only [exec, execTimeout]
    rw [if_neg (by simp [hnot])]

end Sys2Proof.Machine
end

section

/-! PROOFS. The work of an epoch boundary (R101, R103, R105, R106, R126, R127, R144 to R146, R179): O24. -/

namespace Sys2Proof.Machine

variable {s : State} {g : TxFrame}

/-! ## What a hold cause leaves in the queue (R71, R156) -/

theorem mem_offerStat (hg : g ∈ s.line.queue) (hb : g.body ≠ .stat) : g ∈ (offerStat s).line.queue := by
  rw [offerStat_eq]
  split
  · exact mem_requested hg hb
  · exact hg

theorem mem_addHold (c : HoldCause) (hg : g ∈ s.line.queue) (hc : g.body.isClaim = false) (hb : g.body ≠ .stat) :
    g ∈ (addHold c s).line.queue := by
  unfold addHold
  split
  · exact hg
  · dsimp only
    split
    · exact mem_leaveRunning (mem_offerStat (s := State.withStation _ _) (mem_offerStat hg hb) hb) hc
    · exact mem_offerStat hg hb

theorem mem_removeHold (c : HoldCause) (hg : g ∈ s.line.queue) (hb : g.body ≠ .stat) :
    g ∈ (removeHold c s).line.queue := by
  unfold removeHold
  split
  · dsimp only
    split
    · exact mem_offerStat (s := State.withStation _ _) (mem_offerStat hg hb) hb
    · exact mem_offerStat hg hb
  · exact hg

theorem mem_reportHorizon (hg : g ∈ s.line.queue) (hc : g.body.isClaim = false) (hb : g.body ≠ .stat) :
    g ∈ (reportHorizon s).line.queue := by
  unfold reportHorizon
  split
  · exact mem_addHold _ hg hc hb
  · exact mem_removeHold _ hg hb

/-- HORIZON stands in the hold set exactly where H is over W − 1 (R127). -/
theorem reportHorizon_has (s : State) :
    (reportHorizon s).station.holds.horizon = decide (s.cfg.window - 1 < s.launch.horizon) := by
  unfold reportHorizon
  split
  next h => exact (addHold_has .horizon s).trans (decide_eq_true h).symm
  next h => exact (removeHold_has .horizon s).trans (decide_eq_false h).symm

/-- Where the hold set does not change, H's report changes nothing. -/
theorem reportHorizon_of_same_holds (h : (reportHorizon s).station.holds = s.station.holds) :
    reportHorizon s = s := by
  have hhas := reportHorizon_has s
  rw [h] at hhas
  unfold reportHorizon
  split
  next hover => exact addHold_of_has (c := .horizon) (hhas.trans (decide_eq_true hover))
  next hover => exact removeHold_of_not_has (c := .horizon) (hhas.trans (decide_eq_false hover))

/-! ## The figures of the boundary (R101, R105, R126) -/

theorem Peer.grow_eq (p : Peer) :
    p.grow = if p.presence = .absent then p
      else { p with age := min (p.age + 1) 4, presence := if p.age < 3 then p.presence else .absent } := by
  have hage : Config.peerAgeMax = 4 := rfl
  unfold Peer.grow
  cases hp : p.presence <;> simp only [hage, reduceCtorEq, if_false, if_true]
  all_goals
    by_cases h : p.age < 3
    · rw [if_pos (by omega), if_pos h, Nat.min_eq_left (by omega), ← hp]
    · rw [if_neg (by omega), if_neg h, Nat.min_eq_right (by omega)]

theorem Peer.weight_eq (p : Peer) :
    p.weight = if p.presence = .active ∧ p.running = true then p.backlog * p.laneClass.weight else 0 := by
  simp [Peer.weight]

theorem shareOf_eq (floor w dw : Nat) :
    shareOf floor w dw = if w = 0 then 0 else min 16 (max floor ((16 * w + (w + dw) - 1) / (w + dw))) := by
  simp [shareOf, divUp]

/-! ## The boundary's state, block by block (R103) -/

/-- The station at an epoch boundary before H is recomputed: the share unit's part (R101, R105, R106). -/
def boundaryShare (s : State) : State := recomputeShare (agePeers (request .demand s))

theorem epochBoundary_eq (s : State) :
    epochBoundary s = statInterval (recomputeInterval (recomputeHorizon (boundaryShare s))) := rfl

@[simp] theorem boundaryShare_frame (s : State) :
    (boundaryShare s).lane = s.lane ∧ (boundaryShare s).tracker = s.tracker ∧ (boundaryShare s).launch = s.launch ∧
    (boundaryShare s).pace = s.pace ∧ (boundaryShare s).line = (request .demand s).line ∧
    (boundaryShare s).station = s.station ∧ (boundaryShare s).report = s.report ∧ (boundaryShare s).cfg = s.cfg := by
  simp [boundaryShare]

theorem boundaryShare_share (s : State) :
    (boundaryShare s).share = { s.share with
      peers := s.share.peers.map Peer.grow
      share := shareOf s.cfg.floorShare (backlog s * s.cfg.laneClass.weight)
        ((((s.share.peers.map Peer.grow).drop (s.cfg.ordinal + 1)).map Peer.weight).sum)
      lastFree := s.share.freeCount
      freeCount := 0 } := by
  simp only [boundaryShare, request_eq]
  rfl

theorem recomputeHorizon_horizon (s : State) : (recomputeHorizon s).launch.horizon = nextHorizon s := by
  unfold recomputeHorizon reportHorizon
  split <;> simp

theorem recomputeHorizon_has (s : State) :
    (recomputeHorizon s).station.holds.horizon = decide (s.cfg.window - 1 < nextHorizon s) :=
  reportHorizon_has _

theorem recomputeHorizon_active (h : active s = true) : active (recomputeHorizon s) = true := by
  have hruns : (s.withLaunch { s.launch with horizon := nextHorizon s }).station.runs := active_iff.mp h
  refine active_iff.mpr ?_
  unfold recomputeHorizon reportHorizon
  split
  · exact addHold_runs _ hruns
  · exact removeHold_runs _ hruns

/-- Before the sixteenth boundary the STAT interval count rises, and nothing else changes (R179). -/
theorem statInterval_counts (h : s.report.statCount + 1 < 16) :
    statInterval s = s.withReport { s.report with statCount := s.report.statCount + 1 } := if_pos h

/-- At the sixteenth boundary the count starts again, and a STAT is offered (R179). -/
theorem statInterval_ends (h : 16 ≤ s.report.statCount + 1) :
    statInterval s = offerStat (s.withReport { s.report with statCount := 0 }) := if_neg (Nat.not_lt.mpr h)

theorem statInterval_report (s : State) :
    (statInterval s).report =
      { s.report with statCount := if s.report.statCount + 1 < 16 then s.report.statCount + 1 else 0 } := by
  by_cases h : s.report.statCount + 1 < 16
  · rw [statInterval_counts h, if_pos h]
    rfl
  · rw [statInterval_ends (by omega), if_neg h]
    simp

theorem mem_statInterval (hg : g ∈ s.line.queue) (hb : g.body ≠ .stat) : g ∈ (statInterval s).line.queue := by
  unfold statInterval
  split
  · exact hg
  · exact mem_offerStat (s := State.withReport _ _) hg hb

theorem exists_stat_offerStat (h : active s = true) : ∃ f ∈ (offerStat s).line.queue, f.body = .stat := by
  rw [offerStat, if_pos h]
  exact exists_stat_request s

theorem exists_demand_epochBoundary (s : State) : ∃ f ∈ (epochBoundary s).line.queue, f.body = .demand := by
  obtain ⟨f, hf, hb⟩ := exists_requested .demand s.line.queue
  have hjoined : f ∈ (boundaryShare s).line.queue := by simpa [request_eq] using hf
  refine ⟨f, mem_statInterval ?_ (by simp [hb]), hb⟩
  rw [(recomputeInterval_frame _).2.2.2.2.2.2.1]
  exact mem_reportHorizon (s := State.withLaunch _ _) hjoined (by rw [hb]; rfl) (by simp [hb])

/-- Settles O24, block by block: the share unit, H with its hold cause, I, and the STAT interval count. -/
theorem epochBoundaryWork : Obligations.EpochBoundaryWork := by
  unfold Obligations.EpochBoundaryWork
  intro s
  have hgrow : (Peer.grow : Peer → Peer) = fun p =>
      if p.presence = .absent then p
      else { p with age := min (p.age + 1) 4, presence := if p.age < 3 then p.presence else .absent } :=
    funext Peer.grow_eq
  have hweight : (Peer.weight : Peer → Nat) = fun p =>
      if p.presence = .active ∧ p.running = true then p.backlog * p.laneClass.weight else 0 :=
    funext Peer.weight_eq
  have hshare : (epochBoundary s).share = (boundaryShare s).share := by simp [epochBoundary_eq]
  have hhorizon : (epochBoundary s).launch.horizon = nextHorizon (boundaryShare s) := by
    simp [epochBoundary_eq, recomputeHorizon_horizon]
  refine ⟨exists_demand_epochBoundary s, ?share, ?pace, fun p hp => ?horizon, fun hp => ?keeps, ?has, ?report,
    fun hend ha => ?stat, fun hbefore hsame => ?calm, by simp⟩
  case share => rw [hshare, boundaryShare_share, shareOf_eq, hgrow, hweight]
  case pace =>
    rw [hshare]
    simp [epochBoundary_eq, recomputeInterval, period]
  case horizon =>
    rw [hhorizon]
    simp_all [nextHorizon, period, horizonWith]
  case keeps =>
    rw [hhorizon]
    simp_all [nextHorizon, period]
  case has =>
    rw [hhorizon]
    simpa [epochBoundary_eq] using recomputeHorizon_has (boundaryShare s)
  case report => simp [epochBoundary_eq, statInterval_report]
  case stat =>
    rw [epochBoundary_eq, statInterval_ends (by simpa using hend)]
    exact exists_stat_offerStat (recomputeHorizon_active (s := boundaryShare s) (by simpa [active] using ha))
  case calm =>
    have hquiet : recomputeHorizon (boundaryShare s) =
        (boundaryShare s).withLaunch { (boundaryShare s).launch with horizon := nextHorizon (boundaryShare s) } :=
      reportHorizon_of_same_holds (by simpa [epochBoundary_eq, recomputeHorizon] using hsame)
    rw [epochBoundary_eq, hquiet, statInterval_counts (by simpa using hbefore)]
    simp

end Sys2Proof.Machine
end

section

/-! PROOFS. The two-level rotation of the hold targets (R113, R114): O28. -/

namespace Sys2Proof.Machine

variable {s : State} {n pointer k j : Nat} {taken : Nat → Bool}

/-! ## The first position taken after the pointer (R114) -/

/-- How far position k stands behind the pointer's next position in a rotation of n. -/
def turnsTo (n pointer k : Nat) : Nat := (k + (n - 1) - pointer) % n

theorem turnsTo_position (hp : pointer < n) {i : Nat} (hi : i < n) :
    turnsTo n pointer ((pointer + 1 + i) % n) = i := by
  unfold turnsTo
  by_cases hwrap : pointer + 1 + i < n
  · rw [Nat.mod_eq_of_lt hwrap, show pointer + 1 + i + (n - 1) - pointer = i + n by omega,
      Nat.add_mod_right, Nat.mod_eq_of_lt hi]
  · have hround : (pointer + 1 + i) % n = pointer + 1 + i - n := by
      rw [Nat.mod_eq_sub_mod (by omega), Nat.mod_eq_of_lt (by omega)]
    rw [hround, show pointer + 1 + i - n + (n - 1) - pointer = i by omega, Nat.mod_eq_of_lt hi]

theorem position_turnsTo (hp : pointer < n) (hk : k < n) : (pointer + 1 + turnsTo n pointer k) % n = k := by
  unfold turnsTo
  by_cases hle : k ≤ pointer
  · have hturns : (k + (n - 1) - pointer) % n = k + (n - 1) - pointer := Nat.mod_eq_of_lt (by omega)
    rw [hturns, show pointer + 1 + (k + (n - 1) - pointer) = k + n by omega, Nat.add_mod_right,
      Nat.mod_eq_of_lt hk]
  · have hturns : (k + (n - 1) - pointer) % n = k + (n - 1) - pointer - n := by
      rw [Nat.mod_eq_sub_mod (by omega), Nat.mod_eq_of_lt (by omega)]
    rw [hturns, show pointer + 1 + (k + (n - 1) - pointer - n) = k by omega, Nat.mod_eq_of_lt hk]

theorem turnsTo_lt (hp : pointer < n) : turnsTo n pointer k < n := Nat.mod_lt _ (by omega)

/-- The rotation finds a position wherever one is taken. -/
theorem firstAfter_isSome (hp : pointer < n) (hk : k < n) (ht : taken k = true) :
    (firstAfter n pointer taken).isSome = true :=
  List.find?_isSome.mpr ⟨k, List.mem_map.mpr
    ⟨_, List.mem_range.mpr (turnsTo_lt hp), position_turnsTo hp hk⟩, ht⟩

/-- No taken position comes before the one that the rotation finds. -/
theorem firstAfter_first (hp : pointer < n) (h : firstAfter n pointer taken = some k) (hj : j < n)
    (ht : taken j = true) : turnsTo n pointer k ≤ turnsTo n pointer j := by
  obtain ⟨-, i, hi, rfl, hbefore⟩ := List.find?_eq_some_iff_getElem.mp h
  have hin : i < n := by simpa using hi
  rw [List.getElem_map, List.getElem_range, turnsTo_position hp hin]
  refine Nat.not_lt.mp fun hlt => ?_
  have hfree := hbefore (turnsTo n pointer j) hlt
  rw [List.getElem_map, List.getElem_range, position_turnsTo hp hj] at hfree
  simp [ht] at hfree

/-! ## Eligible peers and their places (R113, R114) -/

theorem eligible_iff (s : State) (k : LaneOrdinal) :
    eligible s k = true ↔ s.cfg.ordinal < k ∧ k ≤ 14 ∧ (peerOf s k).presence = .active ∧
      (peerOf s k).running = true ∧ s.cfg.starveThreshold ≤ (peerOf s k).starve := by
  have hroom : k < Config.stations ↔ k ≤ 14 := Nat.lt_succ_iff
  simp [eligible, Peer.eligible, hroom, and_assoc]

theorem eligibleClass_iff (c : LaneClass) :
    eligibleClass s c k = true ↔ eligible s k = true ∧ (peerOf s k).laneClass = c := by
  simp [eligibleClass]

/-- A peer's place in the upper rotation: its own for an express peer, 15 for the standard ones (R114). -/
def upperPlace (s : State) (k : LaneOrdinal) : Nat := if (peerOf s k).laneClass = .express then k else 15

theorem upperTaken_fifteen : upperTaken s 15 = true ↔ ∃ k, eligibleClass s .standard k = true := by
  have hlast : upperTaken s 15 = (List.range Config.stations).any (eligibleClass s .standard) := rfl
  rw [hlast, List.any_eq_true]
  refine exists_congr fun k => and_iff_right_of_imp fun h => List.mem_range.mpr ?_
  exact Nat.lt_succ_of_le ((eligible_iff s k).mp (eligibleClass_iff _ |>.mp h).1).2.1

theorem upperTaken_own (h : k ≠ 15) : upperTaken s k = eligibleClass s .express k := by
  simp [upperTaken, h]

theorem upperPlace_lt (h : eligible s k = true) : upperPlace s k < 16 := by
  obtain ⟨-, hk, -⟩ := (eligible_iff s k).mp h
  unfold upperPlace
  split
  · exact Nat.lt_of_le_of_lt hk (by decide)
  · decide

theorem upperPlace_taken (h : eligible s k = true) : upperTaken s (upperPlace s k) = true := by
  obtain ⟨-, hk, -⟩ := (eligible_iff s k).mp h
  unfold upperPlace
  split
  next hc => rw [upperTaken_own (Nat.ne_of_lt (Nat.lt_succ_of_le hk)), eligibleClass_iff]; exact ⟨h, hc⟩
  next hc =>
    refine upperTaken_fifteen.mpr ⟨k, (eligibleClass_iff _).mpr ⟨h, ?_⟩⟩
    cases hclass : (peerOf s k).laneClass with
    | standard => rfl
    | express => exact absurd hclass hc

/-! ## The target (R113, R114) -/

/-- A choice is the first express place taken, or the first standard peer at place 15. -/
theorem chooseTarget_eq_some {c : Choice} (h : chooseTarget s = some c) :
    firstAfter 16 s.share.upper (upperTaken s) = some c.position ∧
      (c.position ≠ 15 ∧ c.target = c.position ∧ eligibleClass s .express c.target = true ∨
        c.position = 15 ∧ firstAfter 15 s.share.lower (eligibleClass s .standard) = some c.target) := by
  unfold chooseTarget at h
  split at h
  next => cases h
  next p hp =>
    split at h
    next he =>
      obtain ⟨k, hk, rfl⟩ := Option.map_eq_some_iff.mp h
      rw [beq_iff_eq.mp he] at hp
      exact ⟨hp, .inr ⟨rfl, hk⟩⟩
    next hne =>
      cases h
      have hne' : p ≠ 15 := fun he => hne (beq_iff_eq.mpr he)
      exact ⟨hp, .inl ⟨hne', rfl, (upperTaken_own hne').symm.trans (firstAfter_taken hp)⟩⟩

theorem chooseTarget_isSome (hs : ShareBounds s.share) (h : eligible s k = true) :
    (chooseTarget s).isSome = true := by
  have hupper := hs.upper
  have hlower := hs.lower
  obtain ⟨p, hp⟩ := Option.isSome_iff_exists.mp
    (firstAfter_isSome (pointer := s.share.upper) (by omega) (upperPlace_lt h) (upperPlace_taken h))
  unfold chooseTarget
  rw [hp]
  dsimp only
  split
  next he =>
    have htaken := firstAfter_taken hp
    rw [beq_iff_eq.mp he, upperTaken_fifteen] at htaken
    obtain ⟨j, hj⟩ := htaken
    obtain ⟨-, hj15, -⟩ := (eligible_iff s j).mp ((eligibleClass_iff _).mp hj).1
    simpa using firstAfter_isSome (pointer := s.share.lower) (by omega) (Nat.lt_succ_of_le hj15) hj
  next => rfl

theorem chooseTarget_class {c : Choice} (h : chooseTarget s = some c) :
    eligible s c.target = true ∧
      (c.position = c.target ∧ (peerOf s c.target).laneClass = .express ∨
        c.position = 15 ∧ (peerOf s c.target).laneClass = .standard) := by
  obtain ⟨-, ⟨-, ht, hclass⟩ | ⟨hp, hclass⟩⟩ := chooseTarget_eq_some h
  · obtain ⟨he, hc⟩ := (eligibleClass_iff _).mp hclass
    exact ⟨he, .inl ⟨ht.symm, hc⟩⟩
  · obtain ⟨he, hc⟩ := (eligibleClass_iff _).mp (firstAfter_taken hclass)
    exact ⟨he, .inr ⟨hp, hc⟩⟩

/-- Settles O28: in a rotation the first position found is the nearest one taken. -/
theorem holdTargetsAreEligible : Obligations.HoldTargetsAreEligible := by
  unfold Obligations.HoldTargetsAreEligible
  refine ⟨fun s hs => ⟨fun ⟨k, h⟩ => chooseTarget_isSome hs h, fun h => ?_⟩, eligible_iff, fun s c hs h => ?_⟩
  · obtain ⟨c, hc⟩ := Option.isSome_iff_exists.mp h
    exact ⟨c.target, (chooseTarget_class hc).1⟩
  · obtain ⟨hfirst, hlow⟩ := chooseTarget_eq_some h
    obtain ⟨heligible, hclass⟩ := chooseTarget_class h
    refine ⟨heligible, hclass, (chooseTarget_bounds h).1, fun k hk => ?_, fun hp k hk hstandard => ?_⟩
    · exact firstAfter_first (Nat.lt_succ_of_le hs.upper) hfirst (upperPlace_lt hk) (upperPlace_taken hk)
    · obtain ⟨hne, -⟩ | ⟨-, hlower⟩ := hlow
      · exact absurd hp hne
      · exact firstAfter_first (Nat.lt_succ_of_le hs.lower) hlower
          (Nat.lt_succ_of_le ((eligible_iff s k).mp hk).2.1) ((eligibleClass_iff _).mpr ⟨hk, hstandard⟩)

end Sys2Proof.Machine
end

section

/-! PROOFS. The peer table: placed holds that expire or are taken, and DEMANDs (R99, R100, R117, R118): O29, O30. -/

namespace Sys2Proof.Machine

variable {s : State} {p : Peer} {lower upper : List Peer} {j : LaneOrdinal}

/-! ## One entry of the peer table (R98) -/

theorem modify_length_append_cons {α : Type} (l : List α) (x : α) (u : List α) (f : α → α) :
    (l ++ x :: u).modify l.length f = l ++ f x :: u := by
  induction l with
  | nil => rfl
  | cons y l ih => simpa using ih

theorem updatePeer_split (f : Peer → Peer) (hp : s.share.peers = lower ++ p :: upper) (hj : lower.length = j) :
    updatePeer j f s = { s with share := { s.share with peers := lower ++ f p :: upper } } := by
  subst hj
  rw [updatePeer, hp, modify_length_append_cons]
  rfl

theorem peerOf_split (hp : s.share.peers = lower ++ p :: upper) (hj : lower.length = j) : peerOf s j = p := by
  subst hj
  simp [peerOf, hp]

/-! ## A lapse (R118) -/

/-- The second lapse of an Active peer makes it Lax, and no other does. -/
theorem Peer.lapse_becomes_lax (p : Peer) :
    (p.presence == .active && p.lapse.presence == .lax) = (p.presence == .active && min (p.lapses + 1) 2 == 2) := by
  have hmax : Config.lapseMax = 2 := rfl
  cases hp : p.presence
  case active => by_cases h : min (p.lapses + 1) 2 = 2 <;> simp [Peer.lapse, hp, hmax, h]
  all_goals rfl

theorem Peer.lapse_eq (p : Peer) :
    p.lapse = { p with
      lapses := min (p.lapses + 1) 2
      presence := if p.presence = .active ∧ min (p.lapses + 1) 2 = 2 then .lax else p.presence } := by
  have hmax : Config.lapseMax = 2 := rfl
  simp [Peer.lapse, hmax]

theorem recordLapse_split (hp : s.share.peers = lower ++ p :: upper) (hj : lower.length = j) :
    recordLapse j s = { s with
      share := { s.share with peers := lower ++ p.lapse :: upper }
      report := { s.report with
        counters := s.report.counters.raise .lapses
        flags := { s.report.flags with
          laxPeer := s.report.flags.laxPeer || (p.presence == .active && min (p.lapses + 1) 2 == 2) } } } := by
  have hafter : peerOf (raise .lapses (updatePeer j Peer.lapse s)) j = p.lapse := by
    rw [updatePeer_split _ hp hj]
    exact peerOf_split (s := State.withReport _ _) rfl hj
  unfold recordLapse
  dsimp only
  rw [hafter, peerOf_split hp hj, Peer.lapse_becomes_lax, updatePeer_split _ hp hj]
  split
  next h => rw [h, Bool.or_true]; rfl
  next h => rw [Bool.not_eq_true] at h; rw [h, Bool.or_false]; rfl

/-! ## Expiry (R118) -/

/-- The only entry at its expiry count leaves, with a lapse where its frame was sent. -/
theorem expireHolds_one {e : Tray} {h : PlacedHold} {before after : List PlacedHold}
    (hheld : s.share.held = before ++ h :: after) (he : h.expiry = e)
    (hothers : ∀ q ∈ before ++ after, q.expiry ≠ e) :
    expireHolds e s =
      if h.sent then recordLapse h.target { s with share := { s.share with held := before ++ after } }
      else { s with share := { s.share with held := before ++ after } } := by
  have hnone (l : List PlacedHold) (hl : ∀ q ∈ l, q.expiry ≠ e) :
      l.filter (fun h => h.expiry == e && h.sent) = [] ∧ l.filter (fun h => h.expiry != e) = l :=
    ⟨List.filter_eq_nil_iff.mpr fun q hq => by simp [hl q hq], List.filter_eq_self.mpr fun q hq => by simp [hl q hq]⟩
  obtain ⟨hbefore, hbefore'⟩ := hnone before fun q hq => hothers q (List.mem_append_left _ hq)
  obtain ⟨hafter, hafter'⟩ := hnone after fun q hq => hothers q (List.mem_append_right _ hq)
  unfold expireHolds
  simp only [hheld, List.filter_append, List.filter_cons, hbefore, hafter, hbefore', hafter', he]
  cases h.sent <;> simp <;> rfl

/-! ## A CLAIM from downstream (R117) -/

/-- The sender's entry after its CLAIM: `matched` tells that one of its holds was taken (R117). -/
def clearLapses (j : LaneOrdinal) (matched : Bool) (s : State) : State :=
  let s := if matched then updatePeer j (fun p => { p with lapses := 0 }) s else s
  if (peerOf s j).presence == .lax then updatePeer j (fun p => { p with presence := .active, lapses := 0 }) s else s

theorem clearLapses_eq (matched : Bool) (hp : s.share.peers = lower ++ p :: upper) (hj : lower.length = j) :
    clearLapses j matched s = { s with share := { s.share with peers := lower ++
      { p with
        presence := if p.presence = .lax then .active else p.presence
        lapses := if p.presence = .lax ∨ matched = true then 0 else p.lapses } :: upper } } := by
  unfold clearLapses
  dsimp only
  cases matched with
  | true =>
    rw [if_pos rfl, updatePeer_split _ hp hj, peerOf_split (lower := lower) rfl hj]
    by_cases hlax : p.presence = .lax
    · rw [if_pos (by simp [hlax]), updatePeer_split (lower := lower) _ rfl hj, if_pos hlax, if_pos (.inl hlax)]
    · rw [if_neg (by simp [hlax]), if_neg hlax, if_pos (.inr rfl)]
  | false =>
    rw [if_neg Bool.false_ne_true, peerOf_split hp hj]
    by_cases hlax : p.presence = .lax
    · rw [if_pos (by simp [hlax]), updatePeer_split _ hp hj, if_pos hlax, if_pos (.inl hlax)]
    · rw [if_neg (by simp [hlax]), if_neg hlax, if_neg (by simp [hlax]), ← hp]

theorem takeDownstreamClaim_split (trays : List Tray) (hp : s.share.peers = lower ++ p :: upper)
    (hj : lower.length = j) :
    takeDownstreamClaim j trays s =
      { s with share := { s.share with
        held := s.share.held.filter (fun h => !(h.target == j && trays.contains h.tray))
        peers := lower ++
          { p with
            presence := if p.presence = .lax then .active else p.presence
            lapses := if p.presence = .lax ∨
                s.share.held.any (fun h => h.target == j && trays.contains h.tray) = true then 0 else p.lapses } ::
            upper } } := by
  exact clearLapses_eq (s := s.withShare { s.share with
    held := s.share.held.filter (fun h => !(h.target == j && trays.contains h.tray)) }) _ hp hj

/-- Settles O29, from the one entry that each case changes. -/
theorem holdsExpireOrAreTaken : Obligations.HoldsExpireOrAreTaken := by
  unfold Obligations.HoldsExpireOrAreTaken
  refine ⟨fun s e h before after p lower upper hheld he hothers hp hj => ?_,
    fun s j trays p lower upper hp hj => takeDownstreamClaim_split trays hp hj⟩
  rw [expireHolds_one hheld he hothers]
  refine ⟨fun hsent => by rw [hsent]; rfl, fun hsent => ?_⟩
  rw [if_pos hsent]
  refine (recordLapse_split (s := { s with share := { s.share with held := before ++ after } }) hp hj).trans ?_
  rw [Peer.lapse_eq]

/-! ## A DEMAND (R99, R100) -/

theorem offsetBefore_iff (trays o m : Nat) :
    offsetBefore trays o m = true ↔ 1 ≤ traySub trays o m ∧ traySub trays o m ≤ trays / 2 := by
  simp [offsetBefore]

theorem orderClashes_iff (c : Settings) (k : LaneOrdinal) (m : Nat) :
    orderClashes c k m = true ↔
      k < c.ordinal ∧ ¬ (1 ≤ traySub c.trays c.offset m ∧ traySub c.trays c.offset m ≤ c.trays / 2) ∨
        c.ordinal < k ∧ (1 ≤ traySub c.trays c.offset m ∧ traySub c.trays c.offset m ≤ c.trays / 2) := by
  rw [← offsetBefore_iff]
  simp [orderClashes]

theorem Peer.accept_eq (trays : Nat) (d : DemandReport) (p : Peer) :
    p.accept trays d =
      { presence := if p.presence = .lax then .lax else .active
        laneClass := d.laneClass
        offset := some (d.offset % trays)
        backlog := min d.backlog 4
        starve := d.starve
        running := d.running
        age := 0
        lapses := if p.presence = .absent then 0 else p.lapses } := by
  unfold Peer.accept
  cases p.presence <;> rfl

/-- Settles O30: a DEMAND is accepted or clashes with the order of the bank. -/
theorem demandsFillThePeerTable : Obligations.DemandsFillThePeerTable := by
  unfold Obligations.DemandsFillThePeerTable
  intro s k d p lower upper hp hk
  refine ⟨fun h => ?_, fun h => ?_⟩
  · rw [takeDemand, if_neg (mt (orderClashes_iff _ _ _).mp h), updatePeer_split _ hp hk, Peer.accept_eq]
  · rw [takeDemand, if_pos ((orderClashes_iff _ _ _).mpr h), updatePeer_split _ hp hk]
    rfl

end Sys2Proof.Machine
end

section

/-! PROOFS. What the transmit queue does with what it is offered (R69 to R71): O40. -/

namespace Sys2Proof.Machine

variable {s : State} {f : TxFrame} {before after : List TxFrame}

/-! ## A VACATE's offer (R69) -/

/-- A frame that a VACATE can displace: a HOLD that waits. -/
def TxFrame.isWaitingHold (f : TxFrame) : Bool := f.body.isHold && !f.inPassage

theorem offerVacate_of_room (t : Tray) (span : Span) (h : s.line.queue.countP (·.body.isHoldOrVacate) < 5) :
    offerVacate t span s =
      { s with line := { s.line with queue := s.line.queue ++ [.fresh (.vacate t span 8)] } } := by
  have hroom : holdAdmitted s = true := decide_eq_true h
  rw [offerVacate, if_pos hroom]
  rfl

theorem not_holdAdmitted (h : 5 ≤ s.line.queue.countP (·.body.isHoldOrVacate)) : ¬ holdAdmitted s = true :=
  fun hroom => absurd (of_decide_eq_true hroom) (Nat.not_lt.mpr h)

theorem displacedHold_none (h : ∀ g ∈ s.line.queue, g.isWaitingHold = false) : displacedHold s = none := by
  refine List.findSome?_eq_none_iff.mpr fun g hg => ?_
  have hno := h g hg
  cases hb : g.body <;> simp_all [TxFrame.isWaitingHold, TxBody.isHold]

theorem displacedHold_first {h : Tray} {j : LaneOrdinal} (hq : s.line.queue = before ++ f :: after)
    (hf : f.body = .hold h j) (hwaits : f.inPassage = false) (hbefore : ∀ g ∈ before, g.isWaitingHold = false) :
    displacedHold s = some h := by
  have hnone := displacedHold_none (s := { s with line := { s.line with queue := before } }) hbefore
  rw [displacedHold, hq, List.findSome?_append]
  rw [displacedHold] at hnone
  simp [hnone, hf, hwaits]

theorem offerVacate_displaces (t : Tray) (span : Span) {h : Tray} {j : LaneOrdinal}
    (hfull : 5 ≤ s.line.queue.countP (·.body.isHoldOrVacate)) (hq : s.line.queue = before ++ f :: after)
    (hf : f.body = .hold h j) (hwaits : f.inPassage = false) (hbefore : ∀ g ∈ before, g.isWaitingHold = false) :
    offerVacate t span s = { s with
      line := { s.line with queue := (before ++ after) ++ [.fresh (.vacate t span 8)] }
      share := { s.share with held := s.share.held.filter (fun x => x.tray != h) } } := by
  have herase : s.line.queue.eraseP (fun f => f.body.isHold && !f.inPassage) = before ++ after := by
    rw [hq]
    exact eraseP_split _ before after f hbefore (by simp [hf, hwaits, TxBody.isHold])
  rw [offerVacate, if_neg (not_holdAdmitted hfull), displacedHold_first hq hf hwaits hbefore]
  dsimp only
  rw [herase]
  rfl

theorem offerVacate_dropped (t : Tray) (span : Span) (hfull : 5 ≤ s.line.queue.countP (·.body.isHoldOrVacate))
    (hnone : ∀ g ∈ s.line.queue, g.isWaitingHold = false) : offerVacate t span s = s := by
  rw [offerVacate, if_neg (not_holdAdmitted hfull), displacedHold_none hnone]

theorem isWaitingHold_false (h : f.body.isHold = true → f.inPassage = true) : f.isWaitingHold = false := by
  cases hb : f.body.isHold <;> simp_all [TxFrame.isWaitingHold]

/-! ## An offer of a DEMAND or STAT (R70) -/

theorem request_joins {b : TxBody} (h : ∀ f ∈ s.line.queue, f.body ≠ b) :
    request b s = { s with line := { s.line with queue := s.line.queue ++ [.fresh b] } } := by
  rw [request_eq, requested, if_neg (by simpa using h)]

theorem request_renews {b : TxBody} (hq : s.line.queue = before ++ f :: after) (hf : f.body = b)
    (hbefore : ∀ g ∈ before, g.body ≠ b) :
    request b s = { s with line := { s.line with
      queue := before ++ { f with renewed := f.renewed || f.inPassage } :: after } } := by
  rw [request_eq, requested, if_pos (by simp [hq, hf]), hq,
    modifyFirst_split _ _ _ _ _ (by simpa using hbefore) (by simp [hf])]

/-- Settles O40, from the rules of R69 to R71, one for each case. -/
theorem offersJoinTheQueue : Obligations.OffersJoinTheQueue := by
  unfold Obligations.OffersJoinTheQueue
  exact ⟨fun _ t span => offerVacate_of_room t span,
    fun _ t _ _ span _ _ _ hfull hq hf hwaits hbefore =>
      offerVacate_displaces t span hfull hq hf hwaits fun g hg => isWaitingHold_false (hbefore g hg),
    fun _ t span hfull hnone => offerVacate_dropped t span hfull fun g hg => isWaitingHold_false (hnone g hg),
    fun _ _ => request_joins, fun _ _ _ _ _ => request_renews, fun s p f => mem_askRemoval p s f⟩

end Sys2Proof.Machine
end

section

/-! PROOFS. The frames of the lane line: what is built reads back (R62 to R65, R183, R184): O42. -/

namespace Sys2Proof.Machine

variable {s : State}

/-! ## Values and fields (R183) -/

theorem foldl_bitsNat (bits : Bits) (a : Nat) :
    bits.foldl (fun n b => 2 * n + b.toNat) a = a * 2 ^ bits.length + bitsNat bits := by
  unfold bitsNat
  induction bits generalizing a with
  | nil => simp
  | cons b bits ih =>
    rw [List.foldl_cons, List.foldl_cons, ih, ih (2 * 0 + b.toNat), List.length_cons, Nat.pow_succ]
    ring

theorem bitsNat_cons (b : Bool) (bits : Bits) : bitsNat (b :: bits) = b.toNat * 2 ^ bits.length + bitsNat bits := by
  rw [bitsNat, List.foldl_cons, foldl_bitsNat]
  simp

/-- The bits of a value that has room in them read back as the value. -/
theorem bitsNat_natBits {w n : Nat} (h : n < 2 ^ w) : bitsNat (natBits w n) = n := by
  have hmod : bitsNat (natBits w n) = n % 2 ^ w := by
    clear h
    induction w with
    | zero => simp [natBits, bitsNat, Nat.mod_one]
    | succ w ih =>
      rw [natBits, bitsNat_cons, length_natBits, ih, Nat.mod_pow_succ, Nat.toNat_testBit]
      ring
  rw [hmod, Nat.mod_eq_of_lt h]

/-! ## The checks of R62 to R65 on a frame of a known kind -/

theorem kindOf_withKind (kind : Kind) (rest : Bits) : kindOf (withKind kind rest) = some kind := by
  cases kind <;> rfl

theorem withKind_frameRest (kind : Kind) (sender : LaneOrdinal) (fields : Bits) :
    withKind kind (frameRest kind sender fields) = frameBits kind sender fields := by
  cases kind <;> rfl

theorem senderOf_frameBits (kind : Kind) {sender : LaneOrdinal} (fields : Bits) (h : sender ≤ 15) :
    senderOf (frameBits kind sender fields) = sender := by
  have hsender : senderOf (frameBits kind sender fields) = bitsNat (natBits 4 sender) := by cases kind <;> rfl
  rw [hsender, bitsNat_natBits (Nat.lt_succ_of_le h)]

theorem kindOf_frameBits (kind : Kind) (sender : LaneOrdinal) (fields : Bits) :
    kindOf (frameBits kind sender fields) = some kind := by
  rw [← withKind_frameRest, kindOf_withKind]

theorem length_frameBits (kind : Kind) (sender : LaneOrdinal) (fields : Bits) :
    (frameBits kind sender fields).length = fields.length + 15 := by
  simp [frameBits, checkField, length_natBits]
  omega

/-- A frame that a station builds passes the checks of R62 to R64 at every other station (R65). -/
theorem screen_frameBits (own : LaneOrdinal) {kind : Kind} {sender : LaneOrdinal} {fields : Bits}
    (hkind : kind ≠ .bank) (hl : fields.length + 15 = kind.length) (hs : sender ≤ 14) :
    screen own (frameBits kind sender fields) = if sender = own then .clash else .pass := by
  have hsender := senderOf_frameBits kind fields (Nat.le_succ_of_le hs)
  have hlength : lengthFits (frameBits kind sender fields) = true := by
    simp [lengthFits, kindOf_frameBits, length_frameBits, hl]
  have hcheck : checkPasses (frameBits kind sender fields) = true := checkPasses_checkField _
  have hfits : kindFits (frameBits kind sender fields) = true := by
    have hpanel : sender ≠ Config.panel := Nat.ne_of_lt (Nat.lt_succ_of_le hs)
    cases kind <;> simp_all [kindFits, kindOf_frameBits]
  simp [screen, hlength, hcheck, hfits, hsender]

/-- A BANK frame of the panel that carries a known order passes the checks at every station (R64, R74). -/
theorem screen_bankFrame {own target order limit : Nat} (hown : own ≤ 14) (horder : order ≤ 2) :
    screen own (frameBits .bank 15 (bankFields target order limit)) = .pass := by
  have hsender := senderOf_frameBits .bank (sender := 15) (bankFields target order limit) (Nat.le_refl 15)
  have hlength : lengthFits (frameBits .bank 15 (bankFields target order limit)) = true := by
    simp [lengthFits, kindOf_frameBits, length_frameBits, bankFields, length_natBits, Kind.length]
  have hcheck : checkPasses (frameBits .bank 15 (bankFields target order limit)) = true := checkPasses_checkField _
  have hcode : bankOrderOf (frameBits .bank 15 (bankFields target order limit)) = order :=
    (rfl : _ = bitsNat (natBits 2 order)).trans (bitsNat_natBits (Nat.lt_succ_of_le (Nat.le_succ_of_le horder)))
  have hfits : kindFits (frameBits .bank 15 (bankFields target order limit)) = true := by
    simp only [kindFits, kindOf_frameBits, hsender, hcode, Config.panel]
    simp
    omega
  have hother : (15 : LaneOrdinal) ≠ own := (Nat.ne_of_lt (Nat.lt_succ_of_le hown)).symm
  simp [screen, hlength, hcheck, hfits, hsender, hother]

/-! ## Each kind reads back (R183) -/

theorem trayOf_spanFrame (kind : Kind) (sender : LaneOrdinal) {tray : Nat} (span : Span) (h : tray ≤ 4095) :
    trayOf (frameBits kind sender (spanFields tray span)) = tray :=
  (rfl : _ = bitsNat (natBits 12 tray)).trans (bitsNat_natBits (Nat.lt_succ_of_le h))

theorem spanOf_spanFrame (kind : Kind) (sender : LaneOrdinal) (tray : Nat) (span : Span) :
    spanOf (frameBits kind sender (spanFields tray span)) = span := by
  show Span.ofBit span.bit = span
  cases span <;> rfl

theorem trayOf_holdFrame (sender : LaneOrdinal) {tray : Nat} (target : LaneOrdinal) (h : tray ≤ 4095) :
    trayOf (frameBits .hold sender (holdFields tray target)) = tray :=
  (rfl : _ = bitsNat (natBits 12 tray)).trans (bitsNat_natBits (Nat.lt_succ_of_le h))

theorem holdTargetOf_holdFrame (sender : LaneOrdinal) (tray : Nat) {target : LaneOrdinal} (h : target ≤ 15) :
    holdTargetOf (frameBits .hold sender (holdFields tray target)) = target :=
  (rfl : _ = bitsNat (natBits 4 target)).trans (bitsNat_natBits (Nat.lt_succ_of_le h))

theorem bankTargetOf_bankFrame {target : LaneOrdinal} (order limit : Nat) (h : target ≤ 15) :
    bankTargetOf (frameBits .bank 15 (bankFields target order limit)) = target :=
  (rfl : _ = bitsNat (natBits 4 target)).trans (bitsNat_natBits (Nat.lt_succ_of_le h))

theorem bankOrderOf_bankFrame (target : LaneOrdinal) {order : Nat} (limit : Nat) (h : order ≤ 3) :
    bankOrderOf (frameBits .bank 15 (bankFields target order limit)) = order :=
  (rfl : _ = bitsNat (natBits 2 order)).trans (bitsNat_natBits (Nat.lt_succ_of_le h))

theorem bankLimitOf_bankFrame (target : LaneOrdinal) (order : Nat) {limit : Nat} (h : limit ≤ 63) :
    bankLimitOf (frameBits .bank 15 (bankFields target order limit)) = limit :=
  (rfl : _ = bitsNat (natBits 6 limit)).trans (bitsNat_natBits (Nat.lt_succ_of_le h))

theorem demandOf_demandFrame (sender : LaneOrdinal) (c : LaneClass) {offset backlog starve : Nat} (running : Bool)
    (ho : offset ≤ 4095) (hb : backlog ≤ 7) (hs : starve ≤ 255) :
    demandOf (frameBits .demand sender (demandFields c offset backlog starve running)) =
      ⟨c, offset, backlog, starve, running⟩ := by
  have hread : demandOf (frameBits .demand sender (demandFields c offset backlog starve running)) =
      ⟨if c.bit then .express else .standard, bitsNat (natBits 12 offset), bitsNat (natBits 3 backlog),
        bitsNat (natBits 8 starve), running⟩ := rfl
  rw [hread, bitsNat_natBits (Nat.lt_succ_of_le ho), bitsNat_natBits (Nat.lt_succ_of_le hb),
    bitsNat_natBits (Nat.lt_succ_of_le hs)]
  cases c <;> rfl

/-! ## A STAT (R180, R184) -/

theorem length_statCounters (r : Report) : (statCounters r).length = 5 := by
  simp [statCounters]

theorem length_statFields (s : State) : (statFields s).length = 139 := by
  simp [statFields, HoldSet.bits, flagOrder, length_natBits, List.length_flatMap, length_statCounters]

/-- The five slots of the counters that a STAT carries (R180). -/
theorem statCounters_eq (r : Report) :
    statCounters r = match r.group with
      | 0 => [r.counters.inductions, r.counters.rejects, r.counters.withdrawals, r.counters.abandons,
          r.counters.noiseBlocks]
      | 1 => [r.counters.badScans, r.counters.orphanScans, r.counters.scanOverruns, r.counters.noReads, 0]
      | 2 => [r.counters.frameErrors, r.counters.lateNotices, r.counters.pendingOverflows, 0, 0]
      | 3 => [r.counters.orderClashes, r.counters.lapses, r.counters.holdsPlaced, 0, 0]
      | _ => [r.counters.timingFaults, r.counters.homeMismatches, r.counters.launchWarnings, 0, 0] := by
  unfold statCounters
  split <;> simp_all [counterGroup, Counters.get]

theorem statCounters_le {r : Report} (hr : ReportBounds r) {n : Nat} (h : n ∈ statCounters r) : n ≤ 65535 := by
  rcases List.mem_append.mp (List.mem_of_mem_take h) with h | h
  · obtain ⟨c, -, rfl⟩ := List.mem_map.mp h
    exact hr.counters c
  · rw [List.eq_of_mem_replicate h]
    exact Nat.zero_le _

/-- The counter slots of a STAT read back (R180, R184). -/
theorem field_statFields_counters (hr : ReportBounds s.report) :
    [0, 1, 2, 3, 4].map (fun i => field (statFields s) (27 + 16 * i) 16) = statCounters s.report := by
  have hbound (n : Nat) (h : n ∈ statCounters s.report) : bitsNat (natBits 16 n) = n :=
    bitsNat_natBits (Nat.lt_succ_of_le (statCounters_le hr h))
  unfold statFields
  match hc : statCounters s.report, length_statCounters s.report with
  | [a, b, c, d, e], _ =>
    rw [hc] at hbound
    show [bitsNat (natBits 16 a), bitsNat (natBits 16 b), bitsNat (natBits 16 c), bitsNat (natBits 16 d),
      bitsNat (natBits 16 e)] = _
    simp [hbound]

/-- The fields of a STAT before and after its counters (R184). -/
theorem field_statFields (s : State) :
    field (statFields s) 0 2 = bitsNat (natBits 2 s.station.mode.code) ∧
    ((statFields s).drop 2).take 4 = s.station.holds.bits ∧
    field (statFields s) 6 4 = bitsNat (natBits 4 s.station.cause.code) ∧
    ((statFields s).drop 10).take 14 = flagOrder.map s.report.flags.get ∧
    field (statFields s) 24 3 = bitsNat (natBits 3 s.report.group) ∧
    field (statFields s) 107 16 = bitsNat (natBits 16 s.cfg.intervalMin) ∧
    field (statFields s) 123 16 = bitsNat (natBits 16 s.pace.interval) := by
  unfold statFields
  match hc : statCounters s.report, length_statCounters s.report with
  | [_, _, _, _, _], _ => exact ⟨rfl, rfl, rfl, rfl, rfl, rfl, rfl⟩

/-- Settles O42: the fields stand where R183 and R184 put them, and the check field passes the check. -/
theorem framesReadBack : Obligations.FramesReadBack := by
  unfold Obligations.FramesReadBack
  refine ⟨fun own sender tray span kind hs ht hkind => ?spans, fun own sender tray target hs ht htarget => ?hold,
    fun own target order limit hown htarget horder hlimit => ?bank,
    fun own sender c offset backlog starve running hs ho hb hstarve => ?demand, fun s own hs => ?stat,
    fun s hc hr hp => ?fields⟩
  case spans =>
    have hl : (spanFields tray span).length + 15 = kind.length := by rcases hkind with rfl | rfl <;> rfl
    have hbank : kind ≠ .bank := by rcases hkind with rfl | rfl <;> decide
    exact ⟨screen_frameBits own hbank hl hs, kindOf_frameBits _ _ _, senderOf_frameBits _ _ (Nat.le_succ_of_le hs),
      trayOf_spanFrame _ _ _ ht, spanOf_spanFrame _ _ _ _⟩
  case hold =>
    exact ⟨screen_frameBits own (by decide) rfl hs, kindOf_frameBits _ _ _,
      senderOf_frameBits _ _ (Nat.le_succ_of_le hs), trayOf_holdFrame _ _ ht, holdTargetOf_holdFrame _ _ htarget⟩
  case bank =>
    exact ⟨screen_bankFrame hown horder, kindOf_frameBits _ _ _, senderOf_frameBits _ _ (Nat.le_refl 15),
      bankTargetOf_bankFrame _ _ htarget, bankOrderOf_bankFrame _ _ (Nat.le_succ_of_le horder),
      bankLimitOf_bankFrame _ _ hlimit⟩
  case demand =>
    exact ⟨screen_frameBits own (by decide) rfl hs, kindOf_frameBits _ _ _,
      senderOf_frameBits _ _ (Nat.le_succ_of_le hs), demandOf_demandFrame _ _ _ ho hb hstarve⟩
  case stat =>
    exact ⟨screen_frameBits own (by decide) (by rw [length_statFields]; rfl) hs, kindOf_frameBits _ _ _,
      senderOf_frameBits _ _ (Nat.le_succ_of_le hs)⟩
  case fields =>
    obtain ⟨hmode, hholds, hcause, hflags, hgroup, hmin, hinterval⟩ := field_statFields s
    refine ⟨length_statFields s, hmode.trans ?_, hholds, hcause.trans ?_, hflags, hgroup.trans ?_, ?_, hmin.trans ?_,
      hinterval.trans ?_⟩
    · cases s.station.mode <;> rfl
    · cases s.station.cause with
      | jam z => cases z <;> rfl
      | _ => rfl
    · exact bitsNat_natBits (Nat.lt_of_lt_of_le hr.group (by decide))
    · exact (field_statFields_counters hr).trans (statCounters_eq _)
    · exact bitsNat_natBits (Nat.lt_of_le_of_lt hc.intervalMin.2 (by decide))
    · exact bitsNat_natBits (Nat.lt_of_le_of_lt hp.interval (by decide))

end Sys2Proof.Machine
end

section

/-! PROOFS. What comes of a frame that arrives: discards, clashes and received notices (R61 to R66, R74): O43, O44,
O45, O48. -/

namespace Sys2Proof.Machine

variable {s : State} {a : Arrival} {bits rest : Bits} {take : State → State} {frame : Heard Bits}
  {act : Bits → State → State} {order : Nat}

/-! ## The outcomes of the checks (R61 to R66) -/

theorem receiveFrame_absent (h : ¬ FrameArrives s a bits) : receiveFrame a bits take s = s := by
  rw [receiveFrame, if_neg (mt (completes_iff _ _ _).mp h)]

theorem receiveFrame_discard (h : FrameArrives s a bits) (hd : screen s.cfg.ordinal bits = .discard) :
    receiveFrame a bits take s = s.errored := by
  rw [receiveFrame, if_pos ((completes_iff _ _ _).mpr h), hd]
  rfl

theorem receiveFrame_clash (h : FrameArrives s a bits) (hc : screen s.cfg.ordinal bits = .clash) :
    receiveFrame a bits take s = ordinalClash s.waiting := by
  rw [receiveFrame, if_pos ((completes_iff _ _ _).mpr h), hc]
  rfl

theorem receiveFrame_pass (h : FrameArrives s a bits) (hp : screen s.cfg.ordinal bits = .pass) :
    receiveFrame a bits take s = take s.waiting := by
  rw [receiveFrame, if_pos ((completes_iff _ _ _).mpr h), hp]
  rfl

/-- A BANK row refuses a passing frame of another order alone (log entry 8). -/
theorem receiveBank_of_not_other (h : ¬ (FrameArrives s frame.arrival (withKind .bank frame.what) ∧
      screen s.cfg.ordinal (withKind .bank frame.what) = .pass ∧ bankOrderOf (withKind .bank frame.what) ≠ order)) :
    receiveBank order frame act s = .next (receiveFrame frame.arrival (withKind .bank frame.what)
      (fun s => if bankForUs (withKind .bank frame.what) s then act (withKind .bank frame.what) s else s) s) := by
  rw [receiveBank]
  refine if_neg ?_
  simpa only [Bool.and_eq_true, completes_iff, beq_iff_eq, bne_iff_ne, and_assoc] using h

theorem receiveBank_other (h : FrameArrives s frame.arrival (withKind .bank frame.what))
    (hp : screen s.cfg.ordinal (withKind .bank frame.what) = .pass)
    (ho : bankOrderOf (withKind .bank frame.what) ≠ order) :
    receiveBank order frame act s = .refused .anotherBankOrder := by
  rw [receiveBank]
  refine if_pos ?_
  simpa only [Bool.and_eq_true, completes_iff, beq_iff_eq, bne_iff_ne, and_assoc] using And.intro h ⟨hp, ho⟩

theorem receiveBank_absent (h : ¬ FrameArrives s frame.arrival (withKind .bank frame.what)) :
    receiveBank order frame act s = .next s := by
  rw [receiveBank_of_not_other (fun hother => h hother.1), receiveFrame_absent h]

theorem receiveBank_discard (h : FrameArrives s frame.arrival (withKind .bank frame.what))
    (hd : screen s.cfg.ordinal (withKind .bank frame.what) = .discard) :
    receiveBank order frame act s = .next s.errored := by
  rw [receiveBank_of_not_other (fun hother => by simp [hd] at hother), receiveFrame_discard h hd]

theorem receiveBank_pass (h : FrameArrives s frame.arrival (withKind .bank frame.what))
    (hp : screen s.cfg.ordinal (withKind .bank frame.what) = .pass)
    (ho : bankOrderOf (withKind .bank frame.what) = order) :
    receiveBank order frame act s = .next
      (if bankForUs (withKind .bank frame.what) s then act (withKind .bank frame.what) s.waiting else s.waiting) := by
  rw [receiveBank_of_not_other (fun hother => hother.2.2 ho), receiveFrame_pass h hp]
  rfl

theorem exec_bankHold (frame : Heard Bits) (s : State) :
    exec (.bankHold frame) s = receiveBank 0 frame (fun _ => addHold .bank) s := rfl

theorem exec_bankResume (frame : Heard Bits) (s : State) :
    exec (.bankResume frame) s = receiveBank 1 frame (fun _ => removeHold .bank) s := rfl

theorem exec_bankPace (frame : Heard Bits) (s : State) :
    exec (.bankPace frame) s = receiveBank 2 frame (fun bits => setPaceLimit (bankLimitOf bits)) s := rfl

/-! ## Discards, row by row (R62 to R64) -/

theorem execClaimNotice_discard (h : FrameArrives s a (withKind .claim rest))
    (hd : screen s.cfg.ordinal (withKind .claim rest) = .discard) :
    exec (.claimNotice ⟨a, rest⟩) s = .next s.errored := congrArg Host.Outcome.next (receiveFrame_discard h hd)

theorem execHoldNotice_discard (h : FrameArrives s a (withKind .hold rest))
    (hd : screen s.cfg.ordinal (withKind .hold rest) = .discard) :
    exec (.holdNotice ⟨a, rest⟩) s = .next s.errored := congrArg Host.Outcome.next (receiveFrame_discard h hd)

theorem execVacateNotice_discard (h : FrameArrives s a (withKind .vacate rest))
    (hd : screen s.cfg.ordinal (withKind .vacate rest) = .discard) :
    exec (.vacateNotice ⟨a, rest⟩) s = .next s.errored := congrArg Host.Outcome.next (receiveFrame_discard h hd)

theorem execDemandNotice_discard (h : FrameArrives s a (withKind .demand rest))
    (hd : screen s.cfg.ordinal (withKind .demand rest) = .discard) :
    exec (.demandNotice ⟨a, rest⟩) s = .next s.errored := congrArg Host.Outcome.next (receiveFrame_discard h hd)

theorem execStatNotice_discard (h : FrameArrives s a (withKind .stat rest))
    (hd : screen s.cfg.ordinal (withKind .stat rest) = .discard) :
    exec (.statNotice ⟨a, rest⟩) s = .next s.errored := congrArg Host.Outcome.next (receiveFrame_discard h hd)

theorem execBankNotices_discard (h : FrameArrives s a (withKind .bank rest))
    (hd : screen s.cfg.ordinal (withKind .bank rest) = .discard) :
    exec (.bankHold ⟨a, rest⟩) s = .next s.errored ∧ exec (.bankResume ⟨a, rest⟩) s = .next s.errored ∧
      exec (.bankPace ⟨a, rest⟩) s = .next s.errored := by
  rw [exec_bankHold, exec_bankResume, exec_bankPace]
  exact ⟨receiveBank_discard h hd, receiveBank_discard h hd, receiveBank_discard h hd⟩

/-! ## One wrong bit (R63) -/

/-- No step of the division takes a remainder that is not 0 to 0. -/
theorem divStep_eq_zero {r : BitVec 8} (h : divStep crc8Poly r false = 0) : r = 0 := by
  revert r; decide

/-- Bits that follow a difference leave a difference. -/
theorem foldl_divStep_injective {r q : BitVec 8} (h : bits.foldl (divStep crc8Poly) r = bits.foldl (divStep crc8Poly) q) :
    r = q := by
  induction bits generalizing r q with
  | nil => exact h
  | cons b bits ih =>
    have hstep : divStep crc8Poly r b = divStep crc8Poly q b := ih h
    have hsum := divStep_xor crc8Poly r q b b
    rw [hstep, BitVec.xor_self, Bool.xor_self] at hsum
    exact BitVec.xor_eq_zero_iff.mp (divStep_eq_zero hsum)

theorem divStep_not_ne (r : BitVec 8) (b : Bool) : divStep crc8Poly r (!b) ≠ divStep crc8Poly r b := by
  intro h
  have hsum := divStep_xor crc8Poly r r (!b) b
  rw [h, BitVec.xor_self, BitVec.xor_self] at hsum
  cases b <;> exact absurd hsum (by decide)

theorem exists_split_at {α : Type} {l : List α} {i : Nat} (h : i < l.length) :
    ∃ before x after, l = before ++ x :: after ∧ before.length = i :=
  ⟨l.take i, l[i], l.drop (i + 1), by simp, by simp; omega⟩

/-- A frame that passes the check fails it with one bit turned over. -/
theorem checkPasses_flipBit {i : Nat} (hc : checkPasses bits = true) (hi : i < bits.length) :
    checkPasses (flipBit i bits) = false := by
  obtain ⟨before, b, after, rfl, rfl⟩ := exists_split_at hi
  rw [flipBit, modify_length_append_cons]
  simp only [checkPasses, remainder, List.foldl_append, List.foldl_cons, beq_iff_eq, beq_eq_false_iff_ne] at hc ⊢
  intro hflip
  exact divStep_not_ne _ b (foldl_divStep_injective (hflip.trans hc.symm))

theorem withKind_flipBit (kind : Kind) (i : Nat) (rest : Bits) :
    withKind kind (flipBit i rest) = flipBit (i + 3) (withKind kind rest) := by
  cases kind <;> rfl

theorem screen_flipBit {kind : Kind} {i : Nat} (own : LaneOrdinal) (hc : checkPasses (withKind kind rest) = true)
    (hi : i < rest.length) : screen own (withKind kind (flipBit i rest)) = .discard := by
  have hlength : i + 3 < (withKind kind rest).length := by
    simp [withKind, length_natBits]
    omega
  rw [withKind_flipBit, screen, checkPasses_flipBit hc hlength]
  simp

/-- Settles O43: the check is linear, and no power of x is a multiple of its generator. -/
theorem oneWrongBitIsDiscarded : Obligations.OneWrongBitIsDiscarded := by
  unfold Obligations.OneWrongBitIsDiscarded
  refine ⟨fun bits i => checkPasses_flipBit, fun s a kind rest i hi hc h => ?_⟩
  have hd := screen_flipBit s.cfg.ordinal hc hi
  refine ⟨?_, ?_, ?_, ?_, ?_, ?_⟩ <;> rintro rfl
  · exact execClaimNotice_discard h hd
  · exact execHoldNotice_discard h hd
  · exact execVacateNotice_discard h hd
  · exact execBankNotices_discard h hd
  · exact execDemandNotice_discard h hd
  · exact execStatNotice_discard h hd

/-! ## Broken frames (R62, R64) -/

theorem screen_of_length (own : LaneOrdinal) (h : lengthFits bits = false) : screen own bits = .discard := by
  simp [screen, h]

theorem screen_of_kind (own : LaneOrdinal) (h : kindFits bits = false) : screen own bits = .discard := by
  unfold screen
  split
  · rfl
  · split
    · rfl
    · simp [h]

theorem lengthFits_withKind {kind : Kind} (h : rest.length + 3 ≠ kind.length) :
    lengthFits (withKind kind rest) = false := by
  simp only [lengthFits, kindOf_withKind, beq_eq_false_iff_ne]
  simpa [withKind, length_natBits, Nat.add_comm] using h

theorem senderOf_withKind (kind : Kind) (rest : Bits) : senderOf (withKind kind rest) = bitsNat (rest.take 4) := by
  cases kind <;> rfl

theorem bankOrderOf_withKind (rest : Bits) :
    bankOrderOf (withKind .bank rest) = bitsNat ((rest.drop 8).take 2) := rfl

/-- A station's frame of a wrong length, or of the panel's ordinal, is discarded. -/
theorem screen_of_broken (own : LaneOrdinal) {kind : Kind} (hkind : kind ≠ .bank)
    (h : rest.length + 3 ≠ kind.length ∨ bitsNat (rest.take 4) = 15) :
    screen own (withKind kind rest) = .discard := by
  rcases h with h | h
  · exact screen_of_length _ (lengthFits_withKind h)
  · refine screen_of_kind _ ?_
    cases kind <;> simp_all [kindFits, kindOf_withKind, senderOf_withKind, Config.panel]

theorem screen_of_broken_bank (own : LaneOrdinal)
    (h : rest.length ≠ 24 ∨ bitsNat (rest.take 4) ≠ 15 ∨ bitsNat ((rest.drop 8).take 2) = 3) :
    screen own (withKind .bank rest) = .discard := by
  rcases h with h | h
  · exact screen_of_length _ (lengthFits_withKind (by simp [Kind.length]; omega))
  · refine screen_of_kind _ ?_
    rcases h with h | h <;>
      simp [kindFits, kindOf_withKind, senderOf_withKind, bankOrderOf_withKind, Config.panel, h]

/-- No frame of an unknown kind, nor one without a whole kind field, passes (R64). -/
theorem screen_unknown (own : LaneOrdinal) (u : UnknownFrame) : screen own (unknownBits u) = .discard := by
  refine screen_of_kind _ ?_
  cases u <;> rfl

/-! ## An ordinal clash (R65) -/

/-- What the own ordinal in a frame does: the flag, and the entry into Faulted or, there, the fault that a Clear
finds (R65, R166). -/
theorem ordinalClash_waiting (ha : active s = true) :
    ordinalClash s.waiting =
      if s.station.mode = .faulted then
        { s.waiting with
          station := { s.station with again := some (s.station.again.getD .ordinalClash) }
          report := { s.report with flags := { s.report.flags with ordinalClash := true } } }
      else enterFaulted .ordinalClash
        { s.waiting with report := { s.report with flags := { s.report.flags with ordinalClash := true } } } := by
  have hflag : setFlag .ordinalClash s.waiting =
      { s.waiting with report := { s.report with flags := { s.report.flags with ordinalClash := true } } } := rfl
  rw [ordinalClash, hflag, reportFault]
  by_cases hm : s.station.mode = .faulted
  · rw [if_pos hm, if_neg (by simp [takesLaneEvents, State.waiting, hm]), if_pos (by simp [State.waiting, hm])]
    rfl
  · rw [if_neg hm, if_pos]
    simp only [active, takesLaneEvents, State.waiting] at ha ⊢
    cases hmode : s.station.mode <;> simp_all

/-! ## Edges that break a window (R55, R56, R61) -/

theorem breaksWindow_bit_iff (e : Nat) (next : Option Nat) :
    breaksWindow (.bit (some e) next) = true ↔ (24 ≤ e ∧ e ≤ 40) ∨ 72 ≤ e ∨ ∃ t, next = some t ∧ t < 56 := by
  have htb : Config.tb = 64 := rfl
  cases next <;> simp [breaksWindow] <;> omega

theorem breaksWindow_firstBit_iff (e : Nat) : breaksWindow (.firstBit (some e)) = true ↔ e < 24 ∨ 40 < e := by
  have htb : Config.tb = 64 := rfl
  simp [breaksWindow]
  omega

theorem breaksWindow_afterLast_iff (e : Nat) : breaksWindow (.afterLast e) = true ↔ 72 < e ∧ e ≤ 256 := by
  have htb : Config.tb = 64 := rfl
  simp [breaksWindow]
  omega

theorem execBitTimingError_broken {seen : Sighting} (h : LineTakes s a) (hb : breaksWindow seen = true) :
    exec (.bitTimingError ⟨a, seen⟩) s = .next s.errored := by
  dsimp only [exec, execBitTimingError]
  rw [if_pos (by simp [(receives_iff a s).mpr h, hb])]
  rfl

theorem execBitTimingError_none {seen : Sighting} (h : ¬ LineTakes s a ∨ breaksWindow seen = false) :
    exec (.bitTimingError ⟨a, seen⟩) s = .next s := by
  dsimp only [exec, execBitTimingError]
  refine if_neg fun htakes => ?_
  obtain ⟨hreceives, hbreaks⟩ := Bool.and_eq_true_iff.mp htakes
  rcases h with h | h
  · exact h ((receives_iff a s).mp hreceives)
  · simp [h] at hbreaks

/-- Settles O44, from the checks' outcomes and the windows' bounds in parts of Tb. -/
theorem brokenFramesAreDiscarded : Obligations.BrokenFramesAreDiscarded := by
  unfold Obligations.BrokenFramesAreDiscarded
  refine ⟨fun s a rest u => ⟨fun h => ?unknown, fun hb => ⟨fun h => ?_, fun h => ?_⟩, fun hb h => ?_, fun hb h => ?_,
      fun hb h => ?_, fun hb h => ?_⟩, fun s a kind fields hs h => ?clash, fun s a rest u => ?absent,
    breaksWindow_bit_iff, fun next => rfl, breaksWindow_firstBit_iff, rfl, breaksWindow_afterLast_iff,
    fun s a seen => ⟨execBitTimingError_broken, execBitTimingError_none⟩⟩
  case unknown => exact congrArg Host.Outcome.next (receiveFrame_discard h (screen_unknown _ u))
  · exact execClaimNotice_discard h (screen_of_broken _ (by decide) (by simp [Kind.length]; omega))
  · exact execVacateNotice_discard h (screen_of_broken _ (by decide) (by simp [Kind.length]; omega))
  · exact execHoldNotice_discard h (screen_of_broken _ (by decide) (by simp [Kind.length]; omega))
  · exact execDemandNotice_discard h (screen_of_broken _ (by decide) (by simp [Kind.length]; omega))
  · exact execStatNotice_discard h (screen_of_broken _ (by decide) (by simp [Kind.length]; omega))
  · exact execBankNotices_discard h (screen_of_broken_bank _ hb)
  case clash =>
    intro flags clashed
    have hclash : ordinalClash s.waiting = clashed := ordinalClash_waiting h.1.1
    have hreceived (hkind : kind ≠ .bank) (hl : fields.length + 15 = kind.length) (take : State → State) :
        receiveFrame a (withKind kind (frameRest kind s.cfg.ordinal fields)) take s = clashed := by
      rw [receiveFrame_clash h, hclash]
      rw [withKind_frameRest, screen_frameBits _ hkind hl hs, if_pos rfl]
    refine ⟨?_, ?_, ?_, ?_, ?_⟩ <;>
      · rintro rfl hl
        exact congrArg Host.Outcome.next (hreceived (by decide) (by rw [hl]; rfl) _)
  case absent =>
    refine ⟨?_, ?_, ?_, ?_, ?_, fun h => ?bank, ?_⟩
    case bank =>
      rw [exec_bankHold, exec_bankResume, exec_bankPace]
      exact ⟨receiveBank_absent h, receiveBank_absent h, receiveBank_absent h⟩
    all_goals exact fun h => congrArg Host.Outcome.next (receiveFrame_absent h)

end Sys2Proof.Machine
end

section

/-! PROOFS. What a received notice and a bank order do (R66, R74, R117): O45, O48. -/

namespace Sys2Proof.Machine

variable {s : State} {a : Arrival} {k : LaneOrdinal} {fields : Bits} {take : State → State}

/-- A frame of another station is handed over (R66). -/
theorem receiveFrame_of_station {kind : Kind} (hkind : kind ≠ .bank) (hl : fields.length + 15 = kind.length)
    (hk : k ≤ 14) (hother : k ≠ s.cfg.ordinal) (h : FrameArrives s a (withKind kind (frameRest kind k fields))) :
    receiveFrame a (withKind kind (frameRest kind k fields)) take s = take s.waiting := by
  refine receiveFrame_pass h ?_
  rw [withKind_frameRest, screen_frameBits _ hkind hl hk, if_neg hother]

/-- From downstream the window hears nothing (R83). -/
theorem hearClaim_of_downstream (tray : Nat) (span : Span) (h : s.cfg.ordinal < k) : hearClaim k tray span s = s :=
  hearParts_unheard (.inr (Nat.le_of_lt h))

/-- A CLAIM that is received goes to the window, and from downstream to the share unit (R66, R117). -/
theorem execClaimNotice_pass {t : Nat} (span : Span) (hk : k ≤ 14) (hother : k ≠ s.cfg.ordinal) (ht : t ≤ 4095)
    (h : FrameArrives s a (withKind .claim (frameRest .claim k (spanFields t span)))) :
    exec (.claimNotice ⟨a, frameRest .claim k (spanFields t span)⟩) s = .next
      (if s.cfg.ordinal < k then
        takeDownstreamClaim k (claimTrays s.cfg.trays (t % s.cfg.trays) span) (hearClaim k t span s.waiting)
      else hearClaim k t span s.waiting) := by
  dsimp only [exec, execClaimNotice]
  rw [receiveFrame_of_station (by decide) rfl hk hother h, withKind_frameRest,
    senderOf_frameBits _ _ (Nat.le_succ_of_le hk), trayOf_spanFrame _ _ _ ht, spanOf_spanFrame]
  rfl

/-- Settles O45, from the hand-over of a passing frame and the fields that it reads back. -/
theorem receivedNoticesAreHandedOver : Obligations.ReceivedNoticesAreHandedOver := by
  unfold Obligations.ReceivedNoticesAreHandedOver
  intro s a k hk hother
  have hsender (kind : Kind) (fields : Bits) : senderOf (frameBits kind k fields) = k :=
    senderOf_frameBits _ _ (Nat.le_succ_of_le hk)
  refine ⟨fun t span ht => ⟨fun h => ⟨fun hup => ?_, fun hdown => ?_⟩, fun h => ?vacate⟩, fun t target ht htarget h => ?hold,
    fun c offset backlog starve running ho hb hs h => ?demand, fun fields hl h => ?stat⟩
  · rw [execClaimNotice_pass span hk hother ht h, if_neg (Nat.not_lt_of_gt hup)]
  · rw [execClaimNotice_pass span hk hother ht h, if_pos hdown, hearClaim_of_downstream (s := s.waiting) _ _ hdown]
    cases span <;> rfl
  case vacate =>
    dsimp only [exec, execVacateNotice]
    rw [receiveFrame_of_station (by decide) rfl hk hother h, withKind_frameRest, hsender, trayOf_spanFrame _ _ _ ht,
      spanOf_spanFrame]
  case hold =>
    dsimp only [exec, execHoldNotice]
    rw [receiveFrame_of_station (by decide) rfl hk hother h, withKind_frameRest, hsender, trayOf_holdFrame _ _ ht,
      holdTargetOf_holdFrame _ _ htarget]
  case demand =>
    dsimp only [exec, execDemandNotice]
    rw [receiveFrame_of_station (by decide) rfl hk hother h, withKind_frameRest, hsender,
      demandOf_demandFrame _ _ _ ho hb hs]
  case stat =>
    dsimp only [exec, execStatNotice]
    rw [receiveFrame_of_station (by decide) (by rw [hl]; rfl) hk hother h, id]

/-! ## Bank orders (R74) -/

section Bank

variable {target : LaneOrdinal} {n limit order : Nat} {act : Bits → State → State}

theorem bankForUs_iff (htarget : target ≤ 15) (n limit : Nat) :
    bankForUs (frameBits .bank 15 (bankFields target n limit)) s = true ↔
      target = s.cfg.ordinal ∨ target = 15 := by
  simp [bankForUs, bankTargetOf_bankFrame n limit htarget, Config.panel]

/-- A bank order that the row expects acts where it is for this station. -/
theorem receiveBank_own (hown : s.cfg.ordinal ≤ 14) (htarget : target ≤ 15) (hn : n ≤ 2)
    (h : FrameArrives s a (withKind .bank (frameRest .bank 15 (bankFields target n limit)))) :
    receiveBank n ⟨a, frameRest .bank 15 (bankFields target n limit)⟩ act s = .next
      (if target = s.cfg.ordinal ∨ target = 15 then
        act (frameBits .bank 15 (bankFields target n limit)) s.waiting else s.waiting) := by
  have hframe := withKind_frameRest .bank 15 (bankFields target n limit)
  have hpass := screen_bankFrame (target := target) (limit := limit) hown hn
  have horder := bankOrderOf_bankFrame target limit (Nat.le_succ_of_le hn)
  rw [receiveBank_pass h (by rw [hframe, hpass]) (by rw [hframe, horder]), hframe]
  simp only [bankForUs_iff htarget]

theorem receiveBank_another (hown : s.cfg.ordinal ≤ 14) (hn : n ≤ 2) (hne : n ≠ order)
    (h : FrameArrives s a (withKind .bank (frameRest .bank 15 (bankFields target n limit)))) :
    receiveBank order ⟨a, frameRest .bank 15 (bankFields target n limit)⟩ act s = .refused .anotherBankOrder := by
  have hframe := withKind_frameRest .bank 15 (bankFields target n limit)
  have hpass := screen_bankFrame (target := target) (limit := limit) hown hn
  have horder := bankOrderOf_bankFrame target limit (Nat.le_succ_of_le hn)
  exact receiveBank_other h (by rw [hframe, hpass]) (by rw [hframe, horder]; exact hne)

end Bank

/-- Settles O48: each order acts in its own row, for this station and for every station. -/
theorem bankOrdersAct : Obligations.BankOrdersAct := by
  unfold Obligations.BankOrdersAct
  intro s a target n limit hown htarget hn hlimit order ours h
  rw [exec_bankHold, exec_bankResume, exec_bankPace]
  refine ⟨?hold, ?resume, ?pace, ?_, ?_, ?_, fun hne => receiveBank_another hown hn hne h,
    fun hne => receiveBank_another hown hn hne h, fun hne => receiveBank_another hown hn hne h⟩
  case hold | resume =>
    rintro rfl hours
    rw [receiveBank_own hown htarget hn h, if_pos hours]
  case pace =>
    rintro rfl hours
    rw [receiveBank_own hown htarget hn h, if_pos hours, bankLimitOf_bankFrame _ _ hlimit]
    rfl
  all_goals
    rintro rfl hothers
    rw [receiveBank_own hown htarget hn h, if_neg hothers]

end Sys2Proof.Machine
end

section

/-! PROOFS. The sender begins a frame, and joining ends (R54, R56, R57, R70): O36. -/

namespace Sys2Proof.Machine

variable {s : State} {f : TxFrame} {q before after : List TxFrame} {gap run : Nat}

/-! ## The frame that is chosen (R57) -/

theorem find_kind_of_none {k : Kind} (h : ∀ g ∈ q, g.body.kind ≠ k) : q.find? (·.body.kind == k) = none :=
  List.find?_eq_none.mpr fun g hg => by simp [h g hg]

theorem find_kind_of_first (h : ∀ g ∈ before, g.body.kind ≠ f.body.kind) :
    (before ++ f :: after).find? (·.body.kind == f.body.kind) = some f := by
  rw [List.find?_append, find_kind_of_none h]
  simp

theorem chooseFrame_of_find {k : Kind} (hlower : ∀ j : Kind, j.code < k.code → q.find? (·.body.kind == j) = none)
    (hown : q.find? (·.body.kind == k) = some f) : chooseFrame q = some f := by
  unfold chooseFrame
  cases k with
  | claim => simp [hown]
  | hold => simp [hlower .claim (by decide), hown]
  | vacate => simp [hlower .claim (by decide), hlower .hold (by decide), hown]
  | bank => simp [hlower .claim (by decide), hlower .hold (by decide), hlower .vacate (by decide), hown]
  | demand =>
    simp [hlower .claim (by decide), hlower .hold (by decide), hlower .vacate (by decide), hlower .bank (by decide),
      hown]
  | stat =>
    simp [hlower .claim (by decide), hlower .hold (by decide), hlower .vacate (by decide), hlower .bank (by decide),
      hlower .demand (by decide), hown]

/-- The oldest frame of the lowest kind is chosen. -/
theorem chooseFrame_first (hbefore : ∀ g ∈ before, f.body.kind.code < g.body.kind.code)
    (hafter : ∀ g ∈ after, f.body.kind.code ≤ g.body.kind.code) :
    chooseFrame (before ++ f :: after) = some f := by
  have hlower (k : Kind) (hk : k.code < f.body.kind.code) :
      (before ++ f :: after).find? (·.body.kind == k) = none := by
    refine find_kind_of_none fun g hg he => ?_
    rw [← he] at hk
    rcases List.mem_append.mp hg with hg | hg
    · exact absurd (hbefore g hg) (Nat.lt_asymm hk)
    · rcases List.mem_cons.mp hg with rfl | hg
      · exact Nat.lt_irrefl _ hk
      · exact absurd (hafter g hg) (Nat.not_le.mpr hk)
  have hown := find_kind_of_first (after := after) fun g hg (he : g.body.kind = f.body.kind) =>
    absurd (hbefore g hg) (by rw [he]; exact Nat.lt_irrefl _)
  exact chooseFrame_of_find hlower hown

theorem chooseFrame_isSome (h : q ≠ []) : ∃ f, chooseFrame q = some f := by
  obtain ⟨f, hf⟩ := List.exists_mem_of_ne_nil q h
  cases hc : chooseFrame q with
  | some g => exact ⟨g, rfl⟩
  | none =>
    have hnone := List.findSome?_eq_none_iff.mp hc f.body.kind (by cases f.body <;> simp [TxBody.kind])
    exact absurd (beq_self_eq_true f.body.kind) (List.find?_eq_none.mp hnone f hf)

/-! ## The bits of this instant (R70, R183) -/

/-- What a frame's fields are when its passage begins. -/
theorem txFields_eq (s : State) (b : TxBody) :
    txFields s b = match b with
      | .claim t span _ | .vacate t span _ => natBits 12 t ++ [decide (span = .two)]
      | .hold t target => natBits 12 t ++ natBits 4 target
      | .demand =>
        [decide (s.cfg.laneClass = .express)] ++ natBits 12 s.cfg.offset ++
          natBits 3 (if s.station.mode = .running then backlog s else 0) ++ natBits 8 s.share.starve ++
          [decide (s.station.mode = .running)]
      | .stat => statFields s := by
  have hspan (span : Span) : span.bit = decide (span = .two) := by cases span <;> rfl
  have hclass : s.cfg.laneClass.bit = decide (s.cfg.laneClass = .express) := by cases s.cfg.laneClass <;> rfl
  cases b with
  | demand =>
    simp only [txFields, ownDemandFields, demandFields, hclass, beq_iff_eq]
    by_cases hm : s.station.mode = .running <;> simp [hm]
  | _ => simp [txFields, spanFields, holdFields, hspan]

/-! ## FRAME_BEGIN and JOINING_ENDS -/

theorem mayBegin_iff : mayBegin gap s = true ↔
    active s = true ∧ s.line.faulted = false ∧ s.line.passage = none ∧ 4 * Config.tb ≤ gap := by
  simp [mayBegin, and_assoc]

theorem execFrameBegin_idle (hc : chooseFrame s.line.queue = some f) (h : mayBegin gap s = true) :
    exec (.frameBegin (.idle gap)) s = .next (beginFrame f s) := by
  simp [exec, execFrameBegin, hc, h]

theorem execFrameBegin_not (h : mayBegin gap s = false ∨ s.line.queue = []) :
    exec (.frameBegin (.idle gap)) s = .next s ∧ exec (.frameBegin (.driven gap run)) s = .next s := by
  dsimp only [exec, execFrameBegin]
  rcases h with h | h
  · cases chooseFrame s.line.queue <;> simp [h]
  · rw [h]
    exact ⟨rfl, rfl⟩

theorem execFrameBegin_driven (hq : s.line.queue ≠ []) (h : mayBegin gap s = true) :
    exec (.frameBegin (.driven gap run)) s =
      .next (if startRecognised run then assemble [] s else s) := by
  obtain ⟨f, hf⟩ := chooseFrame_isSome hq
  cases hr : startRecognised run <;> simp [exec, execFrameBegin, hf, h, hr]

/-- Settles O36, from the choice of the frame and the start of another node's. -/
theorem framesBeginInOrder : Obligations.FramesBeginInOrder := by
  unfold Obligations.FramesBeginInOrder
  refine ⟨fun s gap before after f ha hn hp hgap hq hbefore hafter => ?begins,
    fun s gap run ha hn hp hgap hq => ⟨fun hlow hhigh => ?_, fun hnone => ?_⟩, fun s gap run h => ?_,
    fun s gap ha hj hgap => ?_, fun s gap h => ?_⟩
  case begins =>
    rw [execFrameBegin_idle (hq ▸ chooseFrame_first hbefore hafter) (mayBegin_iff.mpr ⟨ha, hn, hp, hgap⟩)]
    have hothers : ∀ g ∈ before, (g.body.kind == f.body.kind) = false := fun g hg =>
      beq_eq_false_iff_ne.mpr fun he => absurd (hbefore g hg) (by rw [he]; exact Nat.lt_irrefl _)
    rw [beginFrame, hq, modifyFirst_split (fun g : TxFrame => g.body.kind == f.body.kind) _ _ _ _ hothers (beq_self_eq_true _), txBits,
      txFields_eq]
    rfl
  · rw [execFrameBegin_driven hq (mayBegin_iff.mpr ⟨ha, hn, hp, hgap⟩),
      if_pos ((startRecognised_iff run).mpr ⟨hlow, hhigh⟩)]
    rfl
  · rw [execFrameBegin_driven hq (mayBegin_iff.mpr ⟨ha, hn, hp, hgap⟩),
      if_neg (mt (startRecognised_iff run).mp (by omega))]
  · refine execFrameBegin_not ?_
    rw [← Bool.not_eq_true, mayBegin_iff]
    rcases h with h | h | h | h | h
    · exact .inl fun hb => by simp [h] at hb
    · exact .inl fun hb => by simp [h] at hb
    · exact .inl fun hb => h hb.2.2.1
    · exact .inl fun hb => absurd hb.2.2.2 (Nat.not_le.mpr h)
    · exact .inr h
  · dsimp only [exec, execJoiningEnds]
    rw [if_pos (by simp [ha, hj, hgap])]
    rfl
  · dsimp only [exec, execJoiningEnds]
    refine if_neg fun hends => ?_
    simp only [Bool.and_eq_true, beq_iff_eq, decide_eq_true_iff] at hends
    obtain ⟨⟨ha, hj⟩, hgap⟩ := hends
    rcases h with h | h | h
    · simp [h] at ha
    · exact h hj
    · exact absurd hgap (Nat.not_le.mpr h)

end Sys2Proof.Machine
end

section

/-! PROOFS. A passage ends unfinished, and the line condition follows the line (R58, R59, R61, R67, R71, R72): O37,
O38. -/

namespace Sys2Proof.Machine

variable {s : State} {f : TxFrame} {before after : List TxFrame} {sent : Bits} {bit run gap : Nat}

/-! ## The frame of a passage that ends (R58, R59, R71, R72) -/

/-- A frame whose passage is over. -/
def TxFrame.rested (f : TxFrame) : TxFrame := { f with inPassage := false, renewed := false }

theorem map_rested {q : List TxFrame} (h : ∀ g ∈ q, g.inPassage = false ∧ g.renewed = false) :
    q.map TxFrame.rested = q := by
  refine (List.map_congr_left fun g hg => ?_).trans (List.map_id q)
  obtain ⟨hpass, hrenewed⟩ := h g hg
  cases g
  simp_all [TxFrame.rested]

/-- Where one frame alone is in passage, the queue after its passage keeps it or not, and all others. -/
theorem rested_queue (keeps : TxFrame → Bool) (hothers : ∀ g ∈ before ++ after, g.inPassage = false ∧ g.renewed = false)
    (hkeep : ∀ g, g.inPassage = false → keeps g = true) :
    ((before ++ f :: after).filter keeps).map TxFrame.rested =
      before ++ ((if keeps f then [f.rested] else []) ++ after) := by
  have hkept (q : List TxFrame) (hq : ∀ g ∈ q, g.inPassage = false ∧ g.renewed = false) :
      (q.filter keeps).map TxFrame.rested = q := by
    rw [List.filter_eq_self.mpr fun g hg => hkeep g (hq g hg).1, map_rested hq]
  have hbefore := hkept before fun g hg => hothers g (List.mem_append_left _ hg)
  have hafter := hkept after fun g hg => hothers g (List.mem_append_right _ hg)
  rw [List.filter_append, List.map_append, hbefore, List.filter_cons]
  split <;> simp [hafter]

/-- The line after a passage that ended unfinished. -/
theorem releasePassage_split (hq : s.line.queue = before ++ f :: after) (hf : f.inPassage = true)
    (hothers : ∀ g ∈ before ++ after, g.inPassage = false ∧ g.renewed = false) :
    releasePassage s = s.withLine { s.line with
      queue := before ++ ((if f.removalAsked = true ∨ f.expired = true then [] else [f.rested]) ++ after)
      passage := none } := by
  have hkeep := rested_queue (f := f) (fun f => !(f.inPassage && (f.removalAsked || f.expired))) hothers
    fun g hg => by simp [hg]
  unfold releasePassage
  rw [hq]
  show s.withLine { s.line with queue := List.map TxFrame.rested _, passage := none } = _
  rw [hkeep, hf]
  by_cases h : f.removalAsked = true ∨ f.expired = true
  · rw [if_pos h, if_neg (by rcases h with h | h <;> simp [h])]
  · rw [if_neg h, if_pos (by simpa using h)]

/-! ## Which bits end a passage (R58, R59) -/

theorem getD_false_iff : sent.getD bit false = true ↔ sent[bit]? = some true := by
  rw [List.getD_eq_getElem?_getD]
  cases sent[bit]? with
  | none => simp
  | some b => simp

theorem arbitrationBit_iff : arbitrationBit bit sent = true ↔ bit < 7 ∧ sent[bit]? = some true := by
  simp only [arbitrationBit, Bool.and_eq_true, decide_eq_true_eq, getD_false_iff]

theorem readZero_iff : bitErrorOccurs sent (.readZero bit) = true ↔ 7 ≤ bit ∧ sent[bit]? = some true := by
  simp only [bitErrorOccurs, Bool.and_eq_true, decide_eq_true_eq, getD_false_iff]

theorem readOne_of (h : sent[bit]? = some false) : bitErrorOccurs sent (.readOne bit) = true := by
  obtain ⟨hlt, hzero⟩ := List.getElem?_eq_some_iff.mp h
  simp [bitErrorOccurs, List.getD_eq_getElem?_getD, hlt, hzero]

theorem startHeld_of (h : 4 * Config.tb ≤ run) : bitErrorOccurs sent (.startHeld run) = true := decide_eq_true h

theorem execLostArbitration_ends (hp : s.line.passage = some sent) (h : arbitrationBit bit sent = true) :
    exec (.lostArbitration bit) s = .next (assemble (sent.take bit ++ [false]) (releasePassage s)) := by
  simp [exec, execLostArbitration, hp, h, bitsRead]

theorem execLostArbitration_none (hp : s.line.passage = some sent) (h : arbitrationBit bit sent = false) :
    exec (.lostArbitration bit) s = .next s := by
  simp [exec, execLostArbitration, hp, h]

theorem execBitError_ends {cause : BitErrorCause} (hp : s.line.passage = some sent)
    (h : bitErrorOccurs sent cause = true) :
    exec (.bitError cause) s = .next (raise .frameErrors (afterBitError sent cause (releasePassage s))) := by
  simp [exec, execBitError, hp, h]

/-- Settles O37, from the queue that a passage leaves and the bits that end it. -/
theorem passagesEndUnfinished : Obligations.PassagesEndUnfinished := by
  unfold Obligations.PassagesEndUnfinished
  refine ⟨fun s sent before after f hp hq hf hothers => ?_, fun s bit cause hp => ?_⟩
  · have hrelease := releasePassage_split hq hf hothers
    refine ⟨fun bit hbit hone => ?_, fun bit hnot => ?_, fun bit hbit hone => ?_, fun bit hzero => ?_,
      fun seen hb => ?_, fun run hrun => ?_⟩
    · rw [execLostArbitration_ends hp (arbitrationBit_iff.mpr ⟨hbit, hone⟩), hrelease]
      rfl
    · refine execLostArbitration_none hp (Bool.eq_false_iff.mpr fun h => ?_)
      obtain ⟨hbit, hone⟩ := arbitrationBit_iff.mp h
      exact hnot.elim (fun hge => absurd hbit (Nat.not_lt.mpr hge)) (fun hne => hne hone)
    · rw [execBitError_ends hp (readZero_iff.mpr ⟨hbit, hone⟩), hrelease]
      rfl
    · rw [execBitError_ends hp (readOne_of hzero), hrelease]
      rfl
    · rw [execBitError_ends hp (cause := .timing seen) hb, hrelease]
      rfl
    · rw [execBitError_ends hp (startHeld_of hrun), hrelease]
      rfl
  · simp [exec, execLostArbitration, execBitError, hp]

/-! ## The line condition (R67) -/

/-- Of the line, a hold cause that is added changes the transmit queue alone. -/
theorem addHold_line (c : HoldCause) (s : State) :
    (addHold c s).line = { s.line with queue := (addHold c s).line.queue } := by
  have hoffer (u : State) : (offerStat u).line = { u.line with queue := (offerStat u).line.queue } := by
    rw [offerStat_eq]
    split <;> rfl
  have hleave (u : State) : (leaveRunning u).line = { u.line with queue := (leaveRunning u).line.queue } := by
    unfold leaveRunning
    split
    · rfl
    · split <;> rfl
  unfold addHold
  split
  · rfl
  · dsimp only
    split
    · rw [hleave, setMode, hoffer, State.withStation_line, setHolds, hoffer, State.withStation_line]
    · rw [setHolds, hoffer, State.withStation_line]

/-- No frame of the queue is in passage. -/
def Line.AtRest (l : Line) : Prop := ∀ f ∈ l.queue, f.inPassage = false

theorem requested_atRest {b : TxBody} {q : List TxFrame} (h : ∀ f ∈ q, f.inPassage = false) :
    ∀ f ∈ requested b q, f.inPassage = false := by
  unfold requested
  split
  · have hcount := modifyFirst_countP (fun f : TxFrame => f.body == b) (·.inPassage)
      (fun f => { f with renewed := f.renewed || f.inPassage }) (fun _ => rfl) q
    simpa using List.countP_eq_zero.mp (hcount.trans (List.countP_eq_zero.mpr (by simpa using h)))
  · intro f hf
    rcases List.mem_append.mp hf with hf | hf
    · exact h f hf
    · rw [List.mem_singleton.mp hf]
      rfl

theorem Line.AtRest.offerStat (h : s.line.AtRest) : (offerStat s).line.AtRest := by
  rw [offerStat_eq]
  split
  · exact requested_atRest h
  · exact h

theorem addHold_atRest (c : HoldCause) (h : s.line.AtRest) : (addHold c s).line.AtRest := by
  have hleave (u : State) (hu : u.line.AtRest) : (leaveRunning u).line.AtRest := by
    unfold leaveRunning
    split
    · exact hu
    · split
      · intro f hf
        rw [(discardCommitment_frame _ _).2.2.2.2.2.1, mem_askRemoval] at hf
        rcases hf with ⟨hf, -⟩ | ⟨g, hg, -, hpass, rfl⟩
        · exact hu f hf
        · exact hu g hg
      · exact hu
  unfold addHold
  split
  · exact h
  · dsimp only
    split
    · exact hleave _ (Line.AtRest.offerStat (s := State.withStation _ _) (Line.AtRest.offerStat (s := State.withStation _ _) h))
    · exact Line.AtRest.offerStat (s := State.withStation _ _) h

theorem releasePassage_atRest (s : State) : (releasePassage s).line.AtRest := by
  intro f hf
  obtain ⟨g, -, rfl⟩ := List.mem_map.mp hf
  rfl

theorem stopAssembling_eq (s : State) : stopAssembling s = s.withLine { s.line with
    assembler := if s.line.assembler = .assembling then .waiting else s.line.assembler
    assembled := if s.line.assembler = .assembling then [] else s.line.assembled } := by
  unfold stopAssembling
  by_cases h : s.line.assembler = .assembling
  · rw [if_pos (by simp [h]), if_pos h, if_pos h]
    rfl
  · rw [if_neg (by simp [h]), if_neg h, if_neg h]
    rfl

theorem faultComes_iff : (active s && !s.line.faulted && decide (4 * Config.tb ≤ run)) = true ↔
    active s = true ∧ s.line.faulted = false ∧ 4 * Config.tb ≤ run := by
  simp [and_assoc]

theorem normalComes_iff : (active s && s.line.faulted && decide (16 * Config.tb ≤ gap)) = true ↔
    active s = true ∧ s.line.faulted = true ∧ 16 * Config.tb ≤ gap := by
  simp [and_assoc]

/-- A line fault ends an own frame's passage with a bit error (R59, R67). -/
theorem execLineFault_comes (ha : active s = true) (hn : s.line.faulted = false) (hrun : 4 * Config.tb ≤ run) :
    exec (.lineFault run) s = .next (addHold .line (setFlag .lineFault (stopAssembling
      (let u := if s.line.passage.isSome then raise .frameErrors (releasePassage s) else s
       u.withLine { u.line with faulted := true })))) := by
  dsimp only [exec, execLineFault]
  rw [if_pos (faultComes_iff.mpr ⟨ha, hn, hrun⟩)]

theorem execLineFault_own (ha : active s = true) (hn : s.line.faulted = false) (hp : s.line.passage ≠ none)
    (hrun : 4 * Config.tb ≤ run) :
    ∃ t, exec (.lineFault run) s = .next t ∧
      t.line.faulted = true ∧ t.line.passage = none ∧ t.line.assembler ≠ .assembling ∧ t.line.AtRest ∧
      t.report.counters = s.report.counters.raise .frameErrors ∧ t.report.flags.lineFault = true ∧
      t.station.holds.line = true := by
  refine ⟨_, execLineFault_comes ha hn hrun, ?_⟩
  rw [if_pos (Option.isSome_iff_ne_none.mpr hp)]
  dsimp only
  rw [stopAssembling_eq]
  refine ⟨?_, ?_, ?_, addHold_atRest _ (releasePassage_atRest s), ?_, ?_, addHold_has .line _⟩
  · rw [addHold_line]
    rfl
  · rw [addHold_line]
    rfl
  · rw [addHold_line]
    show (if s.line.assembler = .assembling then Assembler.waiting else s.line.assembler) ≠ .assembling
    split
    · decide
    · assumption
  · rw [(addHold_frame _ _).2.2.2.2.2.1]
    rfl
  · rw [(addHold_frame _ _).2.2.2.2.2.1]
    rfl

/-- Settles O38, from what each run of the line changes. -/
theorem lineConditionFollowsTheLine : Obligations.LineConditionFollowsTheLine := by
  unfold Obligations.LineConditionFollowsTheLine
  refine ⟨fun s run ha hn hp hrun => ?_, fun s run ha hn hp hrun => execLineFault_own ha hn hp hrun,
    fun s gap ha hf hgap => ?_, fun s run h => ?_, fun s gap h => ?_⟩
  · rw [execLineFault_comes ha hn hrun, hp]
    dsimp only [Option.isSome]
    rw [stopAssembling_eq]
    rfl
  · dsimp only [exec, execLineConditionNormal]
    rw [if_pos (normalComes_iff.mpr ⟨ha, hf, hgap⟩)]
    rfl
  · dsimp only [exec, execLineFault]
    refine if_neg fun hcomes => ?_
    obtain ⟨ha, hn, hrun⟩ := faultComes_iff.mp hcomes
    rcases h with h | h | h
    · simp [h] at ha
    · simp [h] at hn
    · exact absurd hrun (Nat.not_le.mpr h)
  · dsimp only [exec, execLineConditionNormal]
    refine if_neg fun hcomes => ?_
    obtain ⟨ha, hf, hgap⟩ := normalComes_iff.mp hcomes
    rcases h with h | h | h
    · simp [h] at ha
    · simp [h] at hf
    · exact absurd hgap (Nat.not_le.mpr h)

end Sys2Proof.Machine
end

section

/-! PROOFS. A frame completes (R60, R70, R72, R116, R130, R180): O39. -/

namespace Sys2Proof.Machine

variable {s : State} {f : TxFrame} {before after : List TxFrame}

/-- The only frame in passage is the one that the sender finds there. -/
theorem passageFrame_split (hq : s.line.queue = before ++ f :: after) (hf : f.inPassage = true)
    (hothers : ∀ g ∈ before ++ after, g.inPassage = false ∧ g.renewed = false) : passageFrame s = some f := by
  have hnone : before.find? (·.inPassage) = none :=
    List.find?_eq_none.mpr fun g hg => by simp [hothers g (List.mem_append_left _ hg)]
  rw [passageFrame, hq, List.find?_append, hnone]
  simp [hf]

/-- The state once the own frame `f` between `before` and `after` has completed: only a renewed one stays. -/
def State.completed (s : State) (before : List TxFrame) (f : TxFrame) (after : List TxFrame) : State :=
  s.withLine { s.line with
    queue := before ++ ((if f.renewed then [f.rested] else []) ++ after)
    passage := none
    assembler := .waiting
    assembled := [] }

theorem completePassage_split (hq : s.line.queue = before ++ f :: after) (hf : f.inPassage = true)
    (hothers : ∀ g ∈ before ++ after, g.inPassage = false ∧ g.renewed = false) :
    completePassage s = s.completed before f after := by
  have hkeep := rested_queue (f := f) (fun f => !(f.inPassage && !f.renewed)) hothers fun g hg => by simp [hg]
  unfold completePassage State.completed
  rw [hq]
  show s.withLine { s.line with queue := List.map TxFrame.rested _, passage := none, assembler := .waiting, assembled := [] } = _
  rw [hkeep, hf]
  simp

section

variable (hp : passageFrame s = some f)
include hp

/-- A CLAIM's completion, by its removal and by what stands committed (R60, R130). -/
theorem execClaimCompletion_eq {tray : Tray} {span : Span} {edge : Nat} (hb : f.body = .claim tray span edge) :
    exec .claimCompletion s = .next (
      if f.removalAsked || f.expired then offerVacate tray span (completePassage s)
      else
        match s.launch.commitment with
        | none => completePassage s
        | some k =>
          if k.tray == tray && phaseOf (completePassage s) k.seq == some .committed then
            updateRecord Phase.isClaim k.seq (fun r => { r with phase := .announced }) (completePassage s)
          else completePassage s) := by
  obtain ⟨body, pass, asked, renewed, expired, spared⟩ := f
  obtain rfl : body = _ := hb
  have hlaunch : (completePassage s).launch = s.launch := rfl
  dsimp only [exec, execClaimCompletion]
  rw [hp]
  dsimp only
  rw [hlaunch]
  cases asked || expired with
  | true => rfl
  | false =>
    cases s.launch.commitment with
    | none => rfl
    | some k => cases hk : k.tray == tray && phaseOf (completePassage s) k.seq == some .committed <;> simp [hk]

theorem execHoldCompletion_eq {tray : Tray} {target : LaneOrdinal} (hb : f.body = .hold tray target) :
    exec .holdCompletion s = .next
      (if f.removalAsked then completePassage s else markHoldSent tray (completePassage s)) := by
  obtain ⟨body, pass, asked, renewed, expired, spared⟩ := f
  obtain rfl : body = _ := hb
  dsimp only [exec, execHoldCompletion]
  rw [hp]
  cases asked <;> rfl

theorem execFrameCompletion_plain (hb : (∃ tray span n, f.body = .vacate tray span n) ∨ f.body = .demand) :
    exec .frameCompletion s = .next (completePassage s) := by
  obtain ⟨body, pass, asked, renewed, expired, spared⟩ := f
  dsimp only [exec, execFrameCompletion]
  rw [hp]
  rcases hb with ⟨tray, span, n, hb⟩ | hb
  · obtain rfl : body = _ := hb
    rfl
  · obtain rfl : body = _ := hb
    rfl

theorem execFrameCompletion_stat (hb : f.body = .stat) :
    exec .frameCompletion s = .next (advanceGroup (completePassage s)) := by
  obtain ⟨body, pass, asked, renewed, expired, spared⟩ := f
  obtain rfl : body = _ := hb
  dsimp only [exec, execFrameCompletion]
  rw [hp]

end

/-- Settles O39, from the queue that a completion leaves and what each kind does with it. -/
theorem completedFramesReport : Obligations.CompletedFramesReport := by
  unfold Obligations.CompletedFramesReport
  intro s before after f hq hf hothers
  have hp := passageFrame_split hq hf hothers
  have hended := completePassage_split hq hf hothers
  refine ⟨fun tray span edge hb => ⟨fun hgone => ?_, fun k front back r hasked hexpired hk htray hrecord hphase => ?_⟩,
    fun tray target hb => ⟨fun hasked => ?_, fun hasked => ?_⟩, fun hb => ?_, fun hb => ?_⟩
  · rw [execClaimCompletion_eq hp hb, if_pos (by simpa using hgone), hended]
    rfl
  · have hmoved : FirstRecord (s.completed before f after) Phase.isClaim k.seq front r back :=
      ⟨hrecord.queue, hrecord.phase, hrecord.seq, hrecord.first⟩
    rw [execClaimCompletion_eq hp hb, hended, if_neg (by simp [hasked, hexpired]), hk]
    dsimp only
    rw [hmoved.phaseOf, if_pos (by simp [htray, hphase]), hmoved.updateRecord]
    rfl
  · rw [execHoldCompletion_eq hp hb, if_pos hasked, hended]
    rfl
  · rw [execHoldCompletion_eq hp hb, if_neg (by simp [hasked]), hended]
    simp only [markHoldSent, beq_iff_eq]
    rfl
  · rw [execFrameCompletion_plain hp hb, hended]
    rfl
  · rw [execFrameCompletion_stat hp hb, hended]
    rfl

end Sys2Proof.Machine
end

section

/-! PROOFS. The line interface at a tray edge event (R51, R72): which frames leave, are cut, or run on. -/

namespace Sys2Proof.Machine

variable {s : State} {f g : TxFrame} {e : Tray} {last : Bool} {count : Option Tray}

/-! ## The frames at their deadlines (R72) -/

/-- A frame at its deadline that runs to its end, and every other frame as it was. -/
def TxFrame.expires (count : Option Tray) (f : TxFrame) : TxFrame :=
  if deadlineReached count f then { f with expired := true } else f

theorem TxFrame.expires_of_due (h : deadlineReached count f = true) : f.expires count = { f with expired := true } :=
  if_pos h

theorem TxFrame.expires_of_not_due (h : deadlineReached count f = false) : f.expires count = f :=
  if_neg (by simp [h])

/-- No mark of the sender moves a deadline. -/
theorem deadlineReached_marked (asked expired : Bool) :
    deadlineReached count { f with removalAsked := asked, expired := expired } = deadlineReached count f := rfl

theorem mem_queueAfterDeadlines {q : List TxFrame} : g ∈ queueAfterDeadlines count last q ↔
    ∃ f ∈ q, (deadlineReached count f = true → f.inPassage = true ∧ last = true) ∧ g = f.expires count := by
  have hstays (f : TxFrame) : (!(deadlineReached count f && !(f.inPassage && last))) = true ↔
      (deadlineReached count f = true → f.inPassage = true ∧ last = true) := by
    cases deadlineReached count f <;> simp
  unfold queueAfterDeadlines
  rw [List.mem_map]
  constructor
  · rintro ⟨f, hf, rfl⟩
    obtain ⟨hq, hk⟩ := List.mem_filter.mp hf
    exact ⟨f, hq, (hstays f).mp hk, rfl⟩
  · rintro ⟨f, hf, hk, rfl⟩
    exact ⟨f, List.mem_filter.mpr ⟨hf, (hstays f).mpr hk⟩, rfl⟩

/-! ## What the deadlines tell the other blocks (R72, R116, R131) -/

/-- The line interface before it tells of the deadlines: the queue, and the passage that is cut (R72). -/
def lineCut (last : Bool) (s : State) : State :=
  let cut := passageCut s.tracker.count last s
  let s := withTxQueue s (queueAfterDeadlines s.tracker.count last s.line.queue)
  if cut then awaitStart (s.withLine { s.line with passage := none }) else s

theorem lineEvent_eq (last : Bool) (s : State) :
    lineEvent last s = (s.line.queue.filter (deadlineReached s.tracker.count)).foldl reportDeadline (lineCut last s) := rfl

@[simp] theorem lineCut_frame (last : Bool) (s : State) :
    (lineCut last s).lane = s.lane ∧ (lineCut last s).share = s.share ∧ (lineCut last s).launch = s.launch ∧
    (lineCut last s).report = s.report ∧
    (lineCut last s).line.queue = queueAfterDeadlines s.tracker.count last s.line.queue := by
  unfold lineCut
  dsimp only
  split <;> exact ⟨rfl, rfl, rfl, rfl, rfl⟩

/-- A claim that its frame's deadline abandons (R131). -/
def abandonsAt (s : State) (f : TxFrame) (k : Commitment) : Prop :=
  s.launch.commitment = some k ∧ phaseOf s k.seq = some .committed ∧ ∃ span, f.body = .claim k.tray span k.edge

/-- A deadline abandons the claim, drops a placed-hold entry, or tells nothing. -/
theorem reportDeadline_cases (s : State) (f : TxFrame) :
    (∃ k, abandonsAt s f k ∧ reportDeadline s f = abandon k s) ∨
    (∃ t j, f.body = .hold t j ∧ reportDeadline s f = dropHeld t s) ∨
    ((∀ t j, f.body ≠ .hold t j) ∧ (∀ k, ¬ abandonsAt s f k) ∧ reportDeadline s f = s) := by
  unfold reportDeadline abandonsAt
  cases hb : f.body with
  | hold t j => exact .inr (.inl ⟨t, j, rfl, rfl⟩)
  | claim t span edge =>
    cases hk : s.launch.commitment with
    | none => exact .inr (.inr ⟨nofun, nofun, rfl⟩)
    | some k =>
      dsimp only
      split
      next h =>
        simp only [Bool.and_eq_true, beq_iff_eq] at h
        obtain ⟨⟨rfl, rfl⟩, hp⟩ := h
        exact .inl ⟨k, ⟨rfl, hp, span, rfl⟩, rfl⟩
      next h =>
        refine .inr (.inr ⟨nofun, fun k' ⟨hk', hp, span', hb'⟩ => h ?_, rfl⟩)
        cases hk'
        cases hb'
        simp [hp]
  | vacate => exact .inr (.inr ⟨nofun, fun _ h => by simp at h, rfl⟩)
  | demand => exact .inr (.inr ⟨nofun, fun _ h => by simp at h, rfl⟩)
  | stat => exact .inr (.inr ⟨nofun, fun _ h => by simp at h, rfl⟩)

theorem abandon_line (k : Commitment) (s : State) : (abandon k s).line = (askRemoval TxBody.isClaim s).line := by
  simp [abandon]

theorem abandon_launch (k : Commitment) (s : State) :
    (abandon k s).launch.commitment = none := by
  simp [abandon, discardCommitment]

theorem abandon_report (k : Commitment) (s : State) :
    (abandon k s).report = { s.report with counters := s.report.counters.raise .abandons } := by
  simp [abandon, raise]

/-! ## Through all the deadlines of one event -/

/-- Where `P` lasts, and at the member `x` it turns into `Q`, which lasts as well, `Q` holds at the end. -/
theorem foldl_reaches {α : Type} {P Q : State → Prop} {op : State → α → State} {x : α} {l : List α} {u : State}
    (hx : x ∈ l) (hP : ∀ u y, P u → P (op u y)) (hturn : ∀ u, P u → Q (op u x)) (hQ : ∀ u y, Q u → Q (op u y))
    (h : P u) : Q (l.foldl op u) := by
  obtain ⟨near, far, rfl⟩ := List.append_of_mem hx
  rw [List.foldl_append, List.foldl_cons]
  exact foldl_keeps hQ far (hturn _ (foldl_keeps hP near h))

/-- A deadline leaves the line as it is, or asks the removal of CLAIM frames. -/
theorem reportDeadline_line (u : State) (f : TxFrame) :
    (reportDeadline u f).line = u.line ∨ (reportDeadline u f).line = (askRemoval TxBody.isClaim u).line := by
  rcases reportDeadline_cases u f with ⟨k, -, h⟩ | ⟨t, j, -, h⟩ | ⟨-, -, h⟩
  · exact .inr (by rw [h, abandon_line])
  · exact .inl (by rw [h, (dropHeld_frame _ _).2.2.2.2.2.2.1])
  · exact .inl (by rw [h])

/-- Of a frame that stays over the deadlines: it is in the queue, or it is a CLAIM whose removal was asked (R71). -/
def TxFrame.staysIn (f : TxFrame) (q : List TxFrame) : Prop :=
  f ∈ q ∨ f.body.isClaim = true ∧ (f.inPassage = false ∨ { f with removalAsked := true } ∈ q)

theorem TxFrame.staysIn_askRemoval (h : f.staysIn s.line.queue) :
    f.staysIn (askRemoval TxBody.isClaim s).line.queue := by
  cases hc : f.body.isClaim with
  | false =>
    obtain h | ⟨hclaim, -⟩ := h
    · exact .inl ((mem_askRemoval _ _ _).mpr (.inl ⟨h, hc⟩))
    · rw [hc] at hclaim
      cases hclaim
  | true =>
    refine .inr ⟨hc, ?_⟩
    by_cases hp : f.inPassage = true
    case neg => exact .inl (by simpa using hp)
    case pos =>
      have hmark (g : TxFrame) (hg : g ∈ s.line.queue) (hgc : g.body.isClaim = true) (hgp : g.inPassage = true) :
          { g with removalAsked := true } ∈ (askRemoval TxBody.isClaim s).line.queue :=
        (mem_askRemoval _ _ _).mpr (.inr ⟨g, hg, hgc, hgp, rfl⟩)
      obtain h | ⟨-, h | h⟩ := h
      · exact .inr (hmark f h hc hp)
      · exact absurd hp (by simp [h])
      · exact .inr (hmark { f with removalAsked := true } h hc hp)

theorem reportDeadline_staysIn (u : State) (y : TxFrame) (h : f.staysIn u.line.queue) :
    f.staysIn (reportDeadline u y).line.queue := by
  rcases reportDeadline_line u y with he | he <;> rw [he]
  · exact h
  · exact TxFrame.staysIn_askRemoval h

/-- Every frame that is not at its deadline, or runs over it, stays (R72). -/
theorem staysIn_lineEvent (hf : f ∈ s.line.queue)
    (h : deadlineReached s.tracker.count f = true → f.inPassage = true ∧ last = true) :
    (f.expires s.tracker.count).staysIn (lineEvent last s).line.queue := by
  rw [lineEvent_eq]
  refine foldl_keeps (P := fun u => (f.expires s.tracker.count).staysIn u.line.queue)
    (fun u y hu => reportDeadline_staysIn u y hu) _ (.inl ?_)
  rw [(lineCut_frame last s).2.2.2.2]
  exact mem_queueAfterDeadlines.mpr ⟨f, hf, h, rfl⟩

/-- A frame at its deadline that is still in the queue runs to its end in passage (R72). -/
def TxFrame.runsOver (count : Option Tray) (last : Bool) (f : TxFrame) : Prop :=
  deadlineReached count f = true → f.inPassage = true ∧ last = true ∧ f.expired = true

theorem runsOver_lineEvent (hf : f ∈ (lineEvent last s).line.queue) : f.runsOver s.tracker.count last := by
  have hcut : ∀ g ∈ (lineCut last s).line.queue, g.runsOver s.tracker.count last := by
    rw [(lineCut_frame last s).2.2.2.2]
    intro g hg
    obtain ⟨x, -, hx, rfl⟩ := mem_queueAfterDeadlines.mp hg
    cases hdue : deadlineReached s.tracker.count x with
    | true =>
      rw [TxFrame.expires_of_due hdue]
      exact fun _ => ⟨(hx hdue).1, (hx hdue).2, rfl⟩
    | false =>
      rw [TxFrame.expires_of_not_due hdue]
      exact fun h => absurd h (by simp [hdue])
  rw [lineEvent_eq] at hf
  refine foldl_keeps (P := fun u => ∀ g ∈ u.line.queue, g.runsOver s.tracker.count last) (fun u y hu => ?_) _ hcut f hf
  rcases reportDeadline_line u y with he | he <;> rw [he]
  · exact hu
  · intro g hg
    rcases (mem_askRemoval _ _ _).mp hg with ⟨hg, -⟩ | ⟨x, hx, -, -, rfl⟩
    · exact hu g hg
    · exact hu x hx

/-- Of the line, the deadlines' reports change the queue alone. -/
theorem lineEvent_passage (last : Bool) (s : State) :
    (lineEvent last s).line.passage = (lineCut last s).line.passage ∧
      (lineEvent last s).line.assembler = (lineCut last s).line.assembler := by
  rw [lineEvent_eq]
  refine foldl_keeps (P := fun u => u.line.passage = (lineCut last s).line.passage ∧
    u.line.assembler = (lineCut last s).line.assembler) (fun u y hu => ?_) _ ⟨rfl, rfl⟩
  rcases reportDeadline_line u y with he | he <;> rw [he]
  · exact hu
  · exact hu

/-- A frame in passage whose last bit has not begun is cut at its deadline (log entry 40). -/
theorem lineCut_of_cut (h : passageCut s.tracker.count last s = true) :
    (lineCut last s).line.passage = none ∧ (lineCut last s).line.assembler = .waiting := by
  unfold lineCut
  dsimp only
  rw [if_pos h]
  exact ⟨rfl, rfl⟩

theorem lineCut_of_not_cut (h : passageCut s.tracker.count last s = false) :
    (lineCut last s).line.passage = s.line.passage := by
  unfold lineCut
  dsimp only
  rw [if_neg (by simp [h])]
  rfl

/-- A HOLD at its deadline takes its placed-hold entry with it (R116). -/
theorem not_held_lineEvent {h : PlacedHold} {j : LaneOrdinal} (hf : f ∈ s.line.queue)
    (hdue : deadlineReached s.tracker.count f = true) (hb : f.body = .hold h.tray j) :
    h ∉ (lineEvent last s).share.held := by
  rw [lineEvent_eq]
  refine foldl_reaches (P := fun _ => True) (Q := fun u => h ∉ u.share.held)
    (List.mem_filter.mpr ⟨hf, hdue⟩) (fun _ _ _ => trivial) (fun u _ => ?_) (fun u y hu => ?_) trivial
  · simp [reportDeadline, hb, dropHeld]
  · rcases reportDeadline_cases u y with ⟨k, -, he⟩ | ⟨t, i, -, he⟩ | ⟨-, -, he⟩ <;> rw [he]
    · simpa using hu
    · exact fun hmem => hu (List.mem_of_mem_filter hmem)
    · exact hu

/-- The commitment of `s` stands in `u` as it stood. -/
def claimStands (s u : State) : Prop :=
  u.launch.commitment = s.launch.commitment ∧ u.lane = s.lane ∧ u.report.counters = s.report.counters

/-- The commitment of `s` has been abandoned in `u`, once. -/
def claimAbandoned (s u : State) : Prop :=
  u.launch.commitment = none ∧ u.report.counters = s.report.counters.raise .abandons

theorem reportDeadline_claimAbandoned {u : State} (y : TxFrame) (h : claimAbandoned s u) :
    claimAbandoned s (reportDeadline u y) := by
  rcases reportDeadline_cases u y with ⟨k, ⟨hk, -⟩, -⟩ | ⟨t, j, -, he⟩ | ⟨-, -, he⟩
  · rw [h.1] at hk
    cases hk
  · rw [he]
    exact h
  · rw [he]
    exact h

theorem reportDeadline_claimStands {u : State} (y : TxFrame) (h : claimStands s u) :
    claimStands s (reportDeadline u y) ∨ claimAbandoned s (reportDeadline u y) := by
  rcases reportDeadline_cases u y with ⟨k, -, he⟩ | ⟨t, j, -, he⟩ | ⟨-, -, he⟩ <;> rw [he]
  · exact .inr ⟨abandon_launch _ _, by rw [abandon_report, h.2.2]⟩
  · exact .inl h
  · exact .inl h

/-- A Committed CLAIM at its deadline abandons its claim, once (R131). -/
theorem abandoned_lineEvent {k : Commitment} (hk : s.launch.commitment = some k)
    (hp : phaseOf s k.seq = some .committed) (hf : f ∈ s.line.queue)
    (hdue : deadlineReached s.tracker.count f = true) (hb : f.body = .claim k.tray k.span k.edge) :
    (lineEvent last s).launch.commitment = none ∧
      (lineEvent last s).report.counters = s.report.counters.raise .abandons := by
  have hcut : claimStands s (lineCut last s) := by
    obtain ⟨hlane, -, hlaunch, hreport, -⟩ := lineCut_frame last s
    exact ⟨by rw [hlaunch], hlane, by rw [hreport]⟩
  rw [lineEvent_eq]
  refine foldl_reaches (P := fun u => claimStands s u ∨ claimAbandoned s u) (Q := claimAbandoned s)
    (List.mem_filter.mpr ⟨hf, hdue⟩) (fun u y hu => ?_) (fun u hu => ?_)
    (fun u y => reportDeadline_claimAbandoned y) (.inl hcut)
  · rcases hu with hu | hu
    · exact reportDeadline_claimStands y hu
    · exact .inr (reportDeadline_claimAbandoned y hu)
  · rcases hu with hu | hu
    · obtain ⟨hcommitment, hlane, hcounters⟩ := hu
      have hphase : phaseOf u k.seq = some .committed := by rw [← hp, phaseOf, phaseOf, recordOf, recordOf, hlane]
      have habandon : reportDeadline u f = abandon k u := by
        simp [reportDeadline, hb, hcommitment, hk, hphase]
      rw [habandon]
      exact ⟨abandon_launch _ _, by rw [abandon_report, hcounters]⟩
    · exact reportDeadline_claimAbandoned f hu

/-- With no frame at its deadline the line interface does nothing (R72). -/
theorem lineEvent_quiet (h : ∀ f ∈ s.line.queue, deadlineReached s.tracker.count f = false) :
    lineEvent last s = s := by
  have hreached : s.line.queue.filter (deadlineReached s.tracker.count) = [] :=
    List.filter_eq_nil_iff.mpr fun f hf => by simp [h f hf]
  have hqueue : queueAfterDeadlines s.tracker.count last s.line.queue = s.line.queue := by
    unfold queueAfterDeadlines
    rw [List.filter_eq_self.mpr fun f hf => by simp [h f hf]]
    exact (List.map_congr_left fun f hf => by simp [h f hf]).trans (List.map_id _)
  have hcut : passageCut s.tracker.count last s = false := by
    unfold passageCut passageFrame
    cases hfind : s.line.queue.find? (·.inPassage) with
    | none => rfl
    | some f => simp [h f (List.mem_of_find?_eq_some hfind)]
  rw [lineEvent_eq, hreached, lineCut, hqueue, hcut]
  rfl

end Sys2Proof.Machine
end

section

/-! PROOFS. The deadlines of a tray edge event (R51, R72): no block takes a VACATE out of the queue but its deadline,
and the statement that joins the deadlines: O41. -/

namespace Sys2Proof.Machine

variable {s : State} {f g : TxFrame}

/-! ## No other block takes a VACATE out of the queue (R69, R71) -/

section Vacates

variable (hv : g.body.isVacate = true)
include hv

theorem vacate_ne_stat : g.body ≠ .stat := by
  intro h
  rw [h] at hv
  cases hv

theorem vacate_ne_demand : g.body ≠ .demand := by
  intro h
  rw [h] at hv
  cases hv

theorem addHold_vacate (c : HoldCause) (hg : g ∈ s.line.queue) : g ∈ (addHold c s).line.queue :=
  mem_addHold c hg (TxBody.isClaim_of_isVacate hv) (vacate_ne_stat hv)

theorem removeHold_vacate (c : HoldCause) (hg : g ∈ s.line.queue) : g ∈ (removeHold c s).line.queue :=
  mem_removeHold c hg (vacate_ne_stat hv)

theorem resyncHold_vacate (hg : g ∈ s.line.queue) : g ∈ (resyncHold s).line.queue :=
  addHold_vacate hv _ (mem_resync hg (TxBody.isClaim_of_isVacate hv) (TxBody.isHold_of_isVacate hv))

theorem reportFault_vacate (cause : FaultCause) (hg : g ∈ s.line.queue) : g ∈ (reportFault cause s).line.queue := by
  unfold reportFault
  split
  · exact mem_enterFaulted cause hg hv
  · split
    · exact hg
    · exact hg

theorem abandon_vacate (k : Commitment) (hg : g ∈ s.line.queue) : g ∈ (abandon k s).line.queue := by
  rw [abandon_line]
  exact (mem_askRemoval _ _ _).mpr (.inl ⟨hg, TxBody.isClaim_of_isVacate hv⟩)

/-- What a tray edge event does to tracking keeps every VACATE. -/
theorem takeTurn_vacate (turn : TrayTurn) (loaded : Bool) (hg : g ∈ s.line.queue) :
    g ∈ (takeTurn turn loaded s).line.queue := by
  unfold takeTurn
  split
  · exact hg
  · unfold implausibleInterval
    dsimp only
    split
    · exact resyncHold_vacate hv hg
    · exact hg
  · exact hg
  · exact resyncHold_vacate hv hg
  · exact resyncHold_vacate hv (s := loseTracking s) hg
  · unfold advanceCount
    dsimp only
    split
    · exact removeHold_vacate hv _ hg
    · exact hg

theorem epochEvent_vacate (hg : g ∈ s.line.queue) : g ∈ (epochEvent s).line.queue := by
  unfold epochEvent
  split
  · have hrequested (u : State) (hu : g ∈ u.line.queue) : g ∈ (request .demand u).line.queue := by
      rw [request_eq]
      exact mem_requested hu (vacate_ne_demand hv)
    rw [epochBoundary_eq]
    refine mem_statInterval ?_ (vacate_ne_stat hv)
    exact mem_reportHorizon (s := State.withLaunch _ _) (hrequested (State.withShare _ _) hg) (TxBody.isClaim_of_isVacate hv) (vacate_ne_stat hv)
  · exact hg

omit hv in
theorem commitClaim_mem (r : Parcel) (e d : Tray) (span : Span) (cost : Nat) (hg : g ∈ s.line.queue) :
    g ∈ (commitClaim r e d span cost s).line.queue := by
  unfold commitClaim makeCommitment
  dsimp only
  repeat' split
  · exact mem_enqueue hg
  · exact hg
  · simpa [refuseClaim] using hg

omit hv in
theorem yieldTray_mem (d : Tray) (hg : g ∈ s.line.queue) : g ∈ (yieldTray d s).line.queue := by
  unfold yieldTray
  split
  · split
    · exact mem_enqueue hg
    · exact hg
  · exact hg

omit hv in
/-- A decision puts frames into the queue and takes none out. -/
theorem decideTray_mem (e d : Tray) (hg : g ∈ s.line.queue) : g ∈ (decideTray e d s).line.queue := by
  have hclaim (r : Parcel) (u : State) (hu : g ∈ u.line.queue) : g ∈ (makeClaim e d r u).line.queue := by
    refine commitClaim_mem _ _ _ _ _ ?_
    rw [foldl_line _ (fun u x => by simp)]
    exact hu
  have hcredit : g ∈ (addCredit s.share.share (setDecided d s)).line.queue := by simpa using hg
  unfold decideTray starveSecond
  dsimp only
  repeat' split
  · exact yieldTray_mem _ hcredit
  · exact hclaim _ _ hcredit
  · exact yieldTray_mem _ hcredit
  · exact yieldTray_mem _ hcredit
  · exact hg
  · exact hg

theorem shareEvent_vacate (hg : g ∈ s.line.queue) : g ∈ (shareEvent s).line.queue := by
  unfold shareEvent
  split
  · exact epochEvent_vacate hv hg
  · rename_i e _
    have hepoch : g ∈ (passOver e s.launch.horizon (epochEvent (expireHolds e s))).line.queue := by
      simpa using epochEvent_vacate hv (s := expireHolds e s) (by simpa using hg)
    dsimp only
    split
    · split
      · exact decideTray_mem _ _ (by simpa using hepoch)
      · simpa using hepoch
    · exact hepoch

theorem launchEvent_vacate (reading : Option Bool) (hg : g ∈ s.line.queue) : g ∈ (launchEvent reading s).line.queue := by
  have hverdict (u : State) (hu : g ∈ u.line.queue) : g ∈ (takeVerdict u).line.queue := by
    unfold takeVerdict
    repeat' split
    · exact hu
    · exact hu
    · exact hu
    · exact reportFault_vacate hv _ (mem_offerVacate _ _ hu hv)
  have hflight : g ∈ (flightEvent reading s).line.queue := by
    unfold flightEvent
    split
    · exact hg
    · dsimp only
      split
      · exact hg
      · exact hverdict _ hg
  unfold launchEvent commitmentEvent
  dsimp only
  repeat' split
  · exact hflight
  · exact hflight
  · exact hflight
  · exact abandon_vacate hv _ hflight
  · exact hflight

end Vacates

/-! ## A tray edge event's deadlines (R72) -/

/-- What the line interface finds at a tray edge event. -/
theorem execTrayEdgeEvent_line (home load confirm last : Bool) (ha : active s = true) :
    ∃ u t, exec (.trayEdgeEvent home load confirm last) s = .next t ∧ t.line = (lineEvent last u).line ∧
      ∀ g ∈ (ageVacates s).line.queue, g.body.isVacate = true → g ∈ u.line.queue := by
  refine ⟨launchEvent (confirmReading s.tracker) (shareEvent
    (takeTurn (trayTurn s.cfg home s.tracker) load (trackerTimes confirm (ageVacates s)))), _,
    by dsimp only [exec, execTrayEdgeEvent]; rw [if_pos ha], by simp, fun g hg hv => ?_⟩
  exact launchEvent_vacate hv _ (shareEvent_vacate hv (takeTurn_vacate hv _ _ hg))

theorem mem_ageVacates {tray : Tray} {span : Span} {n : Nat} (hf : f ∈ s.line.queue) (hb : f.body = .vacate tray span n) :
    { f with body := .vacate tray span (n - 1) } ∈ (ageVacates s).line.queue :=
  List.mem_map.mpr ⟨f, hf, by rw [hb]⟩

/-- Which frames are at their deadlines at the count e (R72). -/
theorem deadlineReached_iff (f : TxFrame) (e : Tray) :
    deadlineReached (some e) f = true ↔ match f.body with
      | .claim _ _ edge => edge = e ∧ f.spared = false
      | .hold t _ => t = e ∧ f.spared = false
      | .vacate _ _ n => n = 0
      | .demand | .stat => False := by
  unfold deadlineReached
  cases f.body <;> simp [eq_comm (a := e)]

/-- Settles O41, from the frames that run over their deadlines and what the deadlines tell. -/
theorem framesReachTheirDeadlines : Obligations.FramesReachTheirDeadlines := by
  unfold Obligations.FramesReachTheirDeadlines
  refine ⟨fun s e last he => ?_, fun s home load confirm last ha => ?_⟩
  · have hdue (f : TxFrame) := deadlineReached_iff f e
    rw [← he] at hdue
    refine ⟨fun f hf hnot => ?_, fun f hf h => ?_, fun hlast => ⟨?_, fun f hf h hp => ?_⟩, fun hpass hlast => ?_,
      fun h hh hf => ?_, fun k f hk hp hf h hb hedge => ?_, fun hnone => ?_⟩
    · have hfree : deadlineReached s.tracker.count f = false := Bool.eq_false_iff.mpr (mt (hdue f).mp hnot)
      have hstays := staysIn_lineEvent (last := last) hf fun h => absurd h (by simp [hfree])
      rw [TxFrame.expires_of_not_due hfree] at hstays
      obtain h | ⟨hc, h | h⟩ := hstays
      · exact .inl h
      · exact .inr (.inl ⟨hc, h⟩)
      · exact .inr (.inr ⟨hc, h⟩)
    · exact runsOver_lineEvent hf ((hdue f).mpr h)
    · rw [(lineEvent_passage last s).1, lineCut_of_not_cut]
      simp [passageCut, hlast]
    · have hstays := staysIn_lineEvent (last := last) hf fun _ => ⟨hp, hlast⟩
      rw [TxFrame.expires_of_due ((hdue f).mpr h)] at hstays
      obtain h | ⟨-, h | h⟩ := hstays
      · exact ⟨f.removalAsked, h⟩
      · rw [hp] at h
        cases h
      · exact ⟨true, h⟩
    · obtain ⟨before, f, after, hq, hp, h, hbefore⟩ := hpass
      have hframe : passageFrame s = some f := by
        rw [passageFrame, hq, List.find?_append, List.find?_eq_none.mpr fun g hg => by simp [hbefore g hg]]
        simp [hp]
      have hcut : passageCut s.tracker.count last s = true := by
        simp [passageCut, hframe, (hdue f).mpr h, hlast]
      rw [(lineEvent_passage last s).1, (lineEvent_passage last s).2]
      exact lineCut_of_cut hcut
    · obtain ⟨f, hf, h, j, hb⟩ := hf
      exact not_held_lineEvent hf ((hdue f).mpr h) hb
    · exact abandoned_lineEvent hk hp hf ((hdue f).mpr h) (by rw [hb, hedge])
    · exact lineEvent_quiet fun f hf => Bool.eq_false_iff.mpr (mt (hdue f).mp (hnone f hf))
  · obtain ⟨u, t, hexec, hline, hkept⟩ := execTrayEdgeEvent_line home load confirm last ha
    refine ⟨t, hexec, fun f tray span n hf hb => ⟨fun hn => ?_, fun hn hp hlast => ?_⟩, fun f tray span hf hb => ?_⟩
    · have hu := hkept _ (mem_ageVacates hf hb) rfl
      have hnot : deadlineReached u.tracker.count { f with body := .vacate tray span (n - 1) } = false :=
        beq_eq_false_iff_ne.mpr (by omega)
      have hstays := staysIn_lineEvent (last := last) hu fun hdue => absurd hdue (by simp [hnot])
      rw [TxFrame.expires_of_not_due hnot] at hstays
      rw [hline]
      exact hstays.resolve_right fun h => nomatch h.1
    · have hu := hkept _ (mem_ageVacates hf hb) rfl
      have hzero : n - 1 = 0 := by omega
      rw [hzero] at hu
      have hstays := staysIn_lineEvent (last := last) hu fun _ => ⟨hp, hlast⟩
      rw [TxFrame.expires_of_due rfl] at hstays
      rw [hline]
      exact hstays.resolve_right fun h => nomatch h.1
    · rw [hline] at hf
      exact runsOver_lineEvent hf (by simp [deadlineReached, hb])

end Sys2Proof.Machine
end

section

/-! PROOFS. What a tray edge event does to the tracker and the window, as the states that the other blocks then take
(R39 to R50, R78, R79): O21. -/

namespace Sys2Proof.Machine

variable {s t : State} {home load confirm last : Bool} {h : List Ticks} {x : Ticks} {e : Tray}

/-! ## The interval (R40 to R42) -/

theorem plausible_iff (pitch x : Nat) (p : Option Ticks) :
    plausible pitch p x = true ↔ pitch * 10 ≤ 3 * x ∧ x ≤ pitch * 20 ∧ ∀ m, p = some m → m ≤ 2 * x ∧ x ≤ 2 * m := by
  have hlower : lowerBound pitch ≤ x ↔ pitch * 10 ≤ 3 * x := by
    show (pitch * 10 + 3 - 1) / 3 ≤ x ↔ _
    omega
  have hupper : x ≤ upperBound pitch ↔ x ≤ pitch * 20 := Iff.rfl
  cases p <;> simp only [plausible, Bool.and_eq_true, decide_eq_true_eq, hlower, hupper] <;> simp [and_assoc]

theorem period_eq (s : State) :
    period s = if s.tracker.history.length = 8 then some ((2 * s.tracker.history.sum + 8) / 16) else none := by
  have hroom : Config.historyRoom = 8 := rfl
  simp [period, meanPeriod, divHalfUp, hroom]

/-- What the history is once a plausible interval, or none, has ended (R40, R42). -/
def historyFits (s : State) (h : List Ticks) : Prop :=
  (s.tracker.timer = none ∧ h = s.tracker.history) ∨
    ∃ x, s.tracker.timer = some x ∧ plausible s.cfg.pitch (period s) x = true ∧
      h = (if s.tracker.history.length < 8 then s.tracker.history else s.tracker.history.drop 1) ++ [x]

theorem historyFits.plausible (hh : historyFits s h) : intervalPlausible s.cfg s.tracker = true := by
  obtain ⟨ht, -⟩ | ⟨x, ht, hp, -⟩ := hh
  · simp [intervalPlausible, ht]
  · simpa [intervalPlausible, ht, period] using hp

theorem historyFits.after (hh : historyFits s h) : historyAfter s.tracker = h := by
  obtain ⟨ht, rfl⟩ | ⟨x, ht, -, rfl⟩ := hh
  · simp [historyAfter, ht]
  · have hroom : Config.historyRoom = 8 := rfl
    simp only [historyAfter, ht, joinHistory, hroom]
    split <;> rfl

theorem intervalPlausible_false (ht : s.tracker.timer = some x) (hp : plausible s.cfg.pitch (period s) x = false) :
    intervalPlausible s.cfg s.tracker = false := by
  simpa [intervalPlausible, ht, period] using hp

/-! ## The blocks behind the tracker (R48, R72, R107, R131) -/

/-- What the other blocks make of a tray edge event once the tracker has taken it. -/
def trayOutcome (reading : Option Bool) (last : Bool) (turned : State) : State :=
  settleLane (lineEvent last (commitmentEvent turned.tracker.count (flightEvent reading (shareEvent turned))))

theorem execTrayEdgeEvent_eq (ha : active s = true) :
    exec (.trayEdgeEvent home load confirm last) s = .next (trayOutcome (confirmReading s.tracker) last
      (takeTurn (trayTurn s.cfg home s.tracker) load (trackerTimes confirm (ageVacates s)))) := by
  have htracker (reading : Option Bool) (u : State) :
      launchEvent reading (shareEvent u) = commitmentEvent u.tracker.count (flightEvent reading (shareEvent u)) := by
    simp [launchEvent]
  dsimp only [exec, execTrayEdgeEvent]
  rw [if_pos ha, htracker]
  rfl

/-- The state at which the tracker turns: each VACATE has one event fewer (log entry 28), and the tracker its
interval, history and latch. -/
def State.timed (s : State) (confirm : Bool) (h : List Ticks) : State :=
  { ageVacates s with tracker :=
      { s.tracker with history := h, timer := some 0, latch := confirm, latchBegun := true } }

theorem historyFits.times (hh : historyFits s h) : trackerTimes confirm (ageVacates s) = s.timed confirm h := by
  have hcfg : (ageVacates s).cfg = s.cfg := rfl
  have htracker : (ageVacates s).tracker = s.tracker := rfl
  rw [trackerTimes, hcfg, htracker, if_pos hh.plausible, hh.after]
  rfl

/-! ## The turned states (R43 to R47, R50, R78, R79) -/

/-- The state once an implausible interval has been reported, and the count lost (R47). -/
def State.missed (s : State) (confirm : Bool) : State :=
  { s.timed confirm [] with
    tracker := ({ s.tracker with history := [], timer := some 0, latch := confirm, latchBegun := true } : Tracker).lost
    report := s.report.trayTimingFault }

theorem takeTurn_implausible (ht : s.tracker.timer = some x) (hp : plausible s.cfg.pitch (period s) x = false) :
    takeTurn (trayTurn s.cfg home s.tracker) load (trackerTimes confirm (ageVacates s)) =
      if tracked s then addHold .tracking (resync (s.missed confirm)) else s.missed confirm := by
  have hnot := intervalPlausible_false ht hp
  have htimes : trackerTimes confirm (ageVacates s) = s.timed confirm s.tracker.history := by
    have hcfg : (ageVacates s).cfg = s.cfg := rfl
    have htracker : (ageVacates s).tracker = s.tracker := rfl
    rw [trackerTimes, hcfg, htracker, if_neg (by simp [hnot])]
    rfl
  rw [trayTurn_of_implausible hnot, htimes]
  rfl

/-- The window of the trays ahead of tray 0 (R78). -/
def builtEntries (c : Settings) : List Entry :=
  (List.range c.window).map (fun i =>
    { tray := (i + 1) % c.trays, reading := .unread, governing := none, mark := .none, decided := false })

theorem enterFilling_eq (s : State) : enterFilling s =
    { s with tracker := s.tracker.filling, window := { s.window with entries := builtEntries s.cfg } } := by
  have hbuilt (u : State) : buildWindow u = withEntries u (builtEntries u.cfg) := by
    simp [buildWindow, builtEntries, trayAdd, Entry.fresh]
  rw [enterFilling, hbuilt]
  rfl

theorem foldl_moveIn (l : List PendingNotice) (x : Entry) :
    l.foldl moveIn x = (l.filter (fun n => !n.superseded)).foldl (fun x n => x.take n.part) x := by
  induction l generalizing x with
  | nil => rfl
  | cons n l ih => cases hn : n.superseded <;> simp [moveIn, hn, ih]

/-- The entry that a turnover makes at the far end (R79, R96). -/
def farEntry (s : State) (load : Bool) (far : Tray) : Entry :=
  ((s.window.pending.filter (fun n => n.part.tray == far)).filter (fun n => !n.superseded)).foldl
    (fun x n => x.take n.part)
    { tray := far, reading := if load then .loaded else .empty, governing := none, mark := .none, decided := false }

/-- The window after its turnover at the count `now` (R79). -/
def turnedWindow (s : State) (load : Bool) (now : Tray) : Window :=
  { entries := s.window.entries.filter (fun x => x.tray != now) ++
      [farEntry s load ((now + s.cfg.window) % s.cfg.trays)]
    pending := s.window.pending.filter (fun n => n.part.tray != (now + s.cfg.window) % s.cfg.trays) }

theorem turnover_eq (now : Tray) (load : Bool) (s : State) :
    turnover now load s = { s with window := turnedWindow s load now } := by
  simp only [turnover, foldl_moveIn, trayAdd]
  rfl

/-- The tracker and the window once the count has advanced (R43, R44, R79). -/
def advancedState (now sinceHome : Nat) (load : Bool) (s : State) : State :=
  { s with
    tracker := { s.tracker with
      count := some now
      sinceHome := sinceHome
      fillEvents := if s.tracker.tracking = .filling then s.tracker.fillEvents + 1 else s.tracker.fillEvents
      tracking := if s.tracker.tracking = .filling ∧ s.tracker.fillEvents + 1 = s.cfg.window then .locked
        else s.tracker.tracking }
    window := turnedWindow s load now }

theorem advanceCount_eq (now sinceHome : Nat) (load : Bool) (s : State) :
    advanceCount now sinceHome load s =
      if s.tracker.tracking = .filling ∧ s.tracker.fillEvents + 1 = s.cfg.window then
        removeHold .tracking (advancedState now sinceHome load s)
      else advancedState now sinceHome load s := by
  unfold advanceCount
  simp only [turnover_eq, beq_iff_eq, Bool.and_eq_true]
  rfl

/-! ## What each turn hands on -/

theorem execTrayEdgeEvent_of_turn {turned : State} (ha : active s = true)
    (hturn : takeTurn (trayTurn s.cfg home s.tracker) load (trackerTimes confirm (ageVacates s)) = turned) :
    exec (.trayEdgeEvent home load confirm last) s =
      .next (trayOutcome (confirmReading s.tracker) last turned) := by
  rw [execTrayEdgeEvent_eq ha, hturn]

theorem resyncHold_window (s : State) : (resyncHold s).window = { entries := [], pending := [] } := by
  simp [resyncHold, resync_eq]

theorem takeTurn_homeMismatch (load : Bool) (s : State) :
    takeTurn .homeMismatch load s =
      { resyncHold s with
        tracker := s.tracker.filling
        window := { entries := builtEntries s.cfg, pending := [] }
        report := { s.report with counters := s.report.counters.raise .homeMismatches } } := by
  obtain ⟨-, htracker, -, hreport, -, -, hcfg⟩ := resyncHold_frame s
  have hwindow := resyncHold_window s
  show raise .homeMismatches (enterFilling (resyncHold s)) = _
  rw [enterFilling_eq, htracker, hwindow, hcfg, ← hreport]
  rfl

theorem takeTurn_homeMissing (load : Bool) (s : State) :
    takeTurn .homeMissing load s =
      { resyncHold { s with tracker := s.tracker.lost } with
        report := { s.report with counters := s.report.counters.raise .homeMismatches } } := by
  obtain ⟨-, -, -, hreport, -⟩ := resyncHold_frame { s with tracker := s.tracker.lost }
  show raise .homeMismatches (resyncHold { s with tracker := s.tracker.lost }) = _
  rw [raise, hreport]
  rfl

theorem takeTurn_advances (now sinceHome : Nat) (load : Bool) (s : State) :
    takeTurn (.advances now sinceHome) load s = advanceCount now sinceHome load s := rfl

/-- The turn that a tracked event with a fitting home takes (R44). -/
theorem trayTurn_advances (hp : intervalPlausible s.cfg s.tracker = true) (ht : s.tracker.tracking ≠ .unsynced)
    (he : s.tracker.count = some e)
    (hhome : (home = true ∧ e + 1 = s.cfg.trays) ∨ (home = false ∧ s.tracker.sinceHome + 1 ≠ s.cfg.trays)) :
    trayTurn s.cfg home s.tracker = .advances (if home then 0 else (e + 1) % s.cfg.trays)
      (if home then 0 else s.tracker.sinceHome + 1) := by
  rw [trayTurn_of_tracked hp ht he]
  obtain ⟨rfl, hround⟩ | ⟨rfl, hround⟩ := hhome
  · simp [hround]
  · simp [hround]

/-! ## An event that only counts (R102, R106) -/

/-- The tracker and the window of an event that only counts. -/
def quietTurn (s : State) (load confirm : Bool) (now : Tray) : State :=
  { s with
    tracker := { s.tracker with
      history := historyAfter s.tracker, timer := some 0, latch := confirm, latchBegun := true
      count := some now, sinceHome := s.tracker.sinceHome + 1 }
    window := turnedWindow s load now }

theorem ageVacates_of_empty (hq : s.line.queue = []) : ageVacates s = s := by
  unfold ageVacates withTxQueue
  rw [hq, List.map_nil, ← hq]
  rfl

theorem takeTurn_quiet (ht : s.tracker.tracking = .locked) (he : s.tracker.count = some e)
    (hp : intervalPlausible s.cfg s.tracker = true) (hhome : s.tracker.sinceHome + 1 ≠ s.cfg.trays)
    (hq : s.line.queue = []) :
    takeTurn (trayTurn s.cfg false s.tracker) load (trackerTimes confirm (ageVacates s)) =
      quietTurn s load confirm ((e + 1) % s.cfg.trays) := by
  rw [trayTurn_advances hp (by simp [ht]) he (.inr ⟨rfl, hhome⟩), ageVacates_of_empty hq, takeTurn_advances,
    advanceCount_eq, if_neg (by simp [trackerTimes, ht]), trackerTimes, if_pos hp]
  simp [advancedState, quietTurn, ht, turnedWindow, farEntry]

theorem countFree_eq (t : Tray) (s : State) : countFree t s = { s with share := { s.share with
    freeCount := if freeTray s t then min (s.share.freeCount + 1) 8 else s.share.freeCount } } := by
  unfold countFree
  split <;> rfl

/-- The share unit at an event that only counts: the epoch count and the free-tray count (R102, R106). -/
theorem shareEvent_quiet {now : Tray} (hc : s.tracker.count = some now) (ht : s.tracker.tracking = .locked)
    (hm : s.station.mode ≠ .running) (hepoch : s.share.epochCount < 7) (hheld : s.share.held = []) :
    shareEvent s = { s with share := { s.share with
      epochCount := s.share.epochCount + 1
      freeCount := if freeTray s ((now + s.launch.horizon) % s.cfg.trays) then min (s.share.freeCount + 1) 8
        else s.share.freeCount } } := by
  have hexpire : expireHolds now s = s := by
    unfold expireHolds
    simp only [hheld, List.filter_nil, List.foldl_nil]
    rw [← hheld]
    rfl
  have hcounted : epochEvent s = { s with share := { s.share with epochCount := s.share.epochCount + 1 } } := by
    have hlength : Config.epochLength = 8 := rfl
    rw [epochEvent, if_neg]
    · rfl
    · simp only [boundaryNext, hlength, beq_iff_eq]
      omega
  have hpassed (u : State) : passOver now u.launch.horizon u = u := by simp [passOver]
  unfold shareEvent
  rw [hc]
  dsimp only
  rw [hexpire, hcounted]
  rw [hpassed { s with share := { s.share with epochCount := s.share.epochCount + 1 } }, if_pos (by simp [ht]), if_neg]
  · rw [countFree_eq]
    rfl
  · simp [decisionDue, hm]

/-- With nothing claimed, launched or queued the blocks behind the share unit find nothing to do. -/
theorem trayOutcome_quiet {reading : Option Bool} (hk : (shareEvent s).launch.commitment = none)
    (hf : (shareEvent s).launch.flight = none) (hq : (shareEvent s).line.queue = []) :
    trayOutcome reading last s = settleLane (shareEvent s) := by
  have hflight : flightEvent reading (shareEvent s) = shareEvent s := by simp [flightEvent, hf]
  have hcommitment (count : Option Tray) : commitmentEvent count (shareEvent s) = shareEvent s := by
    simp [commitmentEvent, hk]
  rw [trayOutcome, hflight, hcommitment, lineEvent_quiet (by simp [hq])]

/-- What follows from the lane's conditions does not look at the tracker, the window or the share unit. -/
theorem settleLane_with (s : State) (k : Tracker) (w : Window) (y : Share) :
    settleLane { s with tracker := k, window := w, share := y } =
      { s with lane := (settleLane s).lane, tracker := k, window := w, share := y } := by
  have haccepts : accepts { s with tracker := k, window := w, share := y } = accepts s := rfl
  unfold settleLane acceptWaiting
  rw [haccepts]
  cases accepts s <;> rfl

/-- Settles O21, from the turned states and, for the quiet event, the blocks that find nothing to do. -/
theorem trayEdgeEventsTurnOver : Obligations.TrayEdgeEventsTurnOver := by
  unfold Obligations.TrayEdgeEventsTurnOver
  refine ⟨fun s home load confirm last ha => ⟨fun x hx hp => ⟨fun ht => ?_, fun ht => ?_⟩, fun h (hh : historyFits s h) =>
    ⟨fun ht hfull => ?_, fun ht hnot => ?_, fun e ht he => ⟨fun hhome hround => ?_, fun hhome hround => ?_,
      fun hhome => ⟨fun hlocks => ?_, fun hlocks => ?_⟩⟩⟩⟩, ?quiet⟩
  · refine execTrayEdgeEvent_of_turn ha ((takeTurn_implausible hx hp).trans (if_neg ?_))
    simp [tracked, ht]
  · refine execTrayEdgeEvent_of_turn ha ((takeTurn_implausible hx hp).trans (if_pos ?_))
    simp [tracked, ht]
  · refine execTrayEdgeEvent_of_turn ha ?_
    rw [trayTurn_of_unsynced hh.plausible ht, hh.after, if_pos hfull, hh.times]
    exact enterFilling_eq _
  · refine execTrayEdgeEvent_of_turn ha ?_
    rw [trayTurn_of_unsynced hh.plausible ht, hh.after, if_neg hnot, hh.times]
    rfl
  · refine execTrayEdgeEvent_of_turn ha ?_
    rw [trayTurn_of_tracked hh.plausible ht he, if_pos hhome, if_neg hround, hh.times]
    exact takeTurn_homeMismatch _ _
  · refine execTrayEdgeEvent_of_turn ha ?_
    rw [trayTurn_of_tracked hh.plausible ht he, if_neg (by simp [hhome]), if_pos hround, hh.times]
    exact takeTurn_homeMissing _ _
  · refine execTrayEdgeEvent_of_turn ha ?_
    rw [trayTurn_advances hh.plausible ht he hhome, hh.times, takeTurn_advances, advanceCount_eq]
    exact if_pos hlocks
  · refine execTrayEdgeEvent_of_turn ha ?_
    rw [trayTurn_advances hh.plausible ht he hhome, hh.times, takeTurn_advances, advanceCount_eq]
    exact if_neg hlocks
  case quiet =>
    intro s e load confirm last hm ht he hp hhome hepoch hheld hcommitment hflight hqueue
    have hactive : active s = true := by rcases hm with hm | hm <;> simp [active, hm]
    have hidle : s.station.mode ≠ .running := by rcases hm with hm | hm <;> simp [hm]
    have hshare := shareEvent_quiet (s := quietTurn s load confirm ((e + 1) % s.cfg.trays)) rfl ht hidle hepoch hheld
    have hout : trayOutcome (confirmReading s.tracker) last (quietTurn s load confirm ((e + 1) % s.cfg.trays)) = _ :=
      (trayOutcome_quiet (by rw [hshare]; exact hcommitment) (by rw [hshare]; exact hflight)
        (by rw [hshare]; exact hqueue)).trans ((congrArg settleLane hshare).trans (settleLane_with s _ _ _))
    exact ⟨_, (execTrayEdgeEvent_of_turn hactive (takeTurn_quiet ht he hp hhome hqueue)).trans
      (congrArg Host.Outcome.next hout), rfl⟩

end Sys2Proof.Machine
end

section

/-! PROOFS. A tray edge event on tracking (R39 to R47): O20. -/

namespace Sys2Proof.Machine

variable {s : State} {x : Report} {home load confirm last : Bool} {h : List Ticks}

/-! ## The tracker's faults are counted by the tracker alone (R45 to R47) -/

/-- The counters and the flag of the tracker's faults stand as in the report `x`. -/
def TimingKept (x : Report) (s : State) : Prop :=
  s.report.counters.timingFaults = x.counters.timingFaults ∧
    s.report.counters.homeMismatches = x.counters.homeMismatches ∧ s.report.flags.trayTiming = x.flags.trayTiming

theorem TimingKept.of_report {t : State} (hk : TimingKept x s) (ht : t.report = s.report) : TimingKept x t := by
  unfold TimingKept
  rw [ht]
  exact hk

/-- An occurrence of another block leaves them. -/
theorem raise_timingKept {c : Counter} (hc : c ≠ .timingFaults) (hc' : c ≠ .homeMismatches) (hk : TimingKept x s) :
    TimingKept x (raise c s) := by
  cases c
  case timingFaults => exact absurd rfl hc
  case homeMismatches => exact absurd rfl hc'
  all_goals exact hk

theorem setFlag_timingKept {f : Flag} (hf : f ≠ .trayTiming) (hk : TimingKept x s) : TimingKept x (setFlag f s) := by
  cases f
  case trayTiming => exact absurd rfl hf
  all_goals exact hk

theorem abandon_timingKept (k : Commitment) (hk : TimingKept x s) : TimingKept x (abandon k s) :=
  raise_timingKept (by decide) (by decide) (hk.of_report (by simp))

theorem commitmentEvent_timingKept (count : Option Tray) (hk : TimingKept x s) :
    TimingKept x (commitmentEvent count s) := by
  unfold commitmentEvent
  repeat' split
  · exact hk
  · exact hk
  · exact hk
  · exact abandon_timingKept _ hk
  · exact hk

theorem takeVerdict_timingKept (hk : TimingKept x s) : TimingKept x (takeVerdict s) := by
  unfold takeVerdict
  repeat' split
  · exact hk
  · exact hk
  · exact raise_timingKept (by decide) (by decide) (hk.of_report (by simp))
  · refine TimingKept.of_report (setFlag_timingKept (f := .lostParcel) (by decide) (hk.of_report ?_))
      (reportFault_frame _ _).2.2.2.2.1
    simp

theorem flightEvent_timingKept (reading : Option Bool) (hk : TimingKept x s) :
    TimingKept x (flightEvent reading s) := by
  unfold flightEvent
  dsimp only
  repeat' split
  · exact hk
  · exact hk
  · exact takeVerdict_timingKept hk

theorem epochEvent_timingKept (hk : TimingKept x s) : TimingKept x (epochEvent s) := by
  unfold epochEvent
  split
  · unfold TimingKept
    rw [epochBoundary_eq, statInterval_report]
    simpa [TimingKept] using hk
  · exact hk

theorem expireHolds_timingKept (e : Tray) (hk : TimingKept x s) : TimingKept x (expireHolds e s) := by
  have hlapse (u : State) (j : LaneOrdinal) (hu : TimingKept x u) : TimingKept x (recordLapse j u) := by
    have hraised : TimingKept x (raise .lapses (updatePeer j Peer.lapse u)) :=
      raise_timingKept (by decide) (by decide) (hu.of_report (by simp))
    unfold recordLapse
    dsimp only
    split
    · exact setFlag_timingKept (by decide) hraised
    · exact hraised
  exact foldl_keeps (P := TimingKept x) (fun u a hu => hlapse u a.target hu) _ hk

theorem decideTray_timingKept (e d : Tray) (hk : TimingKept x s) : TimingKept x (decideTray e d s) := by
  have hyield (u : State) (hu : TimingKept x u) : TimingKept x (yieldTray d u) := by
    unfold yieldTray
    repeat' split
    · exact raise_timingKept (by decide) (by decide) (hu.of_report (by simp))
    · exact hu
    · exact hu
  unfold decideTray
  dsimp only
  repeat' split
  · exact hyield _ (hk.of_report (by simp))
  · exact hk.of_report (by simp)
  · exact hyield _ (hk.of_report (by simp))
  · exact hk.of_report (by simp)
  · exact hk.of_report (by simp)

theorem shareEvent_timingKept (hk : TimingKept x s) : TimingKept x (shareEvent s) := by
  unfold shareEvent
  split
  · exact epochEvent_timingKept hk
  · rename_i e _
    have hpassed : TimingKept x (passOver e s.launch.horizon (epochEvent (expireHolds e s))) :=
      (epochEvent_timingKept (expireHolds_timingKept e hk)).of_report (by simp)
    dsimp only
    split
    · split
      · exact decideTray_timingKept _ _ (hpassed.of_report (by simp))
      · exact hpassed.of_report (by simp)
    · exact hpassed

theorem lineEvent_timingKept (last : Bool) (hk : TimingKept x s) : TimingKept x (lineEvent last s) := by
  rw [lineEvent_eq]
  refine foldl_keeps (P := TimingKept x) (fun u f hu => ?_) _ (hk.of_report (by simp))
  rcases reportDeadline_cases u f with ⟨k, -, he⟩ | ⟨t, j, -, he⟩ | ⟨-, -, he⟩ <;> rw [he]
  · exact abandon_timingKept k hu
  · exact hu.of_report (by simp)
  · exact hu

/-- What the blocks behind the tracker leave of its own figures. -/
theorem trayOutcome_tracker (reading : Option Bool) (last : Bool) (s : State) :
    (trayOutcome reading last s).tracker = s.tracker ∧ TimingKept s.report (trayOutcome reading last s) := by
  have hshare : TimingKept s.report (shareEvent s) := shareEvent_timingKept ⟨rfl, rfl, rfl⟩
  have hline := lineEvent_timingKept last (commitmentEvent_timingKept s.tracker.count
    (flightEvent_timingKept reading hshare))
  unfold trayOutcome
  exact ⟨by simp, hline.of_report (by simp)⟩

/-- The interval timer starts again and the latch takes the confirm eye's level at every turn (R39, R40). -/
theorem turned_times (turn : TrayTurn) (window : Nat) (k : Tracker) :
    (k.turned turn window).timer = k.timer ∧ (k.turned turn window).latch = k.latch ∧
      (k.turned turn window).latchBegun = k.latchBegun := by
  cases turn <;> exact ⟨rfl, rfl, rfl⟩

/-- The history stays as the interval has made it, but at an implausible interval (R42, R47). -/
theorem turned_history {turn : TrayTurn} (h : turn ≠ .implausible) (window : Nat) (k : Tracker) :
    (k.turned turn window).history = k.history := by
  cases turn
  case implausible => exact absurd rfl h
  all_goals rfl

theorem trayTurn_ne_implausible (hp : intervalPlausible s.cfg s.tracker = true) :
    trayTurn s.cfg home s.tracker ≠ .implausible := by
  unfold trayTurn
  rw [if_neg (by simp [hp])]
  dsimp only
  repeat' split
  all_goals exact nofun

/-- An event's turn is counted as a mismatch where home is out of its place (R45, R46). -/
theorem takeTurn_report_home {turn : TrayTurn} (h : turn = .homeMismatch ∨ turn = .homeMissing) (load : Bool)
    (s : State) :
    (takeTurn turn load s).report.counters.homeMismatches = min (s.report.counters.homeMismatches + 1) 65535 := by
  obtain rfl | rfl := h
  · rw [takeTurn_homeMismatch]
    rfl
  · rw [takeTurn_homeMissing]
    rfl

/-- Settles O20, from the tracker that the event's turn leaves, which the other blocks and their faults leave alone. -/
theorem trayEdgeEventsTrack : Obligations.TrayEdgeEventsTrack := by
  unfold Obligations.TrayEdgeEventsTrack
  refine ⟨fun s home load confirm last ha => ?_, plausible_iff, period_eq⟩
  obtain ⟨htracker, hreport⟩ := trayOutcome_tracker (confirmReading s.tracker) last
    (takeTurn (trayTurn s.cfg home s.tracker) load (trackerTimes confirm (ageVacates s)))
  have hout := execTrayEdgeEvent_eq (home := home) (load := load) (confirm := confirm) (last := last) ha
  generalize trayOutcome _ _ _ = t at htracker hreport hout
  refine ⟨t, hout, ?_⟩
  rw [takeTurn_tracker] at htracker
  obtain ⟨htimer, hlatch, hbegun⟩ := turned_times (trayTurn s.cfg home s.tracker)
    (trackerTimes confirm (ageVacates s)).cfg.window (trackerTimes confirm (ageVacates s)).tracker
  rw [← htracker] at htimer hlatch hbegun
  refine ⟨htimer, hlatch, hbegun, fun x hx hp => ?_, fun h (hh : historyFits s h) => ?_⟩
  · have hturn := trayTurn_of_implausible (home := home) (intervalPlausible_false hx hp)
    have hmissed : (takeTurn (trayTurn s.cfg home s.tracker) load (trackerTimes confirm (ageVacates s))).report =
        s.report.trayTimingFault := by
      rw [takeTurn_implausible hx hp]
      split
      · simp [State.missed]
      · rfl
    rw [hturn] at htracker
    rw [hmissed] at hreport
    rw [htracker]
    exact ⟨rfl, rfl, rfl, hreport.1, hreport.2.2⟩
  · have hhistory := turned_history (trayTurn_ne_implausible hh.plausible (home := home))
      (trackerTimes confirm (ageVacates s)).cfg.window (trackerTimes confirm (ageVacates s)).tracker
    have htimes : trackerTimes confirm (ageVacates s) = s.timed confirm h := hh.times
    have hmismatch (hturn : trayTurn s.cfg home s.tracker = .homeMismatch ∨ trayTurn s.cfg home s.tracker = .homeMissing) :
        t.report.counters.homeMismatches = min (s.report.counters.homeMismatches + 1) 65535 := by
      rw [hreport.2.1, takeTurn_report_home hturn]
      rfl
    rw [← htracker, htimes] at hhistory
    rw [htimes] at htracker
    refine ⟨hhistory, fun hu hfull => ?_, fun hu hnot => ?_, fun e ht he => ⟨fun hhome hround => ?_,
      fun hhome hround => ?_, fun hhome => ?_⟩⟩
    · rw [trayTurn_of_unsynced hh.plausible hu, hh.after, if_pos hfull] at htracker
      rw [htracker]
      exact ⟨rfl, rfl, rfl⟩
    · rw [trayTurn_of_unsynced hh.plausible hu, hh.after, if_neg hnot] at htracker
      rw [htracker]
      exact ⟨hu, rfl⟩
    · have hturn : trayTurn s.cfg home s.tracker = .homeMismatch := by
        rw [trayTurn_of_tracked hh.plausible ht he, if_pos hhome, if_neg hround]
      refine ⟨?_, ?_, ?_, hmismatch (.inl hturn)⟩ <;> rw [htracker, hturn] <;> rfl
    · have hturn : trayTurn s.cfg home s.tracker = .homeMissing := by
        rw [trayTurn_of_tracked hh.plausible ht he, if_neg (by simp [hhome]), if_pos hround]
      refine ⟨?_, ?_, hmismatch (.inr hturn)⟩ <;> rw [htracker, hturn] <;> rfl
    · rw [trayTurn_advances hh.plausible ht he hhome] at htracker
      rw [htracker]
      exact ⟨rfl, rfl, by simp only [Tracker.turned, Tracker.advanced, Bool.and_eq_true, beq_iff_eq]; rfl⟩

end Sys2Proof.Machine
end

section

/-! PROOFS. The decision tray that is yielded, with a HOLD or without one, and when a decision is due (R106 to R115):
O27. -/

namespace Sys2Proof.Machine

variable {s : State} {t : Tray} {x : Entry} {near far : List Entry} {r : Parcel} {c : Choice}

/-! ## A decided flag changes no tray's freedom and no cost (R81, R82, R110) -/

theorem entryOf_setDecided (t q : Tray) (s : State) :
    entryOf (setDecided t s) q =
      if q = t then (entryOf s q).map (fun e => { e with decided := true }) else entryOf s q :=
  find?_modifyFirst Entry.tray t q (fun e => { e with decided := true }) (fun _ => rfl) s.window.entries

theorem freeTray_setDecided (t q : Tray) (s : State) : freeTray (setDecided t s) q = freeTray s q := by
  rw [freeTray, freeTray, entryOf_setDecided, show (setDecided t s).cfg = s.cfg by simp]
  by_cases hq : q = t
  · rw [if_pos hq]
    cases entryOf s q <;> rfl
  · rw [if_neg hq]

theorem costOf_setDecided (t q : Tray) (s : State) : costOf (setDecided t s) q = costOf s q := by
  have hgoverning : (entryOf (setDecided t s) q).bind (·.governing) = (entryOf s q).bind (·.governing) := by
    rw [entryOf_setDecided]
    by_cases hq : q = t
    · rw [if_pos hq]
      cases entryOf s q <;> rfl
    · rw [if_neg hq]
  rw [costOf, costOf, hgoverning]
  rfl

/-! ## A claim that is not made (R110) -/

theorem claims_credited (t : Tray) (s : State) (r : Parcel) (h : claims (credited t s) t r = true) :
    (∀ q ∈ claimTrays s.cfg.trays t (r.span.getD .one), freeTray s q = true) ∧
      ((claimTrays s.cfg.trays t (r.span.getD .one)).map (costOf s)).sum ≤ min (s.share.credit + s.share.share) 32 ∧
      ∀ f ∈ s.line.queue, f.body.isClaim = false := by
  have hcfg : (credited t s).cfg = s.cfg := by simp [credited]
  have hcredit : (credited t s).share.credit = min (s.share.credit + s.share.share) 32 := by
    show min ((setDecided t s).share.credit + _) 32 = _
    simp
  have hline : (credited t s).line = s.line := by simp [credited]
  have hfree (q : Tray) : freeTray (credited t s) q = freeTray s q := freeTray_setDecided t q s
  have hcost : costOf (credited t s) = costOf s := funext fun q => costOf_setDecided t q s
  simp only [claims, claimCost, Bool.and_eq_true, List.all_eq_true, decide_eq_true_eq, claimAdmitted_iff, hcfg,
    hcredit, hline, hfree, hcost] at h
  exact ⟨h.1.1, h.1.2, h.2⟩

/-- What keeps the ready parcel from its claim of the free tray t (R110). -/
theorem not_claims (hx : entryOf s t = some x) (hfree : x.free s.cfg.ordinal = true)
    (h : (∃ f ∈ s.line.queue, f.body.isClaim = true) ∨
      (r.span == some .two && !freeTray s ((t + 1) % s.cfg.trays)) = true ∨
      (r.span ≠ some .two ∧ min (s.share.credit + s.share.share) 32 < x.cost) ∨
      (∃ y, r.span = some .two ∧ entryOf s ((t + 1) % s.cfg.trays) = some y ∧
        min (s.share.credit + s.share.share) 32 < x.cost + y.cost)) :
    claims (credited t s) t r = false := by
  refine Bool.eq_false_iff.mpr fun hclaims => ?_
  obtain ⟨hall, hcost, hqueue⟩ := claims_credited t s r hclaims
  have hfirst : costOf s t = x.cost := costOf_of_free hx hfree
  obtain ⟨f, hf, hclaim⟩ | hshort | ⟨hspan, hshort⟩ | ⟨y, hspan, hy, hshort⟩ := h
  · simp [hqueue f hf] at hclaim
  · obtain ⟨hspan, hbarred⟩ := Bool.and_eq_true_iff.mp hshort
    rw [eq_of_beq hspan] at hall
    simp [hall ((t + 1) % s.cfg.trays) (by simp [claimTrays, trayAdd])] at hbarred
  · have hone : r.span.getD .one = .one := by
      rcases hr : r.span with _ | _ | _
      · rfl
      · rfl
      · exact absurd hr hspan
    simp only [hone, claimTrays, List.map_cons, List.map_nil, List.sum_cons, List.sum_nil, hfirst] at hcost
    omega
  · rw [hspan] at hall hcost
    have hsecond : freeTray s ((t + 1) % s.cfg.trays) = true := hall _ (by simp [claimTrays, trayAdd])
    rw [freeTray, hy] at hsecond
    simp only [Option.getD_some, claimTrays, List.map_cons, List.map_nil, List.sum_cons, List.sum_nil, trayAdd, hfirst,
      costOf_of_free hy hsecond] at hcost
    omega

/-! ## The state from which a free tray is yielded (R109, R111) -/

/-- Whether the ready parcel finds its second tray not free (R111). -/
def secondBarred (s : State) (t : Tray) (r : Parcel) : Bool :=
  r.span == some .two && !freeTray s ((t + 1) % s.cfg.trays)

/-- The free decision tray decided, A raised, and the starve count with it where the second tray is barred. -/
def unclaimed (near : List Entry) (x : Entry) (far : List Entry) (t : Tray) (s : State) : State :=
  { s with
    window := { s.window with entries := near ++ { x with decided := true } :: far }
    share := { s.share with
      credit := min (s.share.credit + s.share.share) 32
      starve := if (readyParcel s).any (secondBarred s t) then min (s.share.starve + 1) 255 else s.share.starve } }

theorem setDecided_split (hw : s.window.entries = near ++ x :: far) (hx : x.tray = t)
    (hn : ∀ y ∈ near, y.tray ≠ t) :
    setDecided t s = { s with window := { s.window with entries := near ++ { x with decided := true } :: far } } :=
  updateEntry_split (fun y => { y with decided := true }) hw hx hn

theorem decideTray_unclaimed (e : Tray) (hw : s.window.entries = near ++ x :: far) (hx : x.tray = t)
    (hn : ∀ y ∈ near, y.tray ≠ t) (hfree : x.free s.cfg.ordinal = true)
    (hnot : ∀ r, readyParcel s = some r → claims (credited t s) t r = false) :
    decideTray e t s = yieldTray t (unclaimed near x far t s) := by
  have hfreeTray : freeTray (setDecided t s) t = true := by
    rw [freeTray_setDecided, freeTray, entryOf_split hw hx hn]
    exact hfree
  have hsecond (q : Tray) : freeTray (credited t s) q = freeTray s q := freeTray_setDecided t q s
  have hcredited : credited t s = { s with
      window := { s.window with entries := near ++ { x with decided := true } :: far }
      share := { s.share with credit := min (s.share.credit + s.share.share) 32 } } := by
    rw [credited, setDecided_split hw hx hn]
    rfl
  have hready : readyParcel (credited t s) = readyParcel s := by simp [credited, readyParcel]
  have hdecide : decideTray e t s = match readyParcel (credited t s) with
      | none => yieldTray t (credited t s)
      | some r => if claims (credited t s) t r then makeClaim e t r (credited t s)
        else yieldTray t (starveSecond t r (credited t s)) := by
    unfold decideTray
    exact if_pos hfreeTray
  rw [hdecide, hready, unclaimed]
  rcases hr : readyParcel s with _ | r
  · dsimp only
    rw [hcredited]
    rfl
  · dsimp only
    have hcfg : (credited t s).cfg = s.cfg := by simp [credited]
    rw [if_neg (by simp [hnot r hr]), starveSecond, hsecond, hcfg, Option.any_some, secondBarred, trayAdd]
    split
    · rw [hcredited]
      rfl
    · rw [hcredited]

/-! ## Yielding (R112 to R115) -/

theorem placeHold_split (hw : s.window.entries = near ++ x :: far) (hx : x.tray = t)
    (hn : ∀ y ∈ near, y.tray ≠ t) :
    placeHold t c s =
      { s with
        window := { s.window with entries := near ++ { x with mark := .heldByMe } :: far }
        share := { s.share with
          held := s.share.held ++
            [{ tray := t, target := c.target, sent := false,
               expiry := (t + (traySub s.cfg.trays ((peerOf s c.target).offset.getD 0) s.cfg.offset + 2)) %
                 s.cfg.trays }]
          upper := c.position
          lower := if c.position = 15 then c.target else s.share.lower }
        line := { s.line with queue := s.line.queue ++ [.fresh (.hold t c.target)] }
        report := { s.report with counters := s.report.counters.raise .holdsPlaced } } := by
  have hmark (u : State) (hu : u.window.entries = s.window.entries) :
      setMark .heldByMe t u =
        { u with window := { u.window with entries := near ++ { x with mark := .heldByMe } :: far } } :=
    updateEntry_split (fun y => { y with mark := .heldByMe }) (hu.trans hw) hx hn
  unfold placeHold
  dsimp only
  rw [hmark _ (by simp)]
  simp only [beq_iff_eq]
  rfl

theorem yieldTray_holds (hx : entryOf s t = some x) (hg : x.governing = none) (hheld : s.share.held.length < 8)
    (hroom : s.line.queue.countP (·.body.isHoldOrVacate) < 5) (hc : chooseTarget s = some c) :
    yieldTray t s = placeHold t c s := by
  have hadmitted : holdAdmitted s = true := decide_eq_true hroom
  have hlist : s.share.held.length < Config.heldRoom := hheld
  rw [yieldTray, if_pos (by simp [hx, hg, hlist, hadmitted]), hc]

theorem yieldTray_keeps (hx : entryOf s t = some x)
    (h : x.governing ≠ none ∨ 8 ≤ s.share.held.length ∨ 5 ≤ s.line.queue.countP (·.body.isHoldOrVacate) ∨
      chooseTarget s = none) :
    yieldTray t s = s := by
  unfold yieldTray
  split
  · rename_i hcan
    rw [hx] at hcan
    simp only [Bool.and_eq_true, Option.any_some, Option.isNone_iff_eq_none, decide_eq_true_eq] at hcan
    obtain ⟨⟨hg, hheld⟩, hadmitted⟩ := hcan
    have hroom : s.line.queue.countP (·.body.isHoldOrVacate) < 5 := of_decide_eq_true hadmitted
    have hlist : s.share.held.length < 8 := hheld
    obtain h | h | h | h := h
    · exact absurd hg h
    · omega
    · omega
    · rw [h]
  · rfl

/-- A decision tray that is not free raises the starve count of a lane with a ready parcel (R111). -/
theorem decideTray_not_free (e : Tray) (hw : s.window.entries = near ++ x :: far) (hx : x.tray = t)
    (hn : ∀ y ∈ near, y.tray ≠ t) (hfree : x.free s.cfg.ordinal = false) :
    decideTray e t s =
      { s with
        window := { s.window with entries := near ++ { x with decided := true } :: far }
        share := { s.share with starve :=
          if (readyParcel s).isSome then min (s.share.starve + 1) 255 else s.share.starve } } := by
  have hnot : ¬ freeTray (setDecided t s) t = true := by
    rw [freeTray_setDecided, freeTray, entryOf_split hw hx hn]
    simp [hfree]
  have hready : readyParcel (setDecided t s) = readyParcel s := by simp [readyParcel]
  have hdecide : decideTray e t s = match readyParcel (setDecided t s) with
      | none => setDecided t s
      | some _ => raiseStarve (setDecided t s) := by
    unfold decideTray
    exact if_neg hnot
  rw [hdecide, hready, setDecided_split hw hx hn]
  cases readyParcel s <;> rfl

/-! ## When a decision is due (R102, R106 to R108) -/

theorem epochEvent_eq (s : State) : epochEvent s =
    if s.share.epochCount = 7 then epochBoundary { s with share := { s.share with epochCount := 0 } }
    else { s with share := { s.share with epochCount := s.share.epochCount + 1 } } := by
  have hnext : (boundaryNext s = true) = (s.share.epochCount = 7) := by
    simp [boundaryNext, Config.epochLength]
  simp only [epochEvent, hnext]
  rfl

theorem expireHolds_share (e : Tray) (s : State) :
    (expireHolds e s).share = { s.share with
      held := s.share.held.filter (fun h => h.expiry != e), peers := (expireHolds e s).share.peers } := by
  have hlapse (u : State) (j : LaneOrdinal) :
      (recordLapse j u).share = { u.share with peers := (recordLapse j u).share.peers } := by
    unfold recordLapse
    dsimp only
    split <;> rfl
  have hfold (l : List PlacedHold) (u : State) : (l.foldl (fun s h => recordLapse h.target s) u).share =
      { u.share with peers := (l.foldl (fun s h => recordLapse h.target s) u).share.peers } := by
    induction l generalizing u with
    | nil => rfl
    | cons h l ih =>
      rw [List.foldl_cons, ih, hlapse]
  exact hfold _ _

theorem passOver_closed (e h0 : Nat) (h : (s.window.entries.map (·.tray)).Nodup) :
    passOver e h0 s = { s with window := { s.window with
      entries := s.window.entries.map (fun x =>
        if ∃ i < s.launch.horizon - h0, x.tray = (e + (h0 + i)) % s.cfg.trays then { x with decided := true }
        else x) } } := by
  have hjumped (x : Entry) :
      (x.tray ∈ (List.range (s.launch.horizon - h0)).map (fun i => trayAdd s.cfg.trays e (h0 + i))) =
        ∃ i < s.launch.horizon - h0, x.tray = (e + (h0 + i)) % s.cfg.trays := by
    simp [trayAdd, eq_comm]
  rw [passOver_eq e h0 s h]
  simp only [hjumped]

theorem decisionDue_iff (wasRunning : Bool) (s : State) (t : Tray) :
    decisionDue wasRunning s t = true ↔
      wasRunning = true ∧ s.tracker.tracking = .locked ∧ s.launch.horizon ≤ s.cfg.window - 1 ∧
        ∃ x, entryOf s t = some x ∧ x.decided = false := by
  simp [decisionDue, and_assoc, Option.any_eq_true]

/-! ## Where the station is not Running (R107, R157) -/

/-- A hold cause reported outside Running leaves the commitment. -/
theorem reportHorizon_commitment (hm : s.station.mode ≠ .running) :
    (reportHorizon s).launch.commitment = s.launch.commitment := by
  have hadd (c : HoldCause) : (addHold c s).launch.commitment = s.launch.commitment := by
    unfold addHold
    split
    · rfl
    · dsimp only
      rw [if_neg (by simp [hm])]
      simp
  unfold reportHorizon
  split
  · exact hadd _
  · simp

theorem epochEvent_share (s : State) :
    (epochEvent s).share.credit = s.share.credit ∧ (epochEvent s).share.starve = s.share.starve ∧
      (epochEvent s).share.upper = s.share.upper ∧ (epochEvent s).share.lower = s.share.lower ∧
      (epochEvent s).share.held = s.share.held := by
  rw [epochEvent_eq]
  split
  · simp [epochBoundary_eq, boundaryShare_share]
  · exact ⟨rfl, rfl, rfl, rfl, rfl⟩

theorem epochEvent_commitment (hm : s.station.mode ≠ .running) :
    (epochEvent s).launch.commitment = s.launch.commitment := by
  rw [epochEvent_eq]
  split
  · rw [epochBoundary_eq]
    simp only [statInterval_frame, recomputeInterval_frame, recomputeHorizon]
    rw [reportHorizon_commitment (by simpa using hm)]
    simp
  · rfl

theorem setDecided_marks (t : Tray) (s : State) :
    (setDecided t s).window.entries.map (fun x => (x.tray, x.mark)) =
      s.window.entries.map (fun x => (x.tray, x.mark)) := by
  show (modifyFirst _ _ _).map _ = _
  exact modifyFirst_map _ (fun e : Entry => { e with decided := true }) (fun x => (x.tray, x.mark)) (fun _ => rfl) _

theorem passOver_marks (e h0 : Nat) (s : State) :
    (passOver e h0 s).window.entries.map (fun x => (x.tray, x.mark)) =
      s.window.entries.map (fun x => (x.tray, x.mark)) :=
  foldl_keeps (P := fun u => u.window.entries.map (fun x => (x.tray, x.mark)) =
    s.window.entries.map (fun x => (x.tray, x.mark))) (fun _ _ hu => (setDecided_marks _ _).trans hu) _ rfl

/-- The state in which the share unit asks the free-tray question (R101, R108, R118). -/
def sharePassed (e : Tray) (s : State) : State := passOver e s.launch.horizon (epochEvent (expireHolds e s))

theorem freeTray_sharePassed (e q : Tray) (s : State) : freeTray (sharePassed e s) q = freeTray s q := by
  have hepoch : freeTray (epochEvent (expireHolds e s)) q = freeTray s q := by simp [freeTray, entryOf]
  exact foldl_keeps (P := fun u => freeTray u q = freeTray s q)
    (fun u _ hu => (freeTray_setDecided _ q u).trans hu) _ hepoch

theorem shareEvent_tracked {e : Tray} (he : s.tracker.count = some e) :
    shareEvent s =
      if s.tracker.tracking = .locked then
        if decisionDue (s.station.mode == .running)
            (countFree ((e + (sharePassed e s).launch.horizon) % s.cfg.trays) (sharePassed e s))
            ((e + (sharePassed e s).launch.horizon) % s.cfg.trays) then
          decideTray e ((e + (sharePassed e s).launch.horizon) % s.cfg.trays)
            (countFree ((e + (sharePassed e s).launch.horizon) % s.cfg.trays) (sharePassed e s))
        else countFree ((e + (sharePassed e s).launch.horizon) % s.cfg.trays) (sharePassed e s)
      else sharePassed e s := by
  have htracker : (sharePassed e s).tracker = s.tracker := by simp [sharePassed]
  have hcfg : (sharePassed e s).cfg = s.cfg := by simp [sharePassed]
  unfold shareEvent
  rw [he]
  dsimp only
  rw [← sharePassed, htracker, hcfg]
  by_cases hlocked : s.tracker.tracking = .locked
  · rw [if_pos (beq_iff_eq.mpr hlocked), if_pos hlocked]
    rfl
  · rw [if_neg (mt beq_iff_eq.mp hlocked), if_neg hlocked]

theorem epochEvent_expireHolds (e : Tray) (s : State) : epochEvent (expireHolds e s) =
    if s.share.epochCount = 7 then
      epochBoundary { expireHolds e s with share := { (expireHolds e s).share with epochCount := 0 } }
    else { expireHolds e s with share := { (expireHolds e s).share with epochCount := s.share.epochCount + 1 } } := by
  have hcount : (expireHolds e s).share.epochCount = s.share.epochCount := by rw [expireHolds_share]
  rw [epochEvent_eq, hcount]

theorem sharePassed_eq (e : Tray) {counted : State} (hcounted : epochEvent (expireHolds e s) = counted)
    (h : (s.window.entries.map (·.tray)).Nodup) :
    sharePassed e s = { counted with window := { s.window with
      entries := s.window.entries.map (fun x =>
        if ∃ i < counted.launch.horizon - s.launch.horizon, x.tray = (e + (s.launch.horizon + i)) % s.cfg.trays
          then { x with decided := true } else x) } } := by
  have hwindow : counted.window = s.window := by simp [← hcounted]
  have hcfg : counted.cfg = s.cfg := by simp [← hcounted]
  rw [sharePassed, hcounted, passOver_closed _ _ (by rw [hwindow]; exact h), hwindow, hcfg]

/-- What no event changes while the station is not Running: A, the starve count, the pointers, the own marks and the
commitment stand as in `x`, and no hold is placed. -/
structure SharesRest (x s : State) : Prop where
  credit     : s.share.credit = x.share.credit
  starve     : s.share.starve = x.share.starve
  upper      : s.share.upper = x.share.upper
  lower      : s.share.lower = x.share.lower
  held       : ∀ h ∈ s.share.held, h ∈ x.share.held
  marks      : s.window.entries.map (fun y => (y.tray, y.mark)) = x.window.entries.map (fun y => (y.tray, y.mark))
  commitment : s.launch.commitment = x.launch.commitment

theorem SharesRest.refl (s : State) : SharesRest s s := ⟨rfl, rfl, rfl, rfl, fun _ => id, rfl, rfl⟩

theorem SharesRest.epochEvent {x : State} (h : SharesRest x s) (hm : s.station.mode ≠ .running) :
    SharesRest x (epochEvent s) := by
  obtain ⟨hcredit, hstarve, hupper, hlower, hheld⟩ := epochEvent_share s
  exact ⟨hcredit.trans h.credit, hstarve.trans h.starve, hupper.trans h.upper, hlower.trans h.lower,
    by rw [hheld]; exact h.held, by simpa using h.marks, (epochEvent_commitment hm).trans h.commitment⟩

theorem SharesRest.expireHolds {x : State} (h : SharesRest x s) (e : Tray) : SharesRest x (expireHolds e s) := by
  refine ⟨?_, ?_, ?_, ?_, fun p hp => ?_, by simpa using h.marks, by simpa using h.commitment⟩
  case refine_5 =>
    rw [expireHolds_share] at hp
    exact h.held p (List.mem_filter.mp hp).1
  all_goals rw [expireHolds_share]
  · exact h.credit
  · exact h.starve
  · exact h.upper
  · exact h.lower

theorem SharesRest.passOver {x : State} (h : SharesRest x s) (e h0 : Nat) : SharesRest x (passOver e h0 s) := by
  have hshare : (Machine.passOver e h0 s).share = s.share := by simp
  refine ⟨?_, ?_, ?_, ?_, ?_, (passOver_marks e h0 s).trans h.marks, by simpa using h.commitment⟩ <;> rw [hshare]
  · exact h.credit
  · exact h.starve
  · exact h.upper
  · exact h.lower
  · exact h.held

theorem SharesRest.countFree {x : State} (h : SharesRest x s) (t : Tray) : SharesRest x (countFree t s) := by
  rw [countFree_eq]
  exact ⟨h.credit, h.starve, h.upper, h.lower, h.held, h.marks, h.commitment⟩

theorem shareEvent_rests (hm : s.station.mode ≠ .running) : SharesRest s (shareEvent s) := by
  rcases he : s.tracker.count with _ | e
  · rw [shareEvent, he]
    exact (SharesRest.refl s).epochEvent hm
  · have hpassed : SharesRest s (sharePassed e s) :=
      (((SharesRest.refl s).expireHolds e).epochEvent (by simpa using hm)).passOver _ _
    have hidle : (s.station.mode == .running) = false := beq_eq_false_iff_ne.mpr hm
    rw [shareEvent_tracked he, hidle]
    split
    · rw [if_neg (by simp [decisionDue_iff])]
      exact hpassed.countFree _
    · exact hpassed

/-- Settles O27: the claim that is not made leaves the tray to be yielded, and the share unit's event decides with the
H that the epoch has left. -/
theorem decisionTraysAreYielded : Obligations.DecisionTraysAreYielded := by
  unfold Obligations.DecisionTraysAreYielded
  refine ⟨?unclaimed, fun s e t x near far hw hx hn hfree => decideTray_not_free e hw hx hn hfree, ?unsynced, ?tracked,
    ?idle⟩
  case unclaimed =>
    intro s e t x near far hw hx hn hfree credit second cost short hnot share
    have hentry : entryOf (unclaimed near x far t s) t = some { x with decided := true } :=
      entryOf_split rfl hx hn
    have hyields := decideTray_unclaimed e hw hx hn hfree fun r hr =>
      not_claims (entryOf_split hw hx hn) hfree (hnot r hr)
    refine ⟨fun c hg hheld hroom hc => ?_, fun h => ?_⟩
    · rw [hyields, yieldTray_holds hentry hg hheld hroom hc, placeHold_split (s := unclaimed near x far t s) rfl hx hn]
      rfl
    · rw [hyields, yieldTray_keeps hentry h]
      rfl
  case unsynced =>
    intro s hc
    rw [← epochEvent_eq, shareEvent, hc]
  case tracked =>
    intro s e he hnodup expired counted h passed t asked due
    have hcounted : epochEvent (expireHolds e s) = counted := epochEvent_expireHolds e s
    have hpassed : sharePassed e s = passed := sharePassed_eq e hcounted hnodup
    have hcfg : counted.cfg = s.cfg := by simp [← hcounted]
    have htracker : counted.tracker = s.tracker := by simp [← hcounted]
    have hfree : freeTray passed t = freeTray s t := hpassed ▸ freeTray_sharePassed e t s
    have hasked : countFree t passed = asked := by rw [countFree_eq, hfree]
    have hdue : decisionDue (s.station.mode == .running) asked t = true ↔ s.tracker.tracking = .locked ∧ due := by
      have hlooks : asked.tracker = s.tracker ∧ asked.cfg = s.cfg := ⟨htracker, hcfg⟩
      rw [decisionDue_iff, hlooks.1, hlooks.2, beq_iff_eq]
      exact ⟨fun ⟨hr, hl, hd⟩ => ⟨hl, hr, hd⟩, fun ⟨hl, hr, hd⟩ => ⟨hr, hl, hd⟩⟩
    rw [shareEvent_tracked he, hpassed]
    refine ⟨fun hlocked => if_neg hlocked, fun hlocked => ?_⟩
    rw [if_pos hlocked, show countFree ((e + passed.launch.horizon) % s.cfg.trays) passed = asked from hasked]
    exact ⟨fun h => if_pos (hdue.mpr ⟨hlocked, h⟩), fun h => if_neg fun h' => h (hdue.mp h').2⟩
  case idle =>
    intro s hm u
    obtain ⟨hcredit, hstarve, hupper, hlower, hheld, hmarks, hcommitment⟩ := shareEvent_rests hm
    exact ⟨hcredit, hstarve, hupper, hlower, hheld, hmarks, hcommitment⟩

end Sys2Proof.Machine
end
